-- ==== Sys2Proof/Word.lean ====
section
/-! DEFINITION. The word types of the IW1215 model: the bytes and fields the link carries, the head
sets of the head bus, and the plain points of the design and of the frame. -/

namespace Sys2Proof

/-- One byte of the link (R179). -/
abbrev Byte := BitVec 8

/-- A two-byte field (speed, angle, coordinate, head set; R199). -/
abbrev Half := BitVec 16

/-- A three-byte field (index; R199). -/
abbrev Index3 := BitVec 24

/-- A four-byte field (time, offset, parameter value; R199). -/
abbrev Word := BitVec 32

/-- A set of heads, one flag per head: bit 0 is head 1, bit 11 head 12 (R199). -/
abbrev HeadSet := BitVec 12

/-- Head number h of the handbook (1..12) is the element h - 1. -/
abbrev Head := Fin 12

/-- Action channels 0..11. -/
abbrev Chan := Fin 12

/-- Notice sources 0..29 (R187). -/
abbrev Source := Fin 30

/-- Function codes 0..63. -/
abbrev Code := Fin 64

/-- A point or a displacement, in units of 0.1 mm (or in steps), one integer per axis. -/
structure Pt where
  x : Int
  y : Int
  deriving DecidableEq, Repr

namespace Pt

/-- The origin. -/
def zero : Pt := ⟨0, 0⟩

/-- Axis by axis sum. -/
def add (a b : Pt) : Pt := ⟨a.x + b.x, a.y + b.y⟩

/-- Axis by axis difference. -/
def sub (a b : Pt) : Pt := ⟨a.x - b.x, a.y - b.y⟩

end Pt

end Sys2Proof
end

