-- ==== Sys2Proof/Config.lean ====
section
/-! DEFINITION. What every part that follows the handbook fixes: sizes, limits and the fixed times of
its rules. No value of the handbook is left open in a way that needs an uninterpreted constant, so no
constant of this file is opaque (notes/assumptions/1.md). -/

namespace Sys2Proof.Config

/-- Slots of the record ring (R2). -/
def slots : Nat := 65536

/-- The highest value an index field holds; fill goes no further (R2), and as a field it is "none" (R199). -/
def indexTop : Nat := 16777215

/-- Entries of the lookahead (R47). -/
def lookahead : Nat := 48

/-- Turn records counted by a pending report, and the count an automatic resumption needs (R13, R99). -/
def resumeTurns : Nat := 48

/-- Gaps one head can hold (R161, R165). -/
def gapLimit : Nat := 8

/-- Secondary causes a stop report records (R92). -/
def secondaryLimit : Nat := 8

/-- Replies the reply queue holds (R184). -/
def replyLimit : Nat := 8

/-- Complete frames the receive buffer holds (R183). -/
def bufferLimit : Nat := 2

/-- Milliseconds of the sensor test timer (R153). -/
def sensorTestMs : Nat := 50

/-- Milliseconds without a byte after which a partial frame is abandoned (R182). -/
def interByteMs : Nat := 2

/-- Readings of 0 or 1,023 in a row that make a SENSOR fault (R151). -/
def railLimit : Nat := 8

/-- Equal readings in a row that make a SENSOR fault (R151). -/
def stuckLimit : Nat := 64

/-- Overrun revolutions that raise STOP_FAIL (R37). -/
def overrunLimit : Nat := 3

/-- Records of one LOAD (R7). -/
def loadLimit : Nat := 82

/-- The part revision of a part that follows the handbook (R204). -/
def partRevision : Nat := 1

/-- The start byte of a frame (R180). -/
def startByte : Byte := 0xA5

/-- The kind byte of a notice (R198). -/
def noticeKind : Byte := 0xFE

/-- The ceiling of a quiet time or of a running time kept in milliseconds: a count that has reached it
stays there. Every time the handbook compares with is at most 10,000 ms. -/
def quietTop : Nat := 65535

end Sys2Proof.Config
end

