-- ==== Sys2Proof/Syntax.lean ====
section
/-! DEFINITION. The commands of the part: one constructor of `Instr` for every row of the table of
operations and events. A request carries its tag and its body's fields at the width the link gives
them (R200), unchecked: the checks are the command's meaning. An event carries what the machine lines
bring with it. -/

namespace Sys2Proof

/-- Direction of a quadrature count (section 2.1). -/
inductive Dir where
  | forward
  | reverse
  deriving DecidableEq, Repr

/-- The two frame axes. -/
inductive Axis where
  | x
  | y
  deriving DecidableEq, Repr

/-- What the blocks take at one arrival of an angle. Several marks may share an angle, and the part does
not order them (R28); an encoder command carries the order in which they are taken
(notes/assumptions/4.md). `completion` and `retention` are the Thread Monitors' and Head Table's part and
the Design Store's part of a turn completion, `call` is the call for the next turn (R89). -/
inductive Taker where
  | overrun
  | completion
  | retention
  | call
  | windowEnd
  | jumpEnd
  | rest
  | brake
  | gateStart
  | gateEnd
  | sample
  | channel (c : Chan)
  deriving DecidableEq, Repr

/-- One point of an axis time table as LOAD TABLE carries it: steps, then microseconds (R42, R200). -/
structure RawPoint where
  steps : Half
  time  : Word
  deriving DecidableEq, Repr

/-- One action item of a map entry body (R202). -/
structure RawAction where
  chan       : Byte
  action     : Byte
  startRevs  : Byte
  startAngle : Half
  endRevs    : Byte
  endAngle   : Half
  deriving DecidableEq, Repr

/-- The body of LOAD MAP ENTRY (R202); the number of items is the list's length. -/
structure RawEntry where
  code   : Byte
  effect : Byte
  speed  : Half
  count  : Byte
  scope  : Byte
  slack  : Byte
  items  : List RawAction
  deriving DecidableEq, Repr

/-- The commands, in the order of the table. `tension` operands are levels now standing on the tension
inputs of heads 1, 2, … (a head the list does not reach keeps its level); `order` is the order in which the
blocks take one arrival. -/
inductive Instr where
  /-- POWER_ON (R193); the level of the rate strap. -/
  | powerOn (strapHigh : Bool)
  /-- STORE_CHECK_DONE (R22): the lowest failing slot, or none for PASSED. -/
  | storeCheckDone (failed : Option Half)
  /-- RESTART_RESET (R194). -/
  | restartReset
  /-- FRAME_COMPLETE (R183): a frame completes with these fields and these CRC bytes. -/
  | frameComplete (kind tag : Byte) (body : List Byte) (crc : Half)
  /-- INTER_BYTE_TIMEOUT (R182). -/
  | interByteTimeout
  /-- UNKNOWN_KIND_FRAME (R184): a frame of no request kind. -/
  | unknownKindFrame (kind tag : Byte) (body : List Byte) (crc : Half)
  /-- TRANSMIT_END (R186). -/
  | transmitEnd
  /-- QUERY_STATE (R204). -/
  | queryState (tag page : Byte)
  /-- QUERY_HEAD (R159). -/
  | queryHead (tag head : Byte)
  /-- QUERY_GAPS (R169). -/
  | queryGaps (tag head : Byte)
  /-- SET_PARAM (R195). -/
  | setParam (tag id : Byte) (value : Word)
  /-- GET_PARAM (R196). -/
  | getParam (tag id : Byte)
  /-- LOAD_TABLE (R42). -/
  | loadTable (tag axis : Byte) (points : List RawPoint)
  /-- LOAD_NEEDLE_PLAN (R128); the count is the list's length. -/
  | loadNeedlePlan (tag first : Byte) (values : List Byte)
  /-- LOAD_MAP_ENTRY (R109). -/
  | loadMapEntry (tag : Byte) (entry : RawEntry)
  /-- SWAP_MAP (R110). -/
  | swapMap (tag : Byte)
  /-- SET_CHANNEL (R115). -/
  | setChannel (tag chan type polarity : Byte)
  /-- DESIGN_OPEN (R4). -/
  | designOpen (tag : Byte) (x y : Half)
  /-- LOAD (R7); `data` is the body after the count. -/
  | load (tag : Byte) (start : Index3) (count : Byte) (data : List Byte)
  /-- DESIGN_DISCARD (R6). -/
  | designDiscard (tag : Byte)
  /-- ARM (R85). -/
  | arm (tag : Byte)
  /-- START (R86). -/
  | start (tag : Byte) (tension : List (BitVec 10))
  /-- STOP (R97). -/
  | stop (tag : Byte)
  /-- SPEED (R51). -/
  | speed (tag : Byte) (value : Half)
  /-- INJECT (R104). -/
  | inject (tag code : Byte)
  /-- BACKTRACK (R170). -/
  | backtrack (tag : Byte) (count : Half)
  /-- REPAIR (R171). -/
  | repair (tag : Byte) (heads : Half)
  /-- REPAIR_ABANDON (R177). -/
  | repairAbandon (tag : Byte)
  /-- FRAME_OUT (R75). -/
  | frameOut (tag : Byte) (dx dy : Half)
  /-- FRAME_RETURN (R77). -/
  | frameReturn (tag : Byte)
  /-- HOME (R71); `switches` are levels now standing on the reference switches (X, Y), none: unchanged. -/
  | home (tag : Byte) (switches : Option (Bool × Bool))
  /-- NEEDLE_UP (R38). -/
  | needleUp (tag : Byte)
  /-- NEEDLE_SELECT (R135). -/
  | needleSelect (tag needle : Byte)
  /-- SENSOR_TEST (R154). -/
  | sensorTest (tag : Byte) (heads : Half) (tension : List (BitVec 10))
  /-- CHANNEL_TEST (R123). -/
  | channelTest (tag chan : Byte) (heads duration : Half)
  /-- HEAD_MODE_ENABLE (R162). -/
  | headModeEnable (tag head : Byte)
  /-- HEAD_MODE_DISABLE (R162). -/
  | headModeDisable (tag head : Byte)
  /-- HEAD_MODE_ISOLATE (R162). -/
  | headModeIsolate (tag head : Byte)
  /-- HEAD_MODE_POLICY_STOP (R162). -/
  | headModePolicyStop (tag head : Byte)
  /-- HEAD_MODE_POLICY_ISOLATE (R162). -/
  | headModePolicyIsolate (tag head : Byte)
  /-- HEAD_CLEAR (R168). -/
  | headClear (tag head : Byte)
  /-- GAP_DROP (R169). -/
  | gapDrop (tag head : Byte)
  /-- BOBBIN_SET (R156); 4,294,967,295 is UNCOUNTED (R200). -/
  | bobbinSet (tag head : Byte) (value : Word)
  /-- NOTICE_MASK (R191). -/
  | noticeMask (tag : Byte) (mask : Word)
  /-- NOTICE_TAKE (R192). -/
  | noticeTake (tag source : Byte)
  /-- CLEAR (R98). -/
  | clear (tag : Byte)
  /-- RESTART (R194). -/
  | restart (tag : Byte)
  /-- ENCODER_COUNT (R24). -/
  | encoderCount (dir : Dir) (tension : List (BitVec 10)) (order : List Taker)
  /-- ENCODER_INDEX (R25); `us` is the time in microseconds since the index before it. -/
  | encoderIndex (dir : Dir) (us : Word) (tension : List (BitVec 10)) (order : List Taker)
  /-- STOPPED_DETECTION (R31). -/
  | stoppedDetection
  /-- STALL (R35). -/
  | stall
  /-- DRIVE_LINE_CHANGE (R35): the levels now standing on DRIVE_READY and DRIVE_FAULT. -/
  | driveLineChange (ready fault : Bool)
  /-- ESTOP (R91): the E-STOP input becomes asserted (true), or is released (false). -/
  | estop (asserted : Bool)
  /-- MOVE_COMPLETE (R62). -/
  | moveComplete
  /-- CHUNK_COMPLETE (R63). -/
  | chunkComplete (tension : List (BitVec 10))
  /-- HOMING_STEP_COMPLETE (R72): the levels sampled on the X and Y reference switches (true: closed). -/
  | homingStepComplete (xClosed yClosed : Bool)
  /-- DWELL_EXPIRY (R79). -/
  | dwellExpiry
  /-- AUTOMATIC_START (R100). -/
  | automaticStart (tension : List (BitVec 10))
  /-- COLOUR_DELAY_EXPIRY (R101). -/
  | colourDelayExpiry
  /-- CHANNEL_TEST_EXPIRY (R123). -/
  | channelTestExpiry
  /-- NEEDLE_POSITION_CHANGE (R129): the value now standing on the position input. -/
  | needlePositionChange (value : BitVec 4)
  /-- NEEDLE_SETTLE_EXPIRY (R129). -/
  | needleSettleExpiry
  /-- NEEDLE_TIMEOUT_EXPIRY (R132). -/
  | needleTimeoutExpiry
  /-- LOST_WATCH_EXPIRY (R139). -/
  | lostWatchExpiry
  /-- THREAD_PULSE (R144). -/
  | threadPulse (head : Head)
  /-- SENSOR_TEST_EXPIRY (R153): the readings standing as the timer expires. -/
  | sensorTestExpiry (tension : List (BitVec 10))
  /-- BYTE_RECEIVED (R182); `stopOk` is false for a byte with a bad stop bit (R179). -/
  | byteReceived (b : Byte) (stopOk : Bool)
  /-- STEP_EMITTED (R62). -/
  | stepEmitted (axis : Axis)
  deriving DecidableEq, Repr

end Sys2Proof
end

