-- ==== Sys2Proof/Decode.lean ====
section
/-! DEFINITION. The words of the table of operations. The table gives no row any bits: a command of this part is a frame on the
link or an event on a line, and no word spells one (notes/assumptions/8.md). The frames of the requests are written and read in
Machine/Wire.lean. -/

namespace Sys2Proof

/-- The command that a word spells by the table's bits: none, since no row of the table has bits. -/
def decodeTableWord (_nbits _w : Nat) : Option Instr := none

end Sys2Proof
end

