-- ==== Sys2Proof/Machine/Params.lean ====
section
/-! DEFINITION. The parameter catalogue (R205): identifiers, ranges, defaults and change conditions. -/

namespace Sys2Proof.Machine

/-- The parameters, in the order of their identifiers 1..50 (R205). -/
inductive Param where
  /-- HEADS, identifier 1. -/
  | heads
  /-- NEEDLES, identifier 2. -/
  | needles
  /-- ENC_COUNTS, identifier 3. -/
  | encCounts
  /-- WIN_START, identifier 4. -/
  | winStart
  /-- WIN_END, identifier 5. -/
  | winEnd
  /-- JUMP_WIDTH, identifier 6. -/
  | jumpWidth
  /-- REST_ANGLE, identifier 7. -/
  | restAngle
  /-- REST_TOL, identifier 8. -/
  | restTol
  /-- BRAKE_LEAD, identifier 9. -/
  | brakeLead
  /-- SPEED_MIN, identifier 10. -/
  | speedMin
  /-- SPEED_TOP, identifier 11. -/
  | speedTop
  /-- SPEED_STOPENTRY, identifier 12. -/
  | speedStopEntry
  /-- SPEED_START, identifier 13. -/
  | speedStart
  /-- RAMP_UP, identifier 14. -/
  | rampUp
  /-- RAMP_DOWN, identifier 15. -/
  | rampDown
  /-- SPEED_REPAIR, identifier 16. -/
  | speedRepair
  /-- SPEED_SET, identifier 17. -/
  | speedSet
  /-- PITCH_X, identifier 18. -/
  | pitchX
  /-- PITCH_Y, identifier 19. -/
  | pitchY
  /-- LIMIT_X_MIN, identifier 20. -/
  | limitXMin
  /-- LIMIT_X_MAX, identifier 21. -/
  | limitXMax
  /-- LIMIT_Y_MIN, identifier 22. -/
  | limitYMin
  /-- LIMIT_Y_MAX, identifier 23. -/
  | limitYMax
  /-- REF_X, identifier 24. -/
  | refX
  /-- REF_Y, identifier 25. -/
  | refY
  /-- BACK_DWELL, identifier 26. -/
  | backDwell
  /-- HIST_DEPTH, identifier 27. -/
  | histDepth
  /-- LOW_MARK, identifier 28. -/
  | lowMark
  /-- AUTO_RESUME, identifier 29. -/
  | autoResume
  /-- COLOUR_RESTART, identifier 30. -/
  | colourRestart
  /-- COLOUR_DELAY, identifier 31. -/
  | colourDelay
  /-- COLOUR_TRIM, identifier 32. -/
  | colourTrim
  /-- NEEDLE_TIMEOUT, identifier 33. -/
  | needleTimeout
  /-- NEEDLE_SETTLE, identifier 34. -/
  | needleSettle
  /-- STALL_TIME, identifier 35. -/
  | stallTime
  /-- STOP_QUIET, identifier 36. -/
  | stopQuiet
  /-- SAMPLE_ANGLE, identifier 37. -/
  | sampleAngle
  /-- GATE_START, identifier 38. -/
  | gateStart
  /-- GATE_END, identifier 39. -/
  | gateEnd
  /-- PULSE_MIN, identifier 40. -/
  | pulseMin
  /-- BREAK_RUN, identifier 41. -/
  | breakRun
  /-- TEN_WINDOW, identifier 42. -/
  | tenWindow
  /-- TEN_COUNT, identifier 43. -/
  | tenCount
  /-- TEN_LOW, identifier 44. -/
  | tenLow
  /-- TEN_HIGH, identifier 45. -/
  | tenHigh
  /-- HOLDOFF, identifier 46. -/
  | holdoff
  /-- BOBBIN_WARN, identifier 47. -/
  | bobbinWarn
  /-- SENSOR_IDLE_MAX, identifier 48. -/
  | sensorIdleMax
  /-- SENSOR_REF_LO, identifier 49. -/
  | sensorRefLo
  /-- SENSOR_REF_HI, identifier 50. -/
  | sensorRefHi
  deriving DecidableEq, Repr

/-- When a parameter may be changed (R195, R205). -/
inductive Change where
  | idle
  | stopped
  | any
  deriving DecidableEq, Repr

/-- One row of the catalogue: the range, the default and the change condition. -/
structure ParamRow where
  lo      : Int
  hi      : Int
  default : Int
  change  : Change
  deriving DecidableEq, Repr

/-- The catalogue of R205, row by row. -/
def Param.row : Param → ParamRow
  | .heads => ⟨1, 12, 1, .idle⟩
  | .needles => ⟨1, 15, 15, .idle⟩
  | .encCounts => ⟨360, 4096, 1440, .idle⟩
  | .winStart => ⟨0, 359, 220, .stopped⟩
  | .winEnd => ⟨0, 359, 60, .stopped⟩
  | .jumpWidth => ⟨90, 330, 300, .stopped⟩
  | .restAngle => ⟨0, 359, 10, .stopped⟩
  | .restTol => ⟨1, 45, 10, .stopped⟩
  | .brakeLead => ⟨0, 90, 25, .stopped⟩
  | .speedMin => ⟨60, 400, 200, .stopped⟩
  | .speedTop => ⟨200, 1500, 1200, .stopped⟩
  | .speedStopEntry => ⟨40, 300, 120, .stopped⟩
  | .speedStart => ⟨60, 400, 250, .stopped⟩
  | .rampUp => ⟨10, 500, 60, .stopped⟩
  | .rampDown => ⟨10, 500, 40, .stopped⟩
  | .speedRepair => ⟨60, 1500, 400, .any⟩
  | .speedSet => ⟨0, 65535, 800, .any⟩
  | .pitchX => ⟨10, 2000, 40, .idle⟩
  | .pitchY => ⟨10, 2000, 40, .idle⟩
  | .limitXMin => ⟨-32000, 32000, 0, .idle⟩
  | .limitXMax => ⟨-32000, 32000, 6000, .idle⟩
  | .limitYMin => ⟨-32000, 32000, 0, .idle⟩
  | .limitYMax => ⟨-32000, 32000, 4000, .idle⟩
  | .refX => ⟨-32000, 32000, -50, .idle⟩
  | .refY => ⟨-32000, 32000, -50, .idle⟩
  | .backDwell => ⟨0, 500, 60, .stopped⟩
  | .histDepth => ⟨64, 32768, 2048, .stopped⟩
  | .lowMark => ⟨64, 32768, 4096, .stopped⟩
  | .autoResume => ⟨0, 1, 1, .any⟩
  | .colourRestart => ⟨0, 1, 0, .any⟩
  | .colourDelay => ⟨0, 10000, 1500, .any⟩
  | .colourTrim => ⟨0, 63, 0, .stopped⟩
  | .needleTimeout => ⟨200, 10000, 3000, .stopped⟩
  | .needleSettle => ⟨5, 200, 20, .stopped⟩
  | .stallTime => ⟨50, 2000, 300, .stopped⟩
  | .stopQuiet => ⟨20, 200, 50, .stopped⟩
  | .sampleAngle => ⟨0, 359, 150, .stopped⟩
  | .gateStart => ⟨0, 359, 80, .stopped⟩
  | .gateEnd => ⟨0, 359, 200, .stopped⟩
  | .pulseMin => ⟨1, 63, 2, .any⟩
  | .breakRun => ⟨1, 15, 3, .any⟩
  | .tenWindow => ⟨4, 32, 16, .stopped⟩
  | .tenCount => ⟨1, 32, 6, .stopped⟩
  | .tenLow => ⟨0, 1023, 180, .any⟩
  | .tenHigh => ⟨0, 1023, 820, .any⟩
  | .holdoff => ⟨0, 15, 4, .any⟩
  | .bobbinWarn => ⟨0, 100000, 2000, .any⟩
  | .sensorIdleMax => ⟨0, 1023, 100, .stopped⟩
  | .sensorRefLo => ⟨0, 1023, 400, .stopped⟩
  | .sensorRefHi => ⟨0, 1023, 600, .stopped⟩

/-- Every parameter, in the order of the identifiers. -/
def Param.all : List Param :=
  [.heads, .needles, .encCounts, .winStart, .winEnd, .jumpWidth,
   .restAngle, .restTol, .brakeLead, .speedMin, .speedTop, .speedStopEntry,
   .speedStart, .rampUp, .rampDown, .speedRepair, .speedSet, .pitchX,
   .pitchY, .limitXMin, .limitXMax, .limitYMin, .limitYMax, .refX,
   .refY, .backDwell, .histDepth, .lowMark, .autoResume, .colourRestart,
   .colourDelay, .colourTrim, .needleTimeout, .needleSettle, .stallTime, .stopQuiet,
   .sampleAngle, .gateStart, .gateEnd, .pulseMin, .breakRun, .tenWindow,
   .tenCount, .tenLow, .tenHigh, .holdoff, .bobbinWarn, .sensorIdleMax,
   .sensorRefLo, .sensorRefHi]

/-- The place of a parameter in the catalogue, its identifier less one. -/
def Param.place (p : Param) : Fin 50 :=
  ⟨p.ctorIdx, by cases p <;> decide⟩

/-- The identifier byte of a parameter. -/
def Param.ident (p : Param) : Nat := p.place.val + 1

/-- The parameter an identifier names, if any (check 1 of R195). -/
def Param.ofIdent (id : Nat) : Option Param :=
  if id = 0 then none else Param.all[id - 1]?

/-- The default value of every parameter, in the order of the identifiers. -/
def Param.defaults : Vector Int 50 :=
  ⟨(Param.all.map fun p => p.row.default).toArray, by decide⟩

end Sys2Proof.Machine
end

