-- ==== Sys2Proof/Machine/State.lean ====
section
/-! DEFINITION. The state of the part, block by block, as plain data: every item the handbook gives a block
(R3, R24 to R41, R59, R60, R83, R92, R107, R116, R127, R142, R161, R188, R193), the levels standing on
the machine lines, and the queue of commands that wait. `State.reset` is the part as power-on leaves it, with the
start-up store check running (R22, R193; notes/assumptions/2.md). -/

namespace Sys2Proof.Machine

/-! ### The Design Store (chapter 1) -/

/-- A design record (R1). -/
inductive Rec where
  | stitch (dx dy : Int)
  | jump (dx dy : Int)
  | function (code : Code)
  | colour
  | endRec
  deriving DecidableEq, Repr

/-- The start-up store check: not ended yet, or its result (R22). -/
inductive StoreCheck where
  | running
  | passed
  | failed (slot : Half)
  deriving DecidableEq, Repr

/-- The Design Store (R2, R3). The record with index k stands in slot k mod 65,536; `records` lists the
occupied slots in index order, from `retire` to `fill` - 1 (notes/assumptions/6.md). -/
structure Store where
  isOpen       : Bool
  origin       : Pt
  records      : List Rec
  retire       : Nat
  cursor       : Nat
  fill         : Nat
  fillPos      : Pt
  cursorPos    : Pt
  fillColour   : Nat
  cursorColour : Nat
  endLoaded    : Bool
  lowArmed     : Bool
  check        : StoreCheck
  deriving DecidableEq, Repr

/-! ### The Shaft Monitor (chapter 2) -/

/-- Whether the shaft is at rest (section 2.5). -/
inductive Motion where
  | stopped
  | turning
  deriving DecidableEq, Repr

/-- A brake order that waits for its mark (R34); an order "at once" never waits. -/
inductive BrakeOrder where
  | atBrakeMark
  | atRestMark
  | atOnce
  deriving DecidableEq, Repr

/-- The rest verdict (R36). -/
inductive Verdict where
  | onPosition
  | offPosition
  deriving DecidableEq, Repr

/-- A stopped report: the angle at rest (none: undefined), its verdict, the needle flag and the overrun count (R31). -/
structure StoppedReport where
  angle    : Option Nat
  verdict  : Verdict
  needleUp : Bool
  overrun  : Nat
  deriving DecidableEq, Repr

/-- The Shaft Monitor (R24 to R37). `timedRev` says that the revolution in progress is full so far (R27);
`quiet` is the time in milliseconds since the last count, `stall` the stall timer. The angle and the marks are
computed from the count and the parameters; a channel's marks are the angles of its dues (R116). -/
structure Shaft where
  count    : Int
  synced   : Bool
  motion   : Motion
  needleUp : Bool
  speed    : Nat
  revs     : Word
  timedRev : Bool
  line     : Nat
  brake    : Bool
  waiting  : Option BrakeOrder
  counting : Bool
  overrun  : Nat
  quiet    : Nat
  stall    : Option Nat
  deriving DecidableEq, Repr

/-! ### Stop causes and the Run Controller's records (chapter 5) -/

/-- The stop causes (R91). -/
inductive Cause where
  | operator
  | injectStop
  | headFault (h : Head)
  | allIsolated
  | colour
  | endRec
  | stopFunction
  | data
  | needlePlan
  | needleTimeout
  | moveLate
  | needleLost
  | estop
  | drive
  | stall
  | encoder
  | stopFail
  | store
  deriving DecidableEq, Repr

/-- The stop kinds (R83). -/
inductive StopKind where
  | controlled
  | quick
  | emergency
  deriving DecidableEq, Repr

/-! ### The Speed Planner (chapter 3) -/

/-- One point of an axis time table (R42). -/
structure TablePoint where
  steps : Nat
  time  : Nat
  deriving DecidableEq, Repr

/-- One entry of the lookahead (R47); `time` none marks an uncovered turn (R43). -/
structure Entry where
  index   : Nat
  jump    : Bool
  lx      : Int
  ly      : Int
  time    : Option Nat
  ceiling : Nat
  plan    : Nat
  deriving DecidableEq, Repr

/-- A stop point: its cause and its last turn j, none while no turn has been issued (R53). -/
structure StopPoint where
  cause : Cause
  last  : Option Nat
  deriving DecidableEq, Repr

/-- The Speed Planner (R45, R47, R53, R55, R58). A cap profile place that holds a cap is followed by no
empty place below it, so `caps` lists the caps of places 0, 1, … and every place past it is empty
(notes/assumptions/7.md). `freshAt` is the millisecond in which a LOAD ended an empty list, until the next issue
(R55, notes/assumptions/45.md). SPEED_SET is a parameter. -/
structure Planner where
  tableX    : Option (List TablePoint)
  tableY    : Option (List TablePoint)
  lookahead : List Entry
  caps      : List Nat
  stopPoint : Option StopPoint
  demand    : Nat
  held      : Bool
  prev      : Option Nat
  freshAt   : Option Word
  deriving DecidableEq, Repr

/-! ### The Frame Drive (chapter 4) -/

/-- The reference state (R69). -/
inductive RefState where
  | unreferenced
  | referenced
  | unsure
  deriving DecidableEq, Repr

/-- The purpose of a move (R60). -/
inductive Purpose where
  | turnMove
  | firstMove
  | stepMove
  | frameOut
  | returnMove
  | homingSearch
  | homingBackOff
  | homingEnd
  deriving DecidableEq, Repr

/-- The level of an axis's direction line, by the sign of the steps it stands for (R62). -/
inductive Way where
  | plus
  | minus
  deriving DecidableEq, Repr

/-- What asked for the move in progress to be the last one (R74, R80). -/
inductive AbortBy where
  | stop
  | needleDown
  deriving DecidableEq, Repr

/-- The move in progress (R60): its target, the end of the chunk being made, the steps still to emit
on each axis (signed), and for a turn move the record index and whether the record is a JUMP. -/
structure Move where
  purpose : Purpose
  target  : Pt
  chunk   : Pt
  leftX   : Int
  leftY   : Int
  turn    : Option Nat
  jump    : Bool
  abort   : Option AbortBy
  deriving DecidableEq, Repr

/-- The mark a turn move is timed against (R64). -/
inductive LateWatch where
  | windowEnd
  | jumpEnd
  deriving DecidableEq, Repr

/-- HOME in progress (R71 to R73): the axis being homed, whether its back-off has begun, the steps made in
each part, the budgets fixed at the start, and whether the operation ends with a move to the design point. -/
structure Homing where
  axis       : Axis
  backOff    : Bool
  atEnd      : Bool
  searchX    : Nat
  searchY    : Nat
  backX      : Nat
  backY      : Nat
  budgetX    : Nat
  budgetY    : Nat
  backLimitX : Nat
  backLimitY : Nat
  toDesign   : Bool
  deriving DecidableEq, Repr

/-- The Frame Drive (R60), with its two direction lines (R62). `coord` is meaningful while the reference state is not
UNREFERENCED. -/
structure Frame where
  stepX  : Int
  stepY  : Int
  dirX   : Way
  dirY   : Way
  coord  : Pt
  ref    : RefState
  offset : Pt
  move   : Option Move
  late   : Option LateWatch
  dwell  : Option Nat
  homing : Option Homing
  deriving DecidableEq, Repr

/-! ### The Run Controller (chapter 5) -/

/-- The run states (R84). -/
inductive RunState where
  | idle
  | ready
  | running
  | stopping
  | halted
  | locked
  deriving DecidableEq, Repr

/-- The run phases; NONE is the absence of one (R83). -/
inductive Phase where
  | starting
  | sewing
  | braking
  deriving DecidableEq, Repr

/-- A turn that has been issued: its index, its kind and the sew set formed for it (R83, R163). -/
structure Turn where
  index  : Nat
  jump   : Bool
  sewSet : HeadSet
  deriving DecidableEq, Repr

/-- A cause as the stop report records it (R92). -/
structure Recorded where
  cause : Cause
  index : Nat
  stamp : Word
  deriving DecidableEq, Repr

/-- The stop report (R92). -/
structure StopReport where
  primary    : Option Recorded
  kind       : Option StopKind
  angle      : Option Nat
  verdict    : Option Verdict
  overrun    : Nat
  secondary  : List Recorded
  incomplete : Option Nat
  discarded  : Option Code
  deriving DecidableEq, Repr

/-- The operations of the slot (R102). -/
inductive OpKind where
  | needleUp
  | home
  | frameOut
  | frameReturn
  | needleSelect
  | colourChange
  | sensorTest
  | channelTest
  | backtrack
  | repair
  | repairAbandon
  deriving DecidableEq, Repr

/-- Who started an operation (R102). -/
inductive Starter where
  | host
  | part
  deriving DecidableEq, Repr

/-- What a stepwise operation aims for: turns still to cross back, a bound to step back to, or a bound to
step forward to (R170, R172, R177). -/
inductive Goal where
  | back (turns : Nat)
  | downTo (bound : Nat)
  | upTo (bound : Nat)
  deriving DecidableEq, Repr

/-- The operation in the slot (R102); `aborted` marks a NEEDLE UP whose end waits for the shaft (R39). -/
structure Op where
  kind    : OpKind
  starter : Starter
  stamp   : Word
  goal    : Option Goal
  aborted : Bool
  deriving DecidableEq, Repr

/-- The automatic start the part waits to make; NONE is the absence of one (R83). -/
inductive Resume where
  | data
  | colour
  deriving DecidableEq, Repr

/-- The colour delay timer (R83, R101); `expired` is the expiry taken and the start not yet made. -/
inductive ColourTimer where
  | stopped
  | running (left : Nat)
  | expired
  deriving DecidableEq, Repr

/-- The repair context (R83, chapter 9). -/
structure Repair where
  active    : Bool
  selection : HeadSet
  resume    : Nat
  deriving DecidableEq, Repr

/-- The preparatory step, or the first move, that a start has in progress (R87, R88). -/
inductive Work where
  | returnMove
  | sensorTest
  | needle
  | firstMove
  deriving DecidableEq, Repr

/-- The Run Controller (R83). `work` and `rested` (the stopped report already taken) are what R88 and R96
make a stop wait for; `starter` is who made the latest start, the starter of its needle change (R127). -/
structure Run where
  state       : RunState
  phase       : Option Phase
  kind        : Option StopKind
  outstanding : Option Turn
  armed       : Bool
  report      : StopReport
  slot        : Option Op
  resume      : Option Resume
  colourTimer : ColourTimer
  repair      : Repair
  inject      : Option Code
  work        : Option Work
  rested      : Option StoppedReport
  starter     : Starter
  deriving DecidableEq, Repr

/-! ### The Function Unit (chapter 6) -/

/-- The effect of a map entry (R108). -/
inductive Effect where
  | none
  | slow (speed count : Nat)
  | stopAfter
  deriving DecidableEq, Repr

/-- What an action item does (R108). -/
inductive Act where
  | pulse (startRevs startAngle endRevs endAngle : Nat)
  | set
  | clear
  deriving DecidableEq, Repr

/-- An action item (R108). -/
structure Action where
  chan : Chan
  act  : Act
  deriving DecidableEq, Repr

/-- The head scope of an entry (R112). -/
inductive Scope where
  | sewing
  | enabled
  | common
  deriving DecidableEq, Repr

/-- A function map entry (R108). -/
structure MapEntry where
  effect  : Effect
  actions : List Action
  scope   : Scope
  slack   : Bool
  deriving DecidableEq, Repr

/-- The null entry (R108). -/
def MapEntry.null : MapEntry := ⟨.none, [], .sewing, false⟩

/-- The two map banks (R107). -/
inductive Bank where
  | a
  | b
  deriving DecidableEq, Repr

/-- The type of a channel (R115). -/
inductive ChanType where
  | common
  | perHead
  deriving DecidableEq, Repr

/-- The polarity of a channel (R115). -/
inductive Polarity where
  | activeHigh
  | activeLow
  deriving DecidableEq, Repr

/-- The latch part of a channel that is on (R116). -/
structure Latch where
  heads  : HeadSet
  common : Bool
  deriving DecidableEq, Repr

/-- A due: an angle and the arrivals at it still to be taken (R116). -/
structure Due where
  angle : Nat
  toGo  : Nat
  deriving DecidableEq, Repr

/-- The pulse part of a channel that is PENDING or ACTIVE (R116). -/
structure Pulse where
  active : Bool
  heads  : HeadSet
  common : Bool
  start  : Option Due
  stop   : Option Due
  deriving DecidableEq, Repr

/-- One action channel (R115, R116). -/
structure Channel where
  type     : ChanType
  polarity : Polarity
  latch    : Option Latch
  pulse    : Option Pulse
  deriving DecidableEq, Repr

/-- The channel under CHANNEL TEST (R107, R123). -/
structure ChanTest where
  chan     : Chan
  heads    : HeadSet
  duration : Nat
  left     : Nat
  deriving DecidableEq, Repr

/-- The Function Unit (R107). -/
structure FuncUnit where
  bankA    : Vector MapEntry 64
  bankB    : Vector MapEntry 64
  active   : Bank
  channels : Vector Channel 12
  test     : Option ChanTest
  deriving DecidableEq, Repr

/-! ### The Needle Bar Control (chapter 7) -/

/-- The purpose of a needle change (R130). -/
inductive ChangePurpose where
  | colour
  | select
  | start
  | landing
  deriving DecidableEq, Repr

/-- The change in progress (R127, R131): its purpose, its target, who started it, what is left of its timeout and the
stamp of REQUEST. -/
structure NeedleChange where
  purpose : ChangePurpose
  target  : Nat
  starter : Starter
  left    : Nat
  limit   : Nat
  stamp   : Word
  deriving DecidableEq, Repr

/-- The lost watch while armed: its needle, and its away timer while that runs (R138, R139). -/
structure LostWatch where
  needle : Nat
  away   : Option Nat
  deriving DecidableEq, Repr

/-- The Needle Bar Control (R127). The position input is a pin. -/
structure NeedleBar where
  plan    : Vector (Option Nat) 256
  settled : Option Nat
  settle  : Option Nat
  target  : Nat
  request : Bool
  change  : Option NeedleChange
  watch   : Option LostWatch
  deriving DecidableEq, Repr

/-! ### The Thread Monitors (chapter 8) -/

/-- The gate of a gathering (R142). -/
inductive Gate where
  | notYet
  | opened
  | closed
  deriving DecidableEq, Repr

/-- The figures gathered for one turn (R142). -/
structure Gathering where
  turn    : Nat
  pulses  : Nat
  gate    : Gate
  reading : Option (BitVec 10)
  deriving DecidableEq, Repr

/-- A tension verdict (R148). -/
inductive Tension where
  | low
  | inside
  | high
  deriving DecidableEq, Repr

/-- One entry of the tension window (R142). -/
structure WindowEntry where
  verdict : Tension
  turn    : Nat
  deriving DecidableEq, Repr

/-- What is known of a tension sensor (R152). -/
inductive SensorStatus where
  | notTested
  | passed
  | failed
  deriving DecidableEq, Repr

/-- The kinds of head fault (R158). -/
inductive FaultKind where
  | breakFault
  | lowTension
  | highTension
  | sensor
  | bobbin
  deriving DecidableEq, Repr

/-- Where a fault was found (R158). -/
inductive FaultSource where
  | run
  | startTest
  deriving DecidableEq, Repr

/-- A fault record (R158). -/
structure FaultRecord where
  kind   : FaultKind
  start  : Nat
  index  : Nat
  value  : Nat
  source : FaultSource
  deriving DecidableEq, Repr

/-- One Thread Monitor (R142); each first index is meaningful while its run is above 0. -/
structure Monitor where
  member       : Bool
  gatherings   : List Gathering
  breakRun     : Nat
  breakFirst   : Nat
  window       : List WindowEntry
  stuckRun     : Nat
  stuckReading : BitVec 10
  stuckFirst   : Nat
  railRun      : Nat
  railFirst    : Nat
  holdCount    : Nat
  holdFrom     : Nat
  bobbin       : Option Nat
  sensor       : SensorStatus
  fault        : Option FaultRecord
  deriving DecidableEq, Repr

/-- A sensor test in progress: its heads, the idle readings taken and what is left of its timer (R153). -/
structure SensorTest where
  heads : HeadSet
  idle  : Vector (BitVec 10) 12
  left  : Nat
  deriving DecidableEq, Repr

/-- The twelve Thread Monitors, the test-load outputs and the sensor test in progress (R142, R153). -/
structure ThreadUnit where
  monitors : Vector Monitor 12
  testLoad : HeadSet
  test     : Option SensorTest
  deriving DecidableEq, Repr

/-! ### The Head Table (chapter 9) -/

/-- The head states (R161). -/
inductive HeadState where
  | disabled
  | active
  | isolated
  | faulted
  deriving DecidableEq, Repr

/-- The fault policies (R161). -/
inductive Policy where
  | stop
  | isolate
  deriving DecidableEq, Repr

/-- A gap [start, stop), open when it has no end (section 9.3). -/
structure Gap where
  start : Nat
  stop  : Option Nat
  deriving DecidableEq, Repr

/-- One head of the Head Table (R161). -/
structure HeadEntry where
  state     : HeadState
  policy    : Policy
  faultHeld : Bool
  kept      : Option Nat
  gaps      : List Gap
  closing   : Bool
  deriving DecidableEq, Repr

/-- The Head Table (R161): the heads, the sew set and the index of the last turn issued in the run, and
the needle-engage outputs (R164). -/
structure HeadTable where
  heads   : Vector HeadEntry 12
  sewSet  : HeadSet
  sewTurn : Option Nat
  engage  : HeadSet
  deriving DecidableEq, Repr

/-! ### The Notice Unit and the Link Interface (chapter 10) -/

/-- A source record (R188); the detail as the bytes a notice carries (R203, R204). -/
structure SourceRecord where
  pending : Bool
  count   : Nat
  first   : Nat
  latest  : Nat
  stamp   : Word
  detail  : List Byte
  deriving DecidableEq, Repr

/-- The clear record (R188). -/
def SourceRecord.clear : SourceRecord := ⟨false, 0, 0, 0, 0, []⟩

/-- The Notice Unit (R187 to R190). -/
structure NoticeUnit where
  sources : Vector SourceRecord 30
  queue   : List Source
  mask    : BitVec 30
  seq     : Byte
  deriving DecidableEq, Repr

/-- A complete frame as received: its fields and its CRC bytes (R180). -/
structure RxFrame where
  kind : Byte
  tag  : Byte
  body : List Byte
  crc  : Half
  deriving DecidableEq, Repr

/-- The receiver (R182); COLLECTING keeps LEN and the bytes stored so far, in line order. -/
inductive Receiver where
  | hunting
  | length
  | collecting (len : Nat) (got : List Byte)
  deriving DecidableEq, Repr

/-- A reply in the reply queue (R184): its kind, tag and body; `restart` marks the DONE of a RESTART (R194). -/
structure Reply where
  kind    : Byte
  tag     : Byte
  body    : List Byte
  restart : Bool
  deriving DecidableEq, Repr

/-- The frame being sent (R186): its bytes in line order. -/
structure Sending where
  bytes   : List Byte
  restart : Bool
  deriving DecidableEq, Repr

/-- Where a RESTART stands (R194): none, taken and its reply not yet sent, or due once the reply has been sent. -/
inductive RestartPhase where
  | none
  | taken
  | due
  deriving DecidableEq, Repr

/-- The Link Interface (R179 to R186). `rateHigh` is the strap as sampled: 921,600 baud (section 11.6). -/
structure Link where
  rateHigh  : Bool
  receiver  : Receiver
  byteTimer : Option Nat
  buffer    : List RxFrame
  replies   : List Reply
  sending   : Option Sending
  restart   : RestartPhase
  deriving DecidableEq, Repr

/-! ### The machine lines -/

/-- The levels standing on the inputs (section 11.6). They belong to the machine around the part and no
reset changes them (notes/assumptions/3.md). -/
structure Pins where
  driveReady : Bool
  driveFault : Bool
  estop      : Bool
  switchX    : Bool
  switchY    : Bool
  needle     : BitVec 4
  tension    : Vector (BitVec 10) 12
  deriving DecidableEq, Repr

/-! ### The whole state -/

/-- The state of the part and the commands that wait, first in first out. -/
structure State where
  params  : Vector Int 50
  pins    : Pins
  store   : Store
  shaft   : Shaft
  planner : Planner
  frame   : Frame
  run     : Run
  func    : FuncUnit
  needle  : NeedleBar
  thread  : ThreadUnit
  table   : HeadTable
  notices : NoticeUnit
  link    : Link
  clock   : Word
  pending : List Instr
  deriving DecidableEq, Repr

/-- The events that stop the part for good: the handbook names none. A fault, a lock or a stop of the
machine is a state the part goes on from (chapter 5), so no command ends in one of these. -/
inductive Fault where
  deriving DecidableEq, Repr

/-- The reasons a command is refused by the model. -/
inductive Refusal where
  /-- Raised by an arm of `exec` whose command has no meaning yet; no arm is left in that case. Safe. -/
  | notModelled (mnemonic : String)
  deriving DecidableEq, Repr

/-! ### Values at power-on -/

/-- The Design Store with no design: after each reset and at DESIGN DISCARD (R6, R23). -/
def Store.empty (check : StoreCheck) : Store where
  isOpen := false
  origin := .zero
  records := []
  retire := 0
  cursor := 0
  fill := 0
  fillPos := .zero
  cursorPos := .zero
  fillColour := 0
  cursorColour := 0
  endLoaded := false
  lowArmed := true
  check := check

/-- The Shaft Monitor after power-on (R41). -/
def Shaft.reset : Shaft where
  count := 0
  synced := false
  motion := .stopped
  needleUp := false
  speed := 0
  revs := 0
  timedRev := false
  line := 0
  brake := true
  waiting := none
  counting := false
  overrun := 0
  quiet := 0
  stall := none

/-- The Speed Planner after power-on (R59). -/
def Planner.reset : Planner where
  tableX := none
  tableY := none
  lookahead := []
  caps := []
  stopPoint := none
  demand := 0
  held := false
  prev := none
  freshAt := none

/-- The Frame Drive after power-on (R82). -/
def Frame.reset : Frame where
  stepX := 0
  stepY := 0
  dirX := .plus
  dirY := .plus
  coord := .zero
  ref := .unreferenced
  offset := .zero
  move := none
  late := none
  dwell := none
  homing := none

/-- The empty stop report (R92). -/
def StopReport.empty : StopReport where
  primary := none
  kind := none
  angle := none
  verdict := none
  overrun := 0
  secondary := []
  incomplete := none
  discarded := none

/-- The inactive repair context (R106). Its resume index means nothing while repair is inactive; the value 0 is the
model's (notes/assumptions/12.md). -/
def Repair.inactive : Repair := ⟨false, 0, 0⟩

/-- The Run Controller after each reset (R106). -/
def Run.reset : Run where
  state := .idle
  phase := none
  kind := none
  outstanding := none
  armed := false
  report := .empty
  slot := none
  resume := none
  colourTimer := .stopped
  repair := .inactive
  inject := none
  work := none
  rested := none
  starter := .host

/-- A channel after power-on (R126). -/
def Channel.reset : Channel := ⟨.common, .activeHigh, none, none⟩

/-- The Function Unit after power-on (R126). -/
def FuncUnit.reset : FuncUnit where
  bankA := Vector.replicate 64 .null
  bankB := Vector.replicate 64 .null
  active := .a
  channels := Vector.replicate 12 .reset
  test := none

/-- The Needle Bar Control after power-on (R141). -/
def NeedleBar.reset : NeedleBar where
  plan := Vector.replicate 256 none
  settled := none
  settle := none
  target := 0
  request := false
  change := none
  watch := none

/-- A Thread Monitor after power-on (R160). -/
def Monitor.reset : Monitor where
  member := false
  gatherings := []
  breakRun := 0
  breakFirst := 0
  window := []
  stuckRun := 0
  stuckReading := 0
  stuckFirst := 0
  railRun := 0
  railFirst := 0
  holdCount := 0
  holdFrom := 0
  bobbin := none
  sensor := .notTested
  fault := none

/-- The Thread Monitors after power-on (R160). -/
def ThreadUnit.reset : ThreadUnit := ⟨Vector.replicate 12 .reset, 0, none⟩

/-- A head after power-on (R178). -/
def HeadEntry.reset : HeadEntry := ⟨.disabled, .stop, false, none, [], false⟩

/-- The Head Table after power-on (R178). -/
def HeadTable.reset : HeadTable := ⟨Vector.replicate 12 .reset, 0, none, 0⟩

/-- The Notice Unit after power-on, before STARTUP is raised (R193). -/
def NoticeUnit.reset : NoticeUnit := ⟨Vector.replicate 30 .clear, [], BitVec.allOnes 30, 0⟩

/-- The Link Interface after power-on (R193). -/
def Link.reset (rateHigh : Bool) : Link := ⟨rateHigh, .hunting, none, [], [], none, .none⟩

/-- The levels of the inputs that the model takes before any is given (DESIGN CHOICE, notes/assumptions/3.md):
every line low or open, the needle position 0, every tension 0. -/
def Pins.quiet : Pins := ⟨false, false, false, false, false, 0, Vector.replicate 12 0⟩

/-- The part at power-on, with these levels on its inputs, this rate strap and these commands waiting:
every block at its power-on value, the start-up store check running (R193). -/
def State.powerOn (pins : Pins) (rateHigh : Bool) (pending : List Instr) : State where
  params := Param.defaults
  pins := pins
  store := .empty .running
  shaft := .reset
  planner := .reset
  frame := .reset
  run := .reset
  func := .reset
  needle := .reset
  thread := .reset
  table := .reset
  notices := .reset
  link := .reset rateHigh
  clock := 0
  pending := pending

/-- The machine right after reset: power-on with the rate strap low and every input at its quiet
level, no command waiting (R193). STORE_CHECK_DONE ends the reset (notes/assumptions/2.md). -/
def State.reset : State := .powerOn .quiet false []

end Sys2Proof.Machine
end

