-- ==== Sys2Proof/Machine/Ops.lean ====
section
/-! DEFINITION. The named operations over the blocks: one update per block, the parameters, head sets,
the encodings of fields (R199, R204), the notice sources (R188), the run state (R84), the operation slot
(R102), and the passing of a millisecond. -/

namespace Sys2Proof.Machine

/-! ### One update per block -/

/-- Change the Design Store. -/
def State.modStore (f : Store → Store) (s : State) : State := { s with store := f s.store }
/-- Change the Shaft Monitor. -/
def State.modShaft (f : Shaft → Shaft) (s : State) : State := { s with shaft := f s.shaft }
/-- Change the Speed Planner. -/
def State.modPlanner (f : Planner → Planner) (s : State) : State := { s with planner := f s.planner }
/-- Change the Frame Drive. -/
def State.modFrame (f : Frame → Frame) (s : State) : State := { s with frame := f s.frame }
/-- Change the Run Controller. -/
def State.modRun (f : Run → Run) (s : State) : State := { s with run := f s.run }
/-- Change the Function Unit. -/
def State.modFunc (f : FuncUnit → FuncUnit) (s : State) : State := { s with func := f s.func }
/-- Change the Needle Bar Control. -/
def State.modNeedle (f : NeedleBar → NeedleBar) (s : State) : State := { s with needle := f s.needle }
/-- Change the Thread Monitors. -/
def State.modThread (f : ThreadUnit → ThreadUnit) (s : State) : State := { s with thread := f s.thread }
/-- Change the Head Table. -/
def State.modTable (f : HeadTable → HeadTable) (s : State) : State := { s with table := f s.table }
/-- Change the Notice Unit. -/
def State.modNotices (f : NoticeUnit → NoticeUnit) (s : State) : State := { s with notices := f s.notices }
/-- Change the Link Interface. -/
def State.modLink (f : Link → Link) (s : State) : State := { s with link := f s.link }
/-- Change the levels standing on the inputs. -/
def State.modPins (f : Pins → Pins) (s : State) : State := { s with pins := f s.pins }
/-- Write one parameter. -/
def State.setPar (p : Param) (v : Int) (s : State) : State := { s with params := s.params.set p.place v }

/-- The value of a parameter. -/
def State.par (s : State) (p : Param) : Int := s.params[p.place]

/-- The value of a parameter that is never negative. -/
def State.nat (s : State) (p : Param) : Nat := (s.par p).toNat

/-! ### Heads and head sets -/

/-- The heads, in ascending order. -/
def allHeads : List Head := [0, 1, 2, 3, 4, 5, 6, 7, 8, 9, 10, 11]

/-- The channels, in ascending order. -/
def allChans : List Chan := [0, 1, 2, 3, 4, 5, 6, 7, 8, 9, 10, 11]

/-- One element per head (or per channel), each from its number and its present value. -/
def mapTwelve {α : Type} (f : Fin 12 → α → α) (v : Vector α 12) : Vector α 12 :=
  ⟨#[f 0 v[0], f 1 v[1], f 2 v[2], f 3 v[3], f 4 v[4], f 5 v[5], f 6 v[6], f 7 v[7], f 8 v[8], f 9 v[9],
     f 10 v[10], f 11 v[11]], rfl⟩

/-- Whether head h is in the set. -/
def inSet (hs : HeadSet) (h : Head) : Bool := hs.getLsbD h.val

/-- The set of one head. -/
def oneHead (h : Head) : HeadSet := BitVec.ofNat 12 (2 ^ h.val)

/-- The set without head h. -/
def dropHead (hs : HeadSet) (h : Head) : HeadSet := hs &&& ~~~(oneHead h)

/-- The heads of a set, in ascending order. -/
def headsIn (hs : HeadSet) : List Head := allHeads.filter (inSet hs)

/-- The set of the heads that satisfy a test. -/
def headsWhere (p : Head → Bool) : HeadSet :=
  allHeads.foldl (fun acc h => if p h then acc ||| oneHead h else acc) 0

/-- Head h is fitted: its number is at most HEADS (R161). -/
def State.fitted (s : State) (h : Head) : Bool := decide (h.val < s.nat .heads)

/-- One head of the Head Table. -/
def State.head (s : State) (h : Head) : HeadEntry := s.table.heads[h]

/-- Change one head of the Head Table. -/
def State.modHead (h : Head) (f : HeadEntry → HeadEntry) (s : State) : State :=
  s.modTable fun t => { t with heads := t.heads.set h (f t.heads[h]) }

/-- Change every head of the Head Table. -/
def State.modHeads (f : Head → HeadEntry → HeadEntry) (s : State) : State :=
  s.modTable fun t => { t with heads := mapTwelve f t.heads }

/-- One Thread Monitor. -/
def State.monitor (s : State) (h : Head) : Monitor := s.thread.monitors[h]

/-- Change one Thread Monitor. -/
def State.modMonitor (h : Head) (f : Monitor → Monitor) (s : State) : State :=
  s.modThread fun t => { t with monitors := t.monitors.set h (f t.monitors[h]) }

/-- Change every Thread Monitor. -/
def State.modMonitors (f : Head → Monitor → Monitor) (s : State) : State :=
  s.modThread fun t => { t with monitors := mapTwelve f t.monitors }

/-- A fitted head is ACTIVE (R161). -/
def State.isActive (s : State) (h : Head) : Bool := s.fitted h && decide ((s.head h).state = .active)

/-! ### Encodings of fields (R199, R204) -/

/-- The low `w` bytes of a number, high byte first. -/
def bytesOf : Nat → Nat → List Byte
  | 0, _ => []
  | w + 1, n => BitVec.ofNat 8 (n / 256 ^ w) :: bytesOf w n

/-- A number of one byte. -/
def u8 (n : Nat) : List Byte := bytesOf 1 n
/-- A number of two bytes. -/
def u16 (n : Nat) : List Byte := bytesOf 2 n
/-- An index, of three bytes. -/
def u24 (n : Nat) : List Byte := bytesOf 3 n
/-- A number of four bytes. -/
def u32 (n : Nat) : List Byte := bytesOf 4 n
/-- A coordinate: two bytes, two's complement. -/
def i16 (i : Int) : List Byte := bytesOf 2 (BitVec.ofInt 16 i).toNat
/-- An offset, a step count or a parameter value: four bytes, two's complement. -/
def i32 (i : Int) : List Byte := bytesOf 4 (BitVec.ofInt 32 i).toNat
/-- A flag. -/
def flagByte (b : Bool) : List Byte := u8 (if b then 1 else 0)
/-- An index field that can hold none (R199). -/
def indexOrNone (o : Option Nat) : List Byte := u24 (o.getD Config.indexTop)
/-- A one-byte field that can hold none (R199). -/
def byteOrNone (o : Option Nat) : List Byte := u8 (o.getD 255)
/-- A two-byte field (an angle, a speed, a reading) that can hold none (R199, R204). -/
def halfOrNone (o : Option Nat) : List Byte := u16 (o.getD 65535)
/-- A head set field. -/
def headSetBytes (hs : HeadSet) : List Byte := u16 hs.toNat
/-- A list of varying length: the count of its entries, then the entries (R204). -/
def listBytes {α : Type} (f : α → List Byte) (l : List α) : List Byte := u8 l.length ++ l.flatMap f
/-- A field given only on a condition: a flag, then its bytes, or as many bytes of 0 (R204). -/
def whenBytes (o : Option (List Byte)) (width : Nat) : List Byte :=
  match o with
  | some bs => flagByte true ++ bs
  | none => flagByte false ++ List.replicate width 0

/-- The named value of a run state (R199). -/
def RunState.value : RunState → Nat
  | .idle => 0 | .ready => 1 | .running => 2 | .stopping => 3 | .halted => 4 | .locked => 5

/-- The named value of a run phase after NONE (R204). -/
def Phase.value : Phase → Nat
  | .starting => 0 | .sewing => 1 | .braking => 2

/-- The named value of a stop kind after none (R204). -/
def StopKind.value : StopKind → Nat
  | .controlled => 0 | .quick => 1 | .emergency => 2

/-- The named value of a rest verdict (R36). -/
def Verdict.value : Verdict → Nat
  | .onPosition => 0 | .offPosition => 1

/-- The named value of a cause (R199). -/
def Cause.value : Cause → Nat
  | .operator => 0 | .injectStop => 1 | .headFault _ => 2 | .allIsolated => 3 | .colour => 4 | .endRec => 5
  | .stopFunction => 6 | .data => 7 | .needlePlan => 8 | .needleTimeout => 9 | .moveLate => 10
  | .needleLost => 11 | .estop => 12 | .drive => 13 | .stall => 14 | .encoder => 15 | .stopFail => 16 | .store => 17

/-- A cause field: its named value, then the head of HEAD_FAULT or 0 (R199). -/
def causeBytes (c : Cause) : List Byte :=
  u8 c.value ++ u8 (match c with | .headFault h => h.val + 1 | _ => 0)

/-- The named value of an operation kind (R199). -/
def OpKind.value : OpKind → Nat
  | .needleUp => 0 | .home => 1 | .frameOut => 2 | .frameReturn => 3 | .needleSelect => 4 | .colourChange => 5
  | .sensorTest => 6 | .channelTest => 7 | .backtrack => 8 | .repair => 9 | .repairAbandon => 10

/-- The named value of a starter (R204). -/
def Starter.value : Starter → Nat
  | .host => 0 | .part => 1

/-- The statuses of a reply (R185). -/
inductive Status where
  | done
  | started
  | frame
  | form
  | state
  | busy
  | sequence
  | full
  | limit
  | config
  | faulted
  | unref
  deriving DecidableEq, Repr

/-- The named value of a status (R185, R199). -/
def Status.value : Status → Nat
  | .done => 0 | .started => 1 | .frame => 2 | .form => 3 | .state => 4 | .busy => 5 | .sequence => 6 | .full => 7
  | .limit => 8 | .config => 9 | .faulted => 10 | .unref => 11

/-- A block's answer to a request: the status and the payload (R203). -/
structure Answer where
  status  : Status
  payload : List Byte
  deriving DecidableEq, Repr

/-- An answer with no payload. -/
def plain (st : Status) : Answer := ⟨st, []⟩

/-- The results of an operation (R102). -/
inductive OpResult where
  | ok
  | failed
  | aborted
  deriving DecidableEq, Repr

/-- The named value of a result (R204). -/
def OpResult.value : OpResult → Nat
  | .ok => 0 | .failed => 1 | .aborted => 2

/-- One recorded cause in a notice or a reply, for a secondary entry: cause, index, stamp (R92, R203). -/
def recordedBytes (r : Recorded) : List Byte :=
  causeBytes r.cause ++ u24 r.index ++ u32 r.stamp.toNat

/-- The kind of a cause (R91); STORE is a lock and is handled apart. -/
def Cause.kind : Cause → StopKind
  | .moveLate | .needleLost => .quick
  | .estop | .drive | .stall | .encoder | .stopFail | .store => .emergency
  | _ => .controlled

/-- The stop report's bytes, in the field order of R92 (R203). -/
def reportBytes (r : StopReport) : List Byte :=
  (match r.primary with
   | some p => causeBytes p.cause ++ u8 p.cause.kind.value ++ u24 p.index ++ u32 p.stamp.toNat
   | none => u8 255 ++ u8 0 ++ u8 255 ++ indexOrNone none ++ u32 0)
  ++ byteOrNone (r.kind.map StopKind.value)
  ++ halfOrNone r.angle ++ byteOrNone (r.verdict.map Verdict.value)
  ++ u32 r.overrun
  ++ listBytes recordedBytes r.secondary
  ++ indexOrNone r.incomplete
  ++ byteOrNone (r.discarded.map Fin.val)

/-! ### Notices (R187, R188) -/

/-- Source STARTUP. -/
def srcStartup : Source := 0
/-- Source STATE. -/
def srcState : Source := 1
/-- Source STOP. -/
def srcStop : Source := 2
/-- Source OP_DONE. -/
def srcOpDone : Source := 3
/-- Source STORE_LOW. -/
def srcStoreLow : Source := 4
/-- Source COLOUR. -/
def srcColour : Source := 5
/-- Source HEAD_FAULT(h). -/
def srcHeadFault (h : Head) : Source := ⟨h.val + 6, by omega⟩
/-- Source BOBBIN(h). -/
def srcBobbin (h : Head) : Source := ⟨h.val + 18, by omega⟩

/-- The mask flag of a source is on (R189). -/
def NoticeUnit.unmasked (n : NoticeUnit) (src : Source) : Bool := n.mask.getLsbD src.val

/-- The record of a source after one more occurrence (R188). -/
def occurrence (r : SourceRecord) (index : Nat) (detail : List Byte) (stamp : Word) : SourceRecord :=
  if r.pending then { r with count := min 255 (r.count + 1), latest := index, detail := detail }
  else ⟨true, 1, index, index, stamp, detail⟩

/-- An occurrence of a source: its record takes it, and the source joins the queue's tail when it becomes pending
unmasked (R188, R189). -/
def raiseNotice (src : Source) (index : Nat) (detail : List Byte) (s : State) : State :=
  let joins := !s.notices.sources[src].pending && s.notices.unmasked src
  s.modNotices fun n =>
    { n with
      sources := n.sources.set src (occurrence n.sources[src] index detail s.clock)
      queue := if joins then n.queue ++ [src] else n.queue }

/-! ### The run state (R84) and the operation slot (R102) -/

/-- The detail of a STATE notice: state left, state entered, cursor, and for a refused automatic start the status
and the item or head named (R187). -/
def stateDetail (old new : RunState) (cursor : Nat) (refused : Option (Status × Nat)) : List Byte :=
  u8 old.value ++ u8 new.value ++ u24 cursor
  ++ whenBytes (refused.map fun p => u8 p.1.value ++ u8 p.2) 2

/-- A change of run state raises STATE; entering HALTED, LOCKED or IDLE disarms the lost watch (R84, R138). -/
def setRunState (new : RunState) (s : State) : State :=
  if s.run.state = new then s
  else
    let old := s.run.state
    let s := s.modRun fun r => { r with state := new }
    let s := match new with
      | .halted | .locked | .idle => s.modNeedle fun n => { n with watch := none }
      | _ => s
    raiseNotice srcState s.store.cursor (stateDetail old new s.store.cursor none) s

/-- The shaft is STOPPED with needle-up, as START, HOME and the frame operations need (R32). -/
def State.restsUp (s : State) : Bool := decide (s.shaft.motion = .stopped) && s.shaft.needleUp

/-- The drive is ready (R35). -/
def State.driveIsReady (s : State) : Bool := s.pins.driveReady && !s.pins.driveFault

/-- The operation slot is empty (R102). -/
def State.slotEmpty (s : State) : Bool := s.run.slot.isNone

/-- An operation is placed in the slot with its kind, its starter and the stamp (R102). -/
def fillSlot (kind : OpKind) (starter : Starter) (goal : Option Goal) (s : State) : State :=
  s.modRun fun r => { r with slot := some ⟨kind, starter, s.clock, goal, false⟩ }

/-- An operation ends: the slot empties and OP_DONE is raised with the kind, the starter, the result and the
operation's own detail (R102, R204). With the slot empty there is nothing to end. -/
def endOperation (result : OpResult) (detail : List Byte) (s : State) : State :=
  match s.run.slot with
  | none => s
  | some op =>
    let s := s.modRun fun r => { r with slot := none }
    raiseNotice srcOpDone s.store.cursor
      (u8 op.kind.value ++ u8 op.starter.value ++ u8 result.value ++ detail) s

/-- No automatic start is waited for any more, and the colour delay timer stops (R97, R99, R101). -/
def clearResume (s : State) : State :=
  s.modRun fun r => { r with resume := none, colourTimer := .stopped }

/-- A pending inject is discarded and recorded in the stop report (R104). -/
def discardInject (s : State) : State :=
  match s.run.inject with
  | none => s
  | some c => s.modRun fun r => { r with inject := none, report := { r.report with discarded := some c } }

/-! ### The inputs -/

/-- New levels of the tension inputs of heads 1, 2, …; a head the list does not reach keeps its level. -/
def setTension (levels : List (BitVec 10)) (s : State) : State :=
  s.modPins fun p =>
    { p with tension := mapTwelve (fun h old => (levels[h.val]?).getD old) p.tension }

/-! ### The passing of a millisecond -/

/-- One millisecond less on a timer that runs. -/
def tickLeft (o : Option Nat) : Option Nat := o.map fun n => n - 1

/-- A millisecond passes in which no command is taken: the millisecond counter counts it and wraps, the quiet time
and the stall timer rise, and what is left of every other running timer falls. An expiry is a command of its own, and the
counter counts while the start-up store check runs too (notes/assumptions/5.md). -/
def tick (s : State) : State :=
  { s with
    clock := s.clock + 1
    shaft := { s.shaft with
      quiet := min Config.quietTop (s.shaft.quiet + 1)
      stall := s.shaft.stall.map fun n => min Config.quietTop (n + 1) }
    frame := { s.frame with dwell := tickLeft s.frame.dwell }
    run := { s.run with
      colourTimer := match s.run.colourTimer with
        | .running n => .running (n - 1)
        | t => t }
    func := { s.func with test := s.func.test.map fun t => { t with left := t.left - 1 } }
    needle := { s.needle with
      settle := tickLeft s.needle.settle
      change := s.needle.change.map fun c => { c with left := c.left - 1 }
      watch := s.needle.watch.map fun w => { w with away := tickLeft w.away } }
    thread := { s.thread with test := s.thread.test.map fun t => { t with left := t.left - 1 } }
    link := { s.link with byteTimer := tickLeft s.link.byteTimer } }

end Sys2Proof.Machine
end

