-- ==== Sys2Proof/Machine/Flags.lean ====
section
/-! DEFINITION. The angle and what is read from it: the move window, the marks, the needle flag and the rest verdict
(R26, R28, R30, R32, R36). -/

namespace Sys2Proof.Machine

/-- a mod 360 for angle arithmetic. -/
def mod360 (i : Int) : Nat := (i % 360).toNat

/-- The shaft angle a count stands for: counts past a revolution read as 359, negative ones as 0 (R26). -/
def angleOfCount (encCounts : Nat) (count : Int) : Nat :=
  if count < 0 then 0
  else if (encCounts : Int) ≤ count then 359
  else count.toNat * 360 / encCounts

/-- The shaft angle, undefined while UNSYNCED (R26). -/
def State.angle (s : State) : Option Nat :=
  if s.shaft.synced then some (angleOfCount (s.nat .encCounts) s.shaft.count) else none

/-- The width Wd of the move window (R30). -/
def State.windowWidth (s : State) : Nat := mod360 (s.par .winEnd - s.par .winStart)

/-- Angle a lies in the move window (R30). -/
def State.inWindow (s : State) (a : Nat) : Bool :=
  decide (mod360 ((a : Int) - s.par .winStart) ≤ s.windowWidth)

/-- The needle flag as the present angle gives it; needle-down while UNSYNCED (R32). -/
def State.flagNow (s : State) : Bool :=
  match s.angle with
  | some a => s.inWindow a
  | none => false

/-- The rest verdict of an angle at rest (R36). -/
def State.verdictAt (s : State) (a : Option Nat) : Verdict :=
  match a with
  | none => .offPosition
  | some a =>
    let d := min (mod360 ((a : Int) - s.par .restAngle)) (mod360 (s.par .restAngle - (a : Int)))
    if d ≤ s.nat .restTol then .onPosition else .offPosition

/-- The stopped report the shaft gives as it stands, with this overrun count (R31, R36). -/
def State.stoppedReport (s : State) (overrun : Nat) : StoppedReport :=
  ⟨s.angle, s.verdictAt s.angle, s.shaft.needleUp, overrun⟩

/-- The angle of the jump-window end (R28). -/
def State.jumpEndAngle (s : State) : Nat := mod360 (s.par .winStart + s.par .jumpWidth)

/-- The angle of the brake mark (R28). -/
def State.brakeAngle (s : State) : Nat := mod360 (s.par .restAngle - s.par .brakeLead)

/-- The width of the window that applies to a turn (R44). -/
def State.turnWidth (s : State) (jump : Bool) : Nat :=
  if jump then s.nat .jumpWidth else s.windowWidth

/-- The marks of a channel: the angles of the dues it holds (R29, R116). -/
def Channel.marks (c : Channel) : List Nat :=
  match c.pulse with
  | none => []
  | some p => (p.start.toList ++ p.stop.toList).map Due.angle

/-- What is taken when the shaft reaches angle a, but for what a block decides from its own state (R28). -/
def State.takesAt (s : State) (a : Nat) : Taker → Bool
  | .overrun | .completion | .retention | .call => decide (a = s.nat .winStart)
  | .windowEnd => decide (a = s.nat .winEnd)
  | .jumpEnd => decide (a = s.jumpEndAngle)
  | .rest => decide (a = s.nat .restAngle)
  | .brake => decide (a = s.brakeAngle)
  | .gateStart => decide (a = s.nat .gateStart)
  | .gateEnd => decide (a = s.nat .gateEnd)
  | .sample => decide (a = s.nat .sampleAngle)
  | .channel c => decide (a ∈ s.func.channels[c].marks)

/-- The order in which the blocks take one arrival when the command does not say (notes/assumptions/4.md). -/
def Taker.usual : List Taker :=
  [.overrun, .completion, .retention, .call, .windowEnd, .jumpEnd, .rest, .brake, .gateStart, .gateEnd, .sample]
  ++ allChans.map .channel

/-- The first occurrence of each taker of a list. -/
def firstOfEach : List Taker → List Taker → List Taker
  | _, [] => []
  | seen, t :: ts => if seen.contains t then firstOfEach seen ts else t :: firstOfEach (t :: seen) ts

/-- Every taker once: those the command names, in its order, then the others in the usual order. -/
def takersInOrder (order : List Taker) : List Taker := firstOfEach [] (order ++ Taker.usual)

end Sys2Proof.Machine
end

