-- ==== Sys2Proof/Machine/Operands.lean ====
section
/-! DEFINITION. The operand forms: what the raw fields of a request stand for, or that they lie outside their range
(R8, R109, R199, R201, R202). -/

namespace Sys2Proof.Machine

/-- A head number 1..12. -/
def headNumber (b : Byte) : Option Head :=
  if h : 1 ≤ b.toNat ∧ b.toNat ≤ 12 then some ⟨b.toNat - 1, by omega⟩ else none

/-- A head number 1..HEADS, of a head that is fitted (R161, R199). -/
def State.headOf (s : State) (b : Byte) : Option Head := (headNumber b).filter s.fitted

/-- A head set field with no flag above head 12 (R199). -/
def headSetOf (w : Half) : Option HeadSet :=
  if w.toNat < 4096 then some (w.setWidth 12) else none

/-- Every head of the set is fitted. -/
def State.allFitted (s : State) (hs : HeadSet) : Bool := (headsIn hs).all s.fitted

/-- A channel number 0..11. -/
def chanOf (b : Byte) : Option Chan :=
  if h : b.toNat < 12 then some ⟨b.toNat, h⟩ else none

/-- A function code 0..63. -/
def codeOf (b : Byte) : Option Code :=
  if h : b.toNat < 64 then some ⟨b.toNat, h⟩ else none

/-- A source number 0..29. -/
def sourceOf (b : Byte) : Option Source :=
  if h : b.toNat < 30 then some ⟨b.toNat, h⟩ else none

/-- A record of LOAD from its three bytes; none where R8 gives FORM (R201). -/
def recordOf (kind c1 c2 : Byte) : Option Rec :=
  match kind.toNat with
  | 1 => if c1 = 0x80#8 ∨ c2 = 0x80#8 then none else some (.stitch c1.toInt c2.toInt)
  | 2 => if c1 = 0x80#8 ∨ c2 = 0x80#8 then none else some (.jump c1.toInt c2.toInt)
  | 3 => if c2 = 0#8 then (codeOf c1).map .function else none
  | 4 => if c1 = 0#8 ∧ c2 = 0#8 then some .colour else none
  | 5 => if c1 = 0#8 ∧ c2 = 0#8 then some .endRec else none
  | _ => none

/-- The effect of a map entry (R109, R202): speed and count are read for SLOW alone. -/
def effectOf (effect : Byte) (speed : Half) (count : Byte) : Option Effect :=
  match effect.toNat with
  | 0 => some .none
  | 1 =>
    if 1 ≤ speed.toNat ∧ speed.toNat ≤ 1500 ∧ 1 ≤ count.toNat then some (.slow speed.toNat count.toNat) else none
  | 2 => some .stopAfter
  | _ => none

/-- A head scope (R202). -/
def scopeOf (b : Byte) : Option Scope :=
  match b.toNat with
  | 0 => some .sewing
  | 1 => some .enabled
  | 2 => some .common
  | _ => none

/-- A flag field (R199). -/
def flagOf (b : Byte) : Option Bool :=
  match b.toNat with
  | 0 => some false
  | 1 => some true
  | _ => none

/-- An action item (R109, R202). -/
def actionOf (r : RawAction) : Option Action :=
  match chanOf r.chan with
  | none => none
  | some c =>
    match r.action.toNat with
    | 0 =>
      if r.startRevs.toNat ≤ 3 ∧ r.startAngle.toNat ≤ 359 ∧ r.endRevs.toNat ≤ 15 ∧ r.endAngle.toNat ≤ 359 then
        some ⟨c, .pulse r.startRevs.toNat r.startAngle.toNat r.endRevs.toNat r.endAngle.toNat⟩
      else none
    | 1 => if r.startRevs = 0 ∧ r.startAngle = 0 ∧ r.endRevs = 0 ∧ r.endAngle = 0 then some ⟨c, .set⟩ else none
    | 2 => if r.startRevs = 0 ∧ r.startAngle = 0 ∧ r.endRevs = 0 ∧ r.endAngle = 0 then some ⟨c, .clear⟩ else none
    | _ => none

/-- Every item of a list, or none when one of them is malformed. -/
def actionsOf : List RawAction → Option (List Action)
  | [] => some []
  | r :: rs =>
    match actionOf r, actionsOf rs with
    | some a, some as => some (a :: as)
    | _, _ => none

/-- The code and the entry a LOAD MAP ENTRY carries; none where R109 gives FORM. -/
def entryOf (r : RawEntry) : Option (Code × MapEntry) :=
  match codeOf r.code, effectOf r.effect r.speed r.count, scopeOf r.scope, flagOf r.slack, actionsOf r.items with
  | some c, some e, some sc, some sl, some as =>
    if c = 0 ∨ 4 < r.items.length then none else some (c, ⟨e, as, sc, sl⟩)
  | _, _, _, _, _ => none

/-- The points of an axis time table; none where R42 gives FORM. -/
def tableOf (points : List RawPoint) : Option (List TablePoint) :=
  let ps := points.map fun p => (⟨p.steps.toNat, p.time.toNat⟩ : TablePoint)
  let rises : List TablePoint → Bool := fun l =>
    (l.zip l.tail).all fun (a, b) => decide (a.steps < b.steps) && decide (a.time ≤ b.time)
  if ps.length = 16 ∧ ps.head? = some ⟨0, 0⟩ ∧ rises ps ∧ ps.all (fun p => p.steps ≤ 32767 && p.time ≤ 2000000)
  then some ps else none

end Sys2Proof.Machine
end

