-- ==== Sys2Proof/Machine/Planner.lean ====
section
/-! DEFINITION. The Speed Planner (chapter 3): move times, ceilings, the lookahead, the demand's terms, the stop
point and the arm check; and the step layout of a move (R61, R62), which reads the same tables. -/

namespace Sys2Proof.Machine

/-! ### Records and the function map, as the planner reads them -/

/-- The displacement of a turn record, none for a zero-turn record (R1). -/
def Rec.move : Rec → Option Pt
  | .stitch dx dy | .jump dx dy => some ⟨dx, dy⟩
  | _ => none

/-- A JUMP record. -/
def Rec.isJump : Rec → Bool
  | .jump _ _ => true
  | _ => false

/-- A STITCH record. -/
def Rec.isStitch : Rec → Bool
  | .stitch _ _ => true
  | _ => false

/-- The records of a list with their indices, the first at index k. -/
def indexed : Nat → List Rec → List (Nat × Rec)
  | _, [] => []
  | k, r :: rs => (k, r) :: indexed (k + 1) rs

/-- The pending records with their indices, from the cursor on (R2). -/
def Store.pendingRecords (st : Store) : List (Nat × Rec) :=
  indexed st.cursor (st.records.drop (st.cursor - st.retire))

/-- The entry of a code in the active bank (R107). -/
def FuncUnit.entry (f : FuncUnit) (c : Code) : MapEntry :=
  match f.active with
  | .a => f.bankA[c]
  | .b => f.bankB[c]

/-- The record stops the machine when it is issued: COLOUR, END, or a FUNCTION with effect STOP_AFTER (R11). -/
def FuncUnit.stopType (f : FuncUnit) : Rec → Option Cause
  | .colour => some .colour
  | .endRec => some .endRec
  | .function c => if (f.entry c).effect = .stopAfter then some .stopFunction else none
  | _ => none

/-! ### Step targets and move times -/

/-- Division rounded toward plus infinity. -/
def ceilDiv (a b : Nat) : Nat := (a + b - 1) / b

/-- A value brought into lo..hi. -/
def clampNat (v lo hi : Nat) : Nat := max lo (min v hi)

/-- A value brought into lo..hi. -/
def clampInt (v lo hi : Int) : Int := max lo (min v hi)

/-- The step target S(P) of a coordinate (R61). -/
def stepTarget (pitch p : Int) : Int := (p * pitch + 5) / 10

/-- The move time T(L) by upward interpolation; none where it is undefined (R43). -/
def moveTime : List TablePoint → Nat → Option Nat
  | a :: b :: rest, l =>
    if l ≤ b.steps then some (a.time + ceilDiv ((l - a.steps) * (b.time - a.time)) (b.steps - a.steps))
    else moveTime (b :: rest) l
  | _, _ => none

/-- T(L) on a table that may not be loaded (R43). -/
def moveTimeOn (table : Option (List TablePoint)) (l : Nat) : Option Nat := table.bind fun t => moveTime t l

/-- The steps of a table's last point, 0 when the table is not loaded. -/
def lastSteps (table : Option (List TablePoint)) : Nat :=
  match table.bind List.getLast? with
  | some p => p.steps
  | none => 0

/-- The time after the start of a move of L steps at which step i is emitted (R62). -/
def stepTime (table : List TablePoint) (l i : Nat) : Option Nat :=
  if 2 * i ≤ l then (moveTime table (2 * i)).map (· / 2)
  else
    match moveTime table l, moveTime table (2 * (l - i)) with
    | some whole, some rest => some (whole - rest / 2)
    | _, _ => none

/-- The time of a move on both axes, max(Tx, Ty); none where one is undefined (R44, R62). -/
def State.moveDuration (s : State) (lx ly : Int) : Option Nat :=
  match moveTimeOn s.planner.tableX lx.natAbs, moveTimeOn s.planner.tableY ly.natAbs with
  | some a, some b => some (max a b)
  | _, _ => none

/-- The steps of a move between two frame coordinates (R44, R61). -/
def State.stepsBetween (s : State) (a b : Pt) : Int × Int :=
  (stepTarget (s.par .pitchX) b.x - stepTarget (s.par .pitchX) a.x,
   stepTarget (s.par .pitchY) b.y - stepTarget (s.par .pitchY) a.y)

/-! ### Ceilings -/

/-- The highest whole speed at which W degrees last t microseconds, before the clamp (R44). -/
def unclampedCeiling (w t : Nat) : Nat := w * 500000 / (3 * t)

/-- A speed brought into SPEED_MIN..SPEED_TOP. -/
def State.clampSpeed (s : State) (v : Nat) : Nat := clampNat v (s.nat .speedMin) (s.nat .speedTop)

/-- The move ceiling of a turn from its width and its move time; SPEED_MIN when uncovered (R43, R44). -/
def State.moveCeiling (s : State) (w : Nat) (t : Option Nat) : Nat :=
  match t with
  | none => s.nat .speedMin
  | some 0 => s.nat .speedTop
  | some t => s.clampSpeed (unclampedCeiling w t)

/-- The least of a list and a first value. -/
def leastOf (v : Nat) (l : List Nat) : Nat := l.foldl min v

/-- One turn less to run on every pending SLOW effect. -/
def oneTurnLess (slows : List (Nat × Nat)) : List (Nat × Nat) :=
  (slows.map fun p => (p.1, p.2 - 1)).filter fun p => decide (0 < p.2)

/-- A turn lies above the stop point's last turn, so it is the stop point (R53). -/
def StopPoint.reachedBy (p : StopPoint) (t : Nat) : Bool :=
  match p.last with
  | none => true
  | some j => decide (j < t)

/-- The stop point, if one stands, is turn t or lies below it. -/
def Planner.stopsAt (p : Planner) (t : Nat) : Bool :=
  match p.stopPoint with
  | none => false
  | some sp => sp.reachedBy t

/-- Turn t is the last turn j of the standing stop point (R46). -/
def Planner.lastBeforeStop (p : Planner) (t : Nat) : Bool :=
  match p.stopPoint with
  | none => false
  | some sp => decide (sp.last = some t)

/-- The entries of the turns of a list of pending records (R46, R47). `pos` is the design position before the first
record, `caps` the profile from the next turn's place on, `slows` the pending SLOW effects that still cover
turns, `room` the entries left. The flag says that a stop follows before any further turn. -/
def planTurns (s : State) : List (Nat × Rec) → Pt → List Nat → List (Nat × Nat) → Nat → List Entry × Bool
  | [], _, _, _, _ => ([], !s.store.endLoaded)
  | (i, r) :: rest, pos, caps, slows, room =>
    match r.move with
    | none =>
      if (s.func.stopType r).isSome then ([], true)
      else
        match r with
        | .function c =>
          match (s.func.entry c).effect with
          | .slow n k => planTurns s rest pos caps ((s.clampSpeed n, k) :: slows) room
          | _ => planTurns s rest pos caps slows room
        | _ => planTurns s rest pos caps slows room
    | some d =>
      match room with
      | 0 => ([], false)
      | room + 1 =>
        if s.planner.stopsAt i then ([], false)
        else
          let after := pos.add d
          let l := s.stepsBetween (s.store.origin.add pos) (s.store.origin.add after)
          let t := s.moveDuration l.1 l.2
          let c := s.moveCeiling (s.turnWidth r.isJump) t
          let more := planTurns s rest after caps.tail (oneTurnLess slows) room
          let stopsNext := (more.1.isEmpty && more.2) || s.planner.lastBeforeStop i
          let plan := leastOf c
            (caps.head?.toList ++ slows.map Prod.fst ++ if stopsNext then [s.nat .speedStopEntry] else [])
          (⟨i, r.isJump, l.1, l.2, t, c, plan⟩ :: more.1, false)

/-- The lookahead as the pending records and the planner's own state give it (R47). -/
def State.freshLookahead (s : State) : List Entry :=
  (planTurns s s.store.pendingRecords s.store.cursorPos s.planner.caps [] Config.lookahead).1

/-- The planner rebuilds its list whole (R47). A pending report brings this with it (R13). -/
def rebuild (s : State) : State :=
  s.modPlanner fun p => { p with lookahead := s.freshLookahead }

/-- The allowed speed of the first turn of a list (R48). -/
def allowedSpeed (rampDown : Nat) : List Entry → Option Nat
  | [] => none
  | e :: es =>
    match allowedSpeed rampDown es with
    | none => some e.plan
    | some a => some (min e.plan (a + rampDown))

/-! ### The cap profile (R45) -/

/-- A SLOW effect enters the profile: each of places 0..count - 1 takes the lesser of its cap and the speed. -/
def enterSlow (speed : Nat) : Nat → List Nat → List Nat
  | 0, caps => caps
  | k + 1, [] => speed :: enterSlow speed k []
  | k + 1, c :: caps => min c speed :: enterSlow speed k caps

/-- The SLOW effect of a carried-out function enters the cap profile, clamped (R45). -/
def enterEffect (c : Code) (s : State) : State :=
  match (s.func.entry c).effect with
  | .slow n k => s.modPlanner fun p => { p with caps := enterSlow (s.clampSpeed n) k p.caps }
  | _ => s

/-! ### The demand (R49 to R52) -/

/-- The demand of an issued turn from its allowed speed; the first turn of a run takes SPEED_START in place of the
ramp (R49, R50). -/
def State.demandFor (s : State) (allowed : Option Nat) (first : Bool) : Nat :=
  let ramp := if first then s.nat .speedStart else
    match s.planner.prev with
    | some d => d + s.nat .rampUp
    | none => s.nat .speedStart
  leastOf (s.nat .speedSet)
    (allowed.toList ++ [ramp] ++ if s.run.repair.active then [s.nat .speedRepair] else [])

/-- The planner's demand becomes 0 and a held demand is discarded (R50, R52). -/
def zeroDemand (s : State) : State :=
  s.modPlanner fun p => { p with demand := 0, held := false }

/-! ### Stop points (R53, R54) -/

/-- A new last turn replaces the standing one when it lies below it (R53). -/
def lastBelow (new old : Option Nat) : Bool :=
  match new, old with
  | none, some _ => true
  | some a, some b => decide (a < b)
  | _, none => false

/-- A stop-point request with this cause: the turn at which the machine, slowing from its demand, reaches
SPEED_STOPENTRY becomes the last turn, unless a nearer stop point stands; either way the list is rebuilt (R53). Together with a
LOAD that ended an empty list, the turn issued last is the last turn, whichever of the two was taken first (R55;
notes/assumptions/45.md). -/
def requestStopPoint (c : Cause) (s : State) : State :=
  let p := ceilDiv (s.planner.demand - s.nat .speedStopEntry) (s.nat .rampDown)
  let last :=
    if s.planner.freshAt = some s.clock then s.table.sewTurn
    else
      match s.planner.lookahead[p]? with
      | some e => some e.index
      | none =>
        match s.planner.lookahead.getLast? with
        | some e => some e.index
        | none => s.table.sewTurn
  let keep := match s.planner.stopPoint with
    | none => false
    | some sp => !lastBelow last sp.last
  rebuild (s.modPlanner fun p => if keep then p else { p with stopPoint := some ⟨c, last⟩ })

/-- The stop point is cleared and the list rebuilt without it (R54). -/
def clearStopPoint (s : State) : State :=
  rebuild (s.modPlanner fun p => { p with stopPoint := none })

/-! ### The arm check (R56) -/

/-- The item byte that names table X (R203). -/
def itemTableX : Nat := 254
/-- The item byte that names table Y (R203). -/
def itemTableY : Nat := 255

/-- The longest move of an axis, in steps (R56). -/
def longestMove (pitch : Nat) : Nat := 127 * pitch / 10 + 1

/-- A ceiling test of items 8 and 9: passes when the time is 0 (R56). -/
def State.ceilingHolds (s : State) (w t : Nat) : Bool :=
  decide (t = 0) || decide (s.nat .speedMin ≤ unclampedCeiling w t)

/-- The first item of the arm check that fails, with the item it names, or none when it passes (R56). -/
def State.armCheck (s : State) : Option (Status × Option Nat) :=
  let mx := longestMove (s.nat .pitchX)
  let my := longestMove (s.nat .pitchY)
  let tx := (moveTimeOn s.planner.tableX mx).getD 0
  let ty := (moveTimeOn s.planner.tableY my).getD 0
  let t := max tx ty
  if s.planner.tableX = none then some (.config, some itemTableX)
  else if s.planner.tableY = none then some (.config, some itemTableY)
  else if lastSteps s.planner.tableX < mx then some (.config, some itemTableX)
  else if lastSteps s.planner.tableY < my then some (.config, some itemTableY)
  else if s.windowWidth < 90 ∨ 300 < s.windowWidth then some (.config, some Param.winEnd.ident)
  else if ¬ s.inWindow (s.nat .restAngle) then some (.config, some Param.restAngle.ident)
  else if s.nat .speedStart < s.nat .speedMin ∨ s.nat .speedTop < s.nat .speedStart then
    some (.config, some Param.speedStart.ident)
  else if ¬ s.ceilingHolds s.windowWidth t then some (.config, some (if tx < ty then itemTableY else itemTableX))
  else if ¬ s.ceilingHolds (s.nat .jumpWidth) t then some (.config, some Param.jumpWidth.ident)
  else if s.nat .speedStopEntry + 47 * s.nat .rampDown < s.nat .speedTop then
    some (.config, some Param.rampDown.ident)
  else if s.nat .tenWindow < s.nat .tenCount then some (.config, some Param.tenCount.ident)
  else if s.frame.ref ≠ .referenced then some (.unref, none)
  else none

/-- An axis table too short for a move of one unit: the item refused CONFIG for the frame's operations (R63). -/
def State.shortTable (s : State) : Option Nat :=
  if lastSteps s.planner.tableX < ceilDiv (s.nat .pitchX) 10 then some itemTableX
  else if lastSteps s.planner.tableY < ceilDiv (s.nat .pitchY) 10 then some itemTableY
  else none

end Sys2Proof.Machine
end

