-- ==== Sys2Proof/Machine/Store.lean ====
section
/-! DEFINITION. The Design Store (chapter 1): intake, retention, backward and forward steps, the low mark, and the
gaps that hold retention back (R165, R166). -/

namespace Sys2Proof.Machine

/-! ### Gaps of one head (section 9.3) -/

/-- A gap ends at or above index a, or is open: it touches or overlaps a gap opened at a (R165). -/
def Gap.meets (g : Gap) (a : Nat) : Bool :=
  match g.stop with
  | none => true
  | some e => decide (a ≤ e)

/-- The gap list with a gap opened at a (already at or above retire), or none when the list is full (R165). -/
def openGapAt (a : Nat) (gaps : List Gap) : Option (List Gap) :=
  let absorbed := gaps.filter (·.meets a)
  let left := gaps.filter fun g => !g.meets a
  if absorbed.isEmpty && decide (Config.gapLimit ≤ gaps.length) then none
  else some (left ++ [⟨leastOf a (absorbed.map Gap.start), none⟩])

/-- The gap list with its open gap, if any, closed at c; an empty gap is removed (R166). -/
def closeGapAt (c : Nat) (gaps : List Gap) : List Gap :=
  gaps.filterMap fun g =>
    match g.stop with
    | some _ => some g
    | none => if c ≤ g.start then none else some ⟨g.start, some c⟩

/-- The list holds an open gap. -/
def hasOpenGap (gaps : List Gap) : Bool := gaps.any fun g => g.stop.isNone

/-- The lowest start of a gap list. -/
def lowestStart (gaps : List Gap) : Option Nat :=
  match gaps.map Gap.start with
  | [] => none
  | a :: as => some (leastOf a as)

/-- Index k lies in the gap. -/
def Gap.covers (g : Gap) (k : Nat) : Bool :=
  decide (g.start ≤ k) &&
    match g.stop with
    | none => true
    | some e => decide (k < e)

/-! ### Retention (R18) -/

/-- The lowest start of any gap of any head. -/
def State.lowestGap (s : State) : Option Nat :=
  lowestStart (allHeads.flatMap fun h => (s.head h).gaps)

/-- The index retention moves retire to, if that lies above it (R18). -/
def State.retentionCandidate (s : State) : Nat :=
  let back := s.store.cursor - s.nat .histDepth
  match s.lowestGap with
  | none => back
  | some g => min back (min g s.store.cursor)

/-- Retire moves to index k and the slots below it are free. -/
def Store.retireTo (k : Nat) (st : Store) : Store :=
  if st.retire < k then { st with records := st.records.drop (k - st.retire), retire := k } else st

/-- Retention runs (R18). -/
def runRetention (s : State) : State := s.modStore (Store.retireTo s.retentionCandidate)

/-! ### Intake (R7 to R9) -/

/-- The free space of the ring (R2). -/
def Store.free (st : Store) : Nat := Config.slots - (st.fill - st.retire)

/-- A coordinate lies within the soft limits in x and in y (R68). -/
def State.inLimits (s : State) (p : Pt) : Bool :=
  decide (s.par .limitXMin ≤ p.x) && decide (p.x ≤ s.par .limitXMax) &&
  decide (s.par .limitYMin ≤ p.y) && decide (p.y ≤ s.par .limitYMax)

/-- The first check of R8 that a record fails, in the order of its table; none when it passes. `raw` is the
record its bytes stand for, none when they are malformed. -/
def State.intakeCheck (s : State) (raw : Option Rec) : Option Status :=
  let st := s.store
  if !st.isOpen || st.endLoaded then some .state
  else
    match raw with
    | none => some .form
    | some r =>
      if r = .colour ∧ st.fillColour = 255 then some .form
      else if st.free = 0 ∨ st.fill = Config.indexTop then some .full
      else
        match r.move with
        | none => none
        | some d => if s.inLimits ((st.origin.add st.fillPos).add d) then none else some .limit

/-- An accepted record takes the slot at fill, and its own effect is applied (R9). -/
def Store.accept (r : Rec) (st : Store) : Store :=
  let st := { st with records := st.records ++ [r], fill := st.fill + 1 }
  match r with
  | .stitch dx dy | .jump dx dy => { st with fillPos := st.fillPos.add ⟨dx, dy⟩ }
  | .function _ => st
  | .colour => { st with fillColour := st.fillColour + 1 }
  | .endRec => { st with endLoaded := true }

/-- The records of a LOAD are taken one by one until the first failure: the state, the count accepted and the
failing status (R8, R9). -/
def intake : List Byte → Nat → State → State × Nat × Option Status
  | k :: c1 :: c2 :: rest, n, s =>
    match s.intakeCheck (recordOf k c1 c2) with
    | some st => (s, n, some st)
    | none =>
      match recordOf k c1 c2 with
      | none => (s, n, some .form)
      | some r => intake rest (n + 1) (s.modStore (Store.accept r))
  | _, n, s => (s, n, none)

/-- Low-mark armed is set when the pending count is at or above LOW_MARK (R21). -/
def rearmLowMark (s : State) : State :=
  if s.nat .lowMark ≤ s.store.fill - s.store.cursor then s.modStore fun st => { st with lowArmed := true } else s

/-- The low-mark test after a call (R20). -/
def lowMarkTest (s : State) : State :=
  let left := s.store.fill - s.store.cursor
  if s.store.isOpen ∧ s.store.endLoaded = false ∧ left < s.nat .lowMark ∧ s.store.lowArmed then
    raiseNotice srcStoreLow s.store.cursor (u16 left) (s.modStore fun st => { st with lowArmed := false })
  else s

/-- The turn records pending, counted up to 48 (R13). -/
def State.pendingTurns (s : State) : Nat :=
  min Config.resumeTurns ((s.store.records.drop (s.store.cursor - s.store.retire)).filter fun r => r.move.isSome).length

/-- The design has ended: END is loaded and the cursor equals fill (R3). -/
def Store.ended (st : Store) : Bool := st.endLoaded && decide (st.cursor = st.fill)

/-! ### Issue and steps (R11, R15, R16) -/

/-- The number of COLOUR records of a list. -/
def colourCount (l : List (Nat × Rec)) : Nat := (l.filter fun p => decide (p.2 = .colour)).length

/-- The cursor moves forward over these records to index c: the cursor position follows the turn records among them
and the cursor colour step the COLOUR records (R11, R16). -/
def Store.advance (crossed : List (Nat × Rec)) (c : Nat) (st : Store) : Store :=
  { st with
    cursor := c
    cursorPos := crossed.foldl (fun p r => p.add (r.2.move.getD .zero)) st.cursorPos
    cursorColour := st.cursorColour + colourCount crossed }

/-- The records of a list up to and including the first turn record, and that turn record. -/
def upToTurn : List (Nat × Rec) → List (Nat × Rec) × Option (Nat × Rec)
  | [] => ([], none)
  | p :: rest =>
    if p.2.move.isSome then ([p], some p)
    else
      let more := upToTurn rest
      (p :: more.1, more.2)

/-- What a step of the store does: the turn record it carries, if any, is moved over by the Frame Drive. -/
structure StoreStep where
  store : Store
  turn  : Option Nat
  deriving DecidableEq, Repr

/-- A backward step with bound b, for b below the cursor (R15). -/
def Store.stepBack (st : Store) (b : Nat) : StoreStep :=
  let span := (indexed b ((st.records.take (st.cursor - st.retire)).drop (b - st.retire))).reverse
  let found := upToTurn span
  let colour := st.cursorColour - colourCount found.1
  match found.2 with
  | some (t, r) =>
    ⟨{ st with cursor := t, cursorPos := st.cursorPos.sub (r.move.getD .zero), cursorColour := colour }, some t⟩
  | none => ⟨{ st with cursor := b, cursorColour := colour }, none⟩

/-- A forward step with bound e, for e above the cursor (R16). -/
def Store.stepForward (st : Store) (e : Nat) : StoreStep :=
  let found := upToTurn (st.pendingRecords.take (e - st.cursor))
  match found.2 with
  | some (t, _) => ⟨st.advance found.1 (t + 1), some t⟩
  | none => ⟨st.advance found.1 e, none⟩

/-- The turn records in history, the count BACKTRACK is clamped to (R15). -/
def Store.historyTurns (st : Store) : Nat :=
  ((st.records.take (st.cursor - st.retire)).filter fun r => r.move.isSome).length

/-- What every step of the store brings with it: the cap profile is emptied, a stop point cleared, a pending report
delivered, and after a backward step the low mark tested (R13, R21, R45, R54). -/
def afterStep (backward : Bool) (s : State) : State :=
  let s := s.modPlanner fun p => { p with caps := [], stopPoint := none }
  let s := if backward then rearmLowMark s else s
  rebuild s

/-- A backward step (R15). The result carries the turn record to move over. -/
def storeBack (b : Nat) (s : State) : State × Option Nat :=
  let st := s.store.stepBack b
  (afterStep true (s.modStore fun _ => st.store), st.turn)

/-- A forward step (R16). The result carries the turn record to move over. -/
def storeForward (e : Nat) (s : State) : State × Option Nat :=
  let st := s.store.stepForward e
  (afterStep false (s.modStore fun _ => st.store), st.turn)

/-- The design point: the origin plus pos(cursor) (R60). -/
def State.designPoint (s : State) : Pt := s.store.origin.add s.store.cursorPos

/-! ### The store's requests -/

/-- The store empties itself for DESIGN OPEN or DESIGN DISCARD, and what depends on the records goes with them: the
gaps, the kept detection starts, the cap profile, the stop point and the lookahead (R4, R6, R45, R54). -/
def dropDesign (st : Store) (s : State) : State :=
  let s := s.modStore fun _ => st
  let s := s.modHeads fun _ h => { h with gaps := [], kept := h.kept.map fun _ => 0 }
  rebuild (s.modPlanner fun p => { p with caps := [], stopPoint := none })

/-- DESIGN OPEN at an origin (R4). -/
def openDesign (x y : Int) (s : State) : State × Answer :=
  if s.run.state ≠ .idle then (s, plain .state)
  else if ¬ s.inLimits ⟨x, y⟩ then (s, plain .limit)
  else
    let s := dropDesign { Store.empty s.store.check with isOpen := true, origin := ⟨x, y⟩ } s
    (s.modRun fun r => { r with armed := false }, plain .done)

/-- DESIGN DISCARD (R6). It ends a wait for a COLOUR restart too, with its timer (notes/assumptions/41.md). -/
def discardDesign (s : State) : State × Answer :=
  if s.run.state = .running ∨ s.run.state = .stopping ∨ s.run.state = .locked then (s, plain .state)
  else if ¬ s.slotEmpty then (s, plain .busy)
  else
    let s := dropDesign (.empty s.store.check) s
    let s := s.modRun fun r => { r with repair := .inactive, armed := false, inject := none }
    let s := s.modFrame fun f => { f with offset := .zero }
    (setRunState .idle (clearResume s), plain .done)

/-- The payload of a LOAD reply: the accepted count and fill (R7, R203). -/
def loadAnswer (st : Status) (accepted : Nat) (s : State) : Answer :=
  ⟨st, u8 accepted ++ u24 s.store.fill⟩

/-- The list is rebuilt at a LOAD; one that ends an empty list is noted with its millisecond (R47, R55). -/
def rebuildAtLoad (s : State) : State :=
  let was := s.planner.lookahead
  let now := s.clock
  (rebuild s).modPlanner fun p =>
    if was.isEmpty && !p.lookahead.isEmpty then { p with freshAt := some now } else p

/-- LOAD (R7 to R9). -/
def loadRecords (start : Index3) (count : Byte) (data : List Byte) (s : State) : State × Answer :=
  if count.toNat < 1 ∨ Config.loadLimit < count.toNat ∨ data.length ≠ 3 * count.toNat then
    (s, loadAnswer .form 0 s)
  else if start.toNat ≠ s.store.fill then (s, loadAnswer .sequence 0 s)
  else
    let got := intake data 0 s
    let s := got.1
    let s := if got.2.1 = 0 then s else rebuildAtLoad (rearmLowMark s)
    (s, loadAnswer (got.2.2.getD .done) got.2.1 s)

/-- LOAD TABLE (R42). The slot is checked before the points (notes/assumptions/47.md). -/
def loadAxisTable (axis : Byte) (points : List RawPoint) (s : State) : State × Answer :=
  if 1 < axis.toNat then (s, plain .form)
  else if s.run.state = .running ∨ s.run.state = .stopping then (s, plain .state)
  else if ¬ s.slotEmpty then (s, plain .busy)
  else
    match tableOf points with
    | none => (s, plain .form)
    | some t =>
      (rebuild (s.modPlanner fun p => if axis = 0 then { p with tableX := some t } else { p with tableY := some t }),
       plain .done)

end Sys2Proof.Machine
end

