-- ==== Sys2Proof/Machine/Thread.lean ====
section
/-! DEFINITION. The Thread Monitors (chapter 8): turns joined and left, the gate and the sample, the judging of a
turn, the holdoff, sensor tests and the bobbin. What the Head Table does with a fault is in Stop.lean. -/

namespace Sys2Proof.Machine

/-- To clear a monitor: its runs become 0 and its window empty (R142). -/
def Monitor.cleared (m : Monitor) : Monitor :=
  { m with breakRun := 0, breakFirst := 0, window := [], stuckRun := 0, stuckReading := 0, stuckFirst := 0,
           railRun := 0, railFirst := 0 }

/-- A holdoff restart from index f (R150). -/
def Monitor.holdFromIndex (holdoff f : Nat) (m : Monitor) : Monitor := { m with holdCount := holdoff, holdFrom := f }

/-- A gathering is opened for turn t (R143). -/
def Monitor.openGathering (t : Nat) (m : Monitor) : Monitor :=
  { m with gatherings := m.gatherings ++ [⟨t, 0, .notYet, none⟩] }

/-- The report of an issued STITCH turn t, with the head in its sew set or not (R143). -/
def Monitor.turnReport (holdoff t : Nat) (sews : Bool) (m : Monitor) : Monitor :=
  match m.member, sews with
  | false, true => { (m.cleared.holdFromIndex holdoff t).openGathering t with member := true }
  | true, true => m.openGathering t
  | true, false => { m.cleared with member := false }
  | false, false => m

/-- Every monitor takes the report of an issued STITCH turn (R143). -/
def reportTurn (t : Nat) (sewSet : HeadSet) (s : State) : State :=
  let holdoff := s.nat .holdoff
  s.modMonitors fun h m => m.turnReport holdoff t (inSet sewSet h)

/-- A holdoff restart for the heads of a set (R113, R150). -/
def restartHoldoff (hs : HeadSet) (f : Nat) (s : State) : State :=
  let holdoff := s.nat .holdoff
  s.modMonitors fun h m => if inSet hs h then m.holdFromIndex holdoff f else m

/-- A change of the newest gathering, the one opened last (R144). -/
def changeNewest (f : Gathering → Gathering) : List Gathering → List Gathering
  | [] => []
  | [g] => [f g]
  | g :: gs => g :: changeNewest f gs

/-- The gate-start mark at a monitor (R144). -/
def Monitor.gateStart (m : Monitor) : Monitor :=
  { m with gatherings := changeNewest (fun g => if g.gate = .notYet then { g with gate := .opened } else g) m.gatherings }

/-- The gate-end mark at a monitor (R144). -/
def Monitor.gateEnd (m : Monitor) : Monitor :=
  { m with gatherings := changeNewest (fun g => if g.gate = .opened then { g with gate := .closed } else g) m.gatherings }

/-- The tension sample mark at a monitor, with the level on its input (R145). -/
def Monitor.sample (level : BitVec 10) (m : Monitor) : Monitor :=
  { m with gatherings :=
      changeNewest (fun g => if g.reading.isNone then { g with reading := some level } else g) m.gatherings }

/-- A thread pulse at a monitor (R144). -/
def Monitor.pulse (m : Monitor) : Monitor :=
  { m with gatherings := m.gatherings.map fun g =>
      if g.gate = .opened then { g with pulses := min 255 (g.pulses + 1) } else g }

/-! ### Judging a turn (R146 to R151, R157) -/

/-- The bobbin count of a sewn turn (R157). -/
def Monitor.countBobbin (m : Monitor) : Monitor := { m with bobbin := m.bobbin.map fun n => n - 1 }

/-- The count falls to exactly BOBBIN_WARN with this turn (R157). -/
def Monitor.bobbinWarns (warn : Nat) (m : Monitor) : Bool :=
  match m.bobbin with
  | none => false
  | some n => decide (0 < n ∧ n - 1 = warn)

/-- The stuck and rail runs take a reading (R151). -/
def Monitor.takeReading (t : Nat) (r : BitVec 10) (m : Monitor) : Monitor :=
  let m :=
    if m.stuckRun = 0 ∨ r ≠ m.stuckReading then { m with stuckRun := 1, stuckReading := r, stuckFirst := t }
    else { m with stuckRun := m.stuckRun + 1 }
  if r = 0 ∨ r = 1023 then
    { m with railRun := m.railRun + 1, railFirst := if m.railRun = 0 then t else m.railFirst }
  else { m with railRun := 0 }

/-- The SENSOR fault that the runs show, if any, at turn t with this reading (R151). -/
def Monitor.sensorFault (t : Nat) (r : BitVec 10) (m : Monitor) : Option FaultRecord :=
  if Config.railLimit ≤ m.railRun then some ⟨.sensor, m.railFirst, t, r.toNat, .run⟩
  else if Config.stuckLimit ≤ m.stuckRun then some ⟨.sensor, m.stuckFirst, t, m.stuckReading.toNat, .run⟩
  else none

/-- The break run takes a turn whose gate opened (R147). -/
def Monitor.judgeThread (pulseMin t pulses : Nat) (m : Monitor) : Monitor :=
  if pulses < pulseMin then
    { m with breakRun := m.breakRun + 1, breakFirst := if m.breakRun = 0 then t else m.breakFirst }
  else { m with breakRun := 0 }

/-- The verdict of a reading (R148). -/
def tensionVerdict (low high : Nat) (r : BitVec 10) : Tension :=
  if r.toNat < low then .low else if high < r.toNat then .high else .inside

/-- The last n entries of a list. -/
def lastEntries {α : Type} (n : Nat) (l : List α) : List α := l.drop (l.length - n)

/-- The verdict of a turn enters the window, and the oldest entry leaves a full one (R148). -/
def Monitor.enterVerdict (size t : Nat) (v : Tension) (m : Monitor) : Monitor :=
  { m with window := lastEntries size (m.window ++ [⟨v, t⟩]) }

/-- The entries of the window with a verdict. -/
def Monitor.entriesOf (m : Monitor) (v : Tension) : List WindowEntry := m.window.filter fun e => e.verdict = v

/-- The tension fault the window shows, if any (R149). -/
def Monitor.tensionFault (count t : Nat) (m : Monitor) : Option FaultRecord :=
  let found (k : FaultKind) (v : Tension) : Option FaultRecord :=
    match m.entriesOf v with
    | [] => none
    | e :: es => if count ≤ es.length + 1 then some ⟨k, e.turn, t, es.length + 1, .run⟩ else none
  (found .lowTension .low).or (found .highTension .high)

/-- A fault record is latched: the monitor clears itself, and a SENSOR fault sets the status FAILED (R158). -/
def Monitor.latch (f : FaultRecord) (m : Monitor) : Monitor :=
  { m.cleared with fault := some f, sensor := if f.kind = .sensor then .failed else m.sensor }

/-- Steps 4 to 7 of the evaluation: holdoff, thread motion, tension, bobbin empty (R146). -/
def State.judge (s : State) (t : Nat) (g : Gathering) (m : Monitor) : Monitor × Option FaultRecord :=
  if 0 < m.holdCount ∧ m.holdFrom ≤ t then ({ m with holdCount := m.holdCount - 1 }, none)
  else
    let m := if g.gate = .notYet then m else m.judgeThread (s.nat .pulseMin) t g.pulses
    if g.gate ≠ .notYet ∧ g.pulses < s.nat .pulseMin ∧ s.nat .breakRun ≤ m.breakRun then
      (m, some ⟨.breakFault, m.breakFirst, t, g.pulses, .run⟩)
    else
      let m := match g.reading with
        | none => m
        | some r => m.enterVerdict (s.nat .tenWindow) t (tensionVerdict (s.nat .tenLow) (s.nat .tenHigh) r)
      match (if g.reading.isSome then m.tensionFault (s.nat .tenCount) t else none) with
      | some f => (m, some f)
      | none => (m, if m.bobbin = some 0 then some ⟨.bobbin, t, t, 0, .run⟩ else none)

/-- The evaluation of a completed turn t from its gathering: the monitor after it, the fault found and latched,
and whether the bobbin warning is raised (R146). -/
def State.evaluate (s : State) (t : Nat) (g : Gathering) (m : Monitor) : Monitor × Option FaultRecord × Bool :=
  let warns := m.bobbinWarns (s.nat .bobbinWarn)
  let m := { m.countBobbin with gatherings := m.gatherings.filter fun x => x.turn ≠ t }
  if m.fault.isSome then (m, none, warns)
  else
    let m := match g.reading with
      | none => m
      | some r => m.takeReading t r
    match g.reading.bind fun r => m.sensorFault t r with
    | some f => (m.latch f, some f, warns)
    | none =>
      let j := s.judge t g m
      match j.2 with
      | some f => (j.1.latch f, some f, warns)
      | none => (j.1, none, warns)

/-! ### Sensor tests (R153) -/

/-- The verdicts of a sensor test (R153). -/
inductive SensorVerdict where
  | passed
  | failedIdle
  | failedRef
  | failedBoth
  deriving DecidableEq, Repr

/-- The named value of a sensor verdict (R153). -/
def SensorVerdict.value : SensorVerdict → Nat
  | .passed => 0 | .failedIdle => 1 | .failedRef => 2 | .failedBoth => 3

/-- The verdict of a head by its two readings (R153). -/
def State.sensorVerdict (s : State) (idle ref : BitVec 10) : SensorVerdict :=
  let idleOk := decide (idle.toNat ≤ s.nat .sensorIdleMax)
  let refOk := decide (s.nat .sensorRefLo ≤ ref.toNat) && decide (ref.toNat ≤ s.nat .sensorRefHi)
  match idleOk, refOk with
  | true, true => .passed
  | false, true => .failedIdle
  | true, false => .failedRef
  | false, false => .failedBoth

/-- A sensor test of a set of heads begins: idle readings, test loads, the timer (R153). -/
def beginSensorTest (hs : HeadSet) (s : State) : State :=
  let level := s.pins.tension
  s.modThread fun t => { t with testLoad := hs, test := some ⟨hs, level, Config.sensorTestMs⟩ }

/-- The test loads are released and no test is in progress (R153, R154). -/
def releaseSensorTest (s : State) : State :=
  s.modThread fun t => { t with testLoad := 0, test := none }

/-- The statuses of the tested heads, all together (R153). -/
def giveVerdicts (test : SensorTest) (s : State) : State :=
  s.modMonitors fun h m =>
    if inSet test.heads h then
      { m with sensor := if s.sensorVerdict test.idle[h] s.pins.tension[h] = .passed then .passed else .failed }
    else m

/-- The detail of a SENSOR TEST: per listed head the verdict, the idle reading and the reference reading; an aborted
test carries the idle readings alone (R154, R204). -/
def sensorDetail (s : State) (test : SensorTest) (finished : Bool) : List Byte :=
  listBytes (fun h : Head =>
      if finished then
        u8 (s.sensorVerdict test.idle[h] s.pins.tension[h]).value ++ u16 test.idle[h].toNat ++ u16 s.pins.tension[h].toNat
      else byteOrNone none ++ u16 test.idle[h].toNat ++ halfOrNone none)
    (headsIn test.heads)

/-! ### The bobbin (R156) -/

/-- BOBBIN SET (R156). -/
def setBobbin (head : Byte) (value : Word) (s : State) : State × Answer :=
  match s.headOf head with
  | none => (s, plain .form)
  | some h =>
    if value = 0xFFFFFFFF#32 then (s.modMonitor h fun m => { m with bobbin := none }, plain .done)
    else if 1000000 < value.toNat then (s, plain .form)
    else (s.modMonitor h fun m => { m with bobbin := some value.toNat }, plain .done)

end Sys2Proof.Machine
end

