-- ==== Sys2Proof/Machine/Functions.lean ====
section
/-! DEFINITION. The Function Unit (chapter 6): the function map, head sets, the action channels and their dues, and
the functions carried out at an issue. -/

namespace Sys2Proof.Machine

/-- Change one channel. -/
def State.modChannel (c : Chan) (f : Channel → Channel) (s : State) : State :=
  s.modFunc fun u => { u with channels := u.channels.set c (f u.channels[c]) }

/-- Change every channel. -/
def State.modChannels (f : Chan → Channel → Channel) (s : State) : State :=
  s.modFunc fun u => { u with channels := mapTwelve f u.channels }

/-- A channel made IDLE: no latch, no pulse, no marks (R115, R120, R122). -/
def Channel.idle (c : Channel) : Channel := { c with latch := none, pulse := none }

/-- A channel whose pulse part becomes NONE (R118, R121, R123). -/
def Channel.endPulse (c : Channel) : Channel := { c with pulse := none }

/-- The reported states of a channel (R116). -/
inductive ChanState where
  | latched
  | active
  | pending
  | idle
  deriving DecidableEq, Repr

/-- The reported state (R116). -/
def Channel.state (c : Channel) : ChanState :=
  match c.latch, c.pulse with
  | some _, _ => .latched
  | none, some p => if p.active then .active else .pending
  | none, none => .idle

/-- The line of head h on a PER_HEAD channel is active (R116). -/
def Channel.headLine (c : Channel) (h : Head) : Bool :=
  decide (c.type = .perHead) &&
  ((match c.latch with
    | some l => inSet l.heads h
    | none => false) ||
   (match c.pulse with
    | some p => p.active && inSet p.heads h
    | none => false))

/-- The common line of a COMMON channel is active (R116). -/
def Channel.commonLine (c : Channel) : Bool :=
  decide (c.type = .common) &&
  (c.latch.isSome ||
   (match c.pulse with
    | some p => p.active
    | none => false))

/-- The level a line is driven to: the active level of the polarity, or the other one (R115). -/
def Channel.level (c : Channel) (active : Bool) : Bool :=
  match c.polarity with
  | .activeHigh => active
  | .activeLow => !active

/-! ### Dues (R117, R119) -/

/-- The degrees from angle `at0` forward to the next arrival at angle a, 1..360. -/
def degreesTo (at0 a : Nat) : Nat := (a + 719 - at0) % 360 + 1

/-- Where the shaft stands when a function is carried out, and whether the channel's arrival at that very angle
is still to be taken (R119). -/
structure Trigger where
  angle : Nat
  owed  : Bool
  deriving DecidableEq, Repr

/-- How far off a due's last arrival is; an arrival still owed at the present angle comes first (R119). -/
def Trigger.distance (t : Trigger) (d : Due) : Nat :=
  if t.owed && decide (d.angle = t.angle) then 360 * (d.toGo - 1)
  else degreesTo t.angle d.angle + 360 * (d.toGo - 1)

/-- A due of n arrivals after the trigger; the arrival still owed at the present angle is not one of them (R117). -/
def Trigger.due (t : Trigger) (angle n : Nat) : Due :=
  ⟨angle, if t.owed && decide (angle = t.angle) then n + 1 else n⟩

/-- The start due of a PULSE item (R117). -/
def Trigger.startDue (t : Trigger) (r s : Nat) : Due := t.due s (r + 1)

/-- The end due of a PULSE item: the (k + 1)-th arrival at e after the start, counted from the trigger (R117). -/
def Trigger.endDue (t : Trigger) (r s k e : Nat) : Due :=
  let before := if degreesTo t.angle e ≤ degreesTo t.angle s then r + 1 else r
  t.due e (before + k + 1)

/-- The earlier of two dues; the held one when they fall together (R119). -/
def Trigger.earlier (t : Trigger) (held new : Due) : Due := if t.distance new < t.distance held then new else held

/-- The later of two dues; the held one when they fall together (R119). -/
def Trigger.later (t : Trigger) (held new : Due) : Due := if t.distance held < t.distance new then new else held

/-- A PULSE item at a channel, with the heads captured (R112, R117, R119). -/
def Channel.takePulse (t : Trigger) (r s k e : Nat) (hs : HeadSet) (common : Bool) (c : Channel) : Channel :=
  if hs = 0 ∧ common = false then c
  else
    let start := t.startDue r s
    let stop := t.endDue r s k e
    match c.pulse with
    | none => { c with pulse := some ⟨false, hs, common, some start, some stop⟩ }
    | some p =>
      let later := match p.stop with
        | none => stop
        | some d => t.later d stop
      if p.active then
        { c with pulse := some ⟨true, p.heads ||| hs, p.common || common, none, some later⟩ }
      else
        let earlier := match p.start with
          | none => start
          | some d => t.earlier d start
        { c with pulse := some ⟨false, p.heads ||| hs, p.common || common, some earlier, some later⟩ }

/-- A SET item at a channel (R112, R120). -/
def Channel.takeSet (hs : HeadSet) (common : Bool) (c : Channel) : Channel :=
  if hs = 0 ∧ common = false then c
  else
    match c.latch with
    | none => { c with latch := some ⟨hs, common⟩ }
    | some l => { c with latch := some ⟨l.heads ||| hs, l.common || common⟩ }

/-- An action item at its channel (R117, R120). -/
def Channel.takeAction (t : Trigger) (a : Act) (hs : HeadSet) (common : Bool) (c : Channel) : Channel :=
  match a with
  | .pulse r s k e => c.takePulse t r s k e hs common
  | .set => c.takeSet hs common
  | .clear => c.idle

/-- One arrival less at angle a on a due. -/
def Due.countOff (a : Nat) (d : Due) : Due := if d.angle = a then { d with toGo := d.toGo - 1 } else d

/-- An arrival at angle a at a channel that has a mark there (R118). -/
def Channel.arrive (a : Nat) (c : Channel) : Channel :=
  match c.pulse with
  | none => c
  | some p =>
    let start := p.start.map (Due.countOff a)
    let stop := p.stop.map (Due.countOff a)
    if stop.any fun d => d.toGo = 0 then c.endPulse
    else if start.any fun d => d.toGo = 0 then { c with pulse := some { p with active := true, start := none, stop := stop } }
    else { c with pulse := some { p with start := start, stop := stop } }

/-! ### Carrying out functions (R111 to R114) -/

/-- The heads an entry's items address, and the common mark, at an issue with this SEWING set (R112). -/
def State.captured (s : State) (sewing : HeadSet) : Scope → HeadSet × Bool
  | .sewing => (sewing, false)
  | .enabled => (headsWhere fun h => s.fitted h && decide ((s.head h).state ≠ .disabled), false)
  | .common => (headsWhere s.fitted, true)

/-- The channels whose arrival at the present angle is still to be taken when an issue is made (R119). -/
abbrev Owed := List Chan

/-- The action items of an entry in list order (R111). -/
def carryItems (angle : Nat) (owed : Owed) (hs : HeadSet) (common : Bool) : List Action → State → State
  | [], s => s
  | a :: as, s =>
    carryItems angle owed hs common as
      (s.modChannel a.chan fun c => c.takeAction ⟨angle, owed.contains a.chan⟩ a.act hs common)

/-- A function is carried out: its items on their channels, and with the slack flag on a holdoff restart of the
SEWING set from index f (R111, R113). -/
def carryOut (owed : Owed) (sewing : HeadSet) (f : Nat) (c : Code) (s : State) : State :=
  let e := s.func.entry c
  let cap := s.captured sewing e.scope
  let s := carryItems (s.angle.getD 0) owed cap.1 cap.2 e.actions s
  if e.slack then restartHoldoff sewing f s else s

/-- The codes of the FUNCTION records of an issue, in index order. -/
def functionCodes (records : List (Nat × Rec)) : List Code :=
  records.filterMap fun p =>
    match p.2 with
    | .function c => some c
    | _ => none

/-- Functions carried out one after another, each whole before the next (R111). -/
def carryAll (owed : Owed) (sewing : HeadSet) (f : Nat) : List Code → State → State
  | [], s => s
  | c :: cs, s => carryAll owed sewing f cs (carryOut owed sewing f c s)

/-- The code of the colour trim, if COLOUR_TRIM names one (R114). -/
def State.trimCode (s : State) : Option Code :=
  let n := s.nat .colourTrim
  if h : 0 < n ∧ n < 64 then some ⟨n, h.2⟩ else none

/-! ### Stops and emergency (R121, R122) -/

/-- A stopped report at the Function Unit: every pulse part becomes NONE (R121). -/
def cancelPulses (s : State) : State := s.modChannels fun _ c => c.endPulse

/-- An EMERGENCY cause at the Function Unit: every channel becomes IDLE (R122). -/
def idleChannels (s : State) : State := s.modChannels fun _ c => c.idle

/-- The channel test in progress ends (R123, R124). -/
def endChannelTest (s : State) : State :=
  match s.func.test with
  | none => s
  | some t => (s.modChannel t.chan Channel.endPulse).modFunc fun u => { u with test := none }

/-- The detail of a CHANNEL TEST: the channel, the heads, and the milliseconds the lines were held (R123). -/
def channelDetail (t : ChanTest) (held : Nat) : List Byte :=
  u8 t.chan.val ++ headSetBytes t.heads ++ u32 held

/-! ### The Function Unit's requests -/

/-- The standby bank with an entry written (R109). -/
def FuncUnit.writeStandby (c : Code) (e : MapEntry) (f : FuncUnit) : FuncUnit :=
  match f.active with
  | .a => { f with bankB := f.bankB.set c e }
  | .b => { f with bankA := f.bankA.set c e }

/-- The other bank. -/
def Bank.other : Bank → Bank
  | .a => .b
  | .b => .a

/-- The bank byte of a reply (R203). -/
def Bank.value : Bank → Nat
  | .a => 0 | .b => 1

/-- LOAD MAP ENTRY (R109). -/
def loadEntry (raw : RawEntry) (s : State) : State × Answer :=
  match entryOf raw with
  | none => (s, plain .form)
  | some (c, e) => (s.modFunc (FuncUnit.writeStandby c e), ⟨.done, u8 s.func.active.other.value⟩)

/-- SWAP MAP (R110). -/
def swapBanks (s : State) : State × Answer :=
  if s.run.state = .running ∨ s.run.state = .stopping ∨ s.shaft.motion = .turning then (s, plain .state)
  else
    (rebuild (s.modFunc fun f => { f with active := f.active.other }), ⟨.done, u8 s.func.active.other.value⟩)

/-- SET CHANNEL (R115). -/
def setupChannel (chan type polarity : Byte) (s : State) : State × Answer :=
  match chanOf chan with
  | none => (s, plain .form)
  | some c =>
    if 1 < type.toNat ∨ 1 < polarity.toNat then (s, plain .form)
    else if s.run.state = .running ∨ s.run.state = .stopping ∨ s.shaft.motion = .turning then (s, plain .state)
    else if s.func.test.any fun t => t.chan = c then (s, plain .busy)
    else
      (s.modChannel c fun _ =>
          ⟨if type = 0 then .common else .perHead, if polarity = 0 then .activeHigh else .activeLow, none, none⟩,
       plain .done)

end Sys2Proof.Machine
end

