-- ==== Sys2Proof/Machine/Needle.lean ====
section
/-! DEFINITION. The Needle Bar Control (chapter 7): the plan, the position input and the settled needle, the change
handshake and the lost watch. Where the end of a change goes is in Stop.lean, Operation.lean and Start.lean. -/

namespace Sys2Proof.Machine

/-- A needle number fitted on this machine, 1..NEEDLES. -/
def State.isNeedle (s : State) (n : Nat) : Bool := decide (1 ≤ n) && decide (n ≤ s.nat .needles)

/-- The plan entry of a colour step (R127). -/
def NeedleBar.planAt (n : NeedleBar) (step : Nat) : Option Nat := (n.plan[step]?).join

/-- The plan entry of the cursor colour step. -/
def State.planNeedle (s : State) : Option Nat := s.needle.planAt s.store.cursorColour

/-- A needle change of a starter begins (R127, R131). The flag says that it completed at once, on a needle already settled. -/
def beginChange (p : ChangePurpose) (target : Nat) (who : Starter) (s : State) : State × Bool :=
  if s.needle.settled = some target then
    (s.modNeedle fun n => { n with target := target, watch := none }, true)
  else
    let limit := s.nat .needleTimeout
    let stamp := s.clock
    (s.modNeedle fun n =>
      { n with target := target, request := true, change := some ⟨p, target, who, limit, limit, stamp⟩, watch := none },
     false)

/-- The change in progress becomes none and REQUEST is released (R132, R133). -/
def releaseChange (s : State) : State := s.modNeedle fun n => { n with request := false, change := none }

/-- The detail words of a change or a landing (R204). -/
inductive DetailWord where
  | timeout
  | stopped
  | emergency
  | needleDown
  | planEmpty
  deriving DecidableEq, Repr

/-- The named value of a detail word (R204). -/
def DetailWord.value : DetailWord → Nat
  | .timeout => 0 | .stopped => 1 | .emergency => 2 | .needleDown => 3 | .planEmpty => 4

/-- A needle number or NONE in a field (R204). -/
def needleBytes (n : Option Nat) : List Byte := byteOrNone n

/-- The milliseconds from REQUEST to now. -/
def State.since (s : State) (stamp : Word) : Nat := (s.clock - stamp).toNat

/-- A detail word, where there is one (R204). -/
def detailWordBytes (w : Option DetailWord) : List Byte := whenBytes (w.map fun x => u8 x.value) 1

/-- The detail of a COLOUR CHANGE or a NEEDLE SELECT: the colour step, the target, the settled needle at the end, the
milliseconds and, on a flag, the detail word (R134, R135, R204; notes/assumptions/33.md). -/
def changeDetail (s : State) (target ms : Nat) (w : Option DetailWord) : List Byte :=
  u8 s.store.cursorColour ++ u8 target ++ needleBytes s.needle.settled ++ u32 ms ++ detailWordBytes w

/-- What the OP_DONE detail of a stepwise operation carries of its landing check: of a LANDING change its target, the
settled needle, its milliseconds, on one flag; and, on a flag of its own, the detail word (R137, R204;
notes/assumptions/33.md). -/
def landingDetail (s : State) (change : Option (Nat × Nat)) (w : Option DetailWord) : List Byte :=
  whenBytes (change.map fun c => u8 c.1 ++ needleBytes s.needle.settled ++ u32 c.2) 6
  ++ detailWordBytes w

/-- The milliseconds of a change as it ends: the whole timeout at its expiry, else what the counter shows (R132). -/
def State.changeMs (s : State) (c : NeedleChange) (w : Option DetailWord) : Nat :=
  if w = some .timeout then c.limit else s.since c.stamp

/-! ### The position input (R129, R139) -/

/-- The position input changes value (R129, R139). -/
def movePosition (v : BitVec 4) (s : State) : State :=
  let old := s.pins.needle
  if v = old then s
  else
    let settle := if s.isNeedle v.toNat then some (s.nat .needleSettle) else none
    let away := s.nat .needleSettle
    let s := s.modPins fun p => { p with needle := v }
    s.modNeedle fun n =>
      { n with
        settled := none
        settle := settle
        watch := n.watch.map fun w =>
          if old.toNat = w.needle then { w with away := some away }
          else if v.toNat = w.needle then { w with away := none }
          else w }

/-- At the end of a power-on reset the settle timer starts when the input reads a needle (R141). -/
def startSettle (s : State) : State :=
  let settle := if s.isNeedle s.pins.needle.toNat then some (s.nat .needleSettle) else none
  s.modNeedle fun n => { n with settle := settle }

/-- The settled needle becomes the reading and the timer stops (R129). A timer that runs on as NEEDLES is lowered below the
reading settles NONE (notes/assumptions/42.md). -/
def takeSettled (s : State) : State :=
  let reading := s.pins.needle.toNat
  let settled := if s.isNeedle reading then some reading else none
  s.modNeedle fun n => { n with settled := settled, settle := none }

/-! ### The needle check of a call (R10, R130) -/

/-- The answers to the needle check (R10, R130). -/
inductive NeedleCheck where
  | match
  | mismatch
  | planEmpty
  deriving DecidableEq, Repr

/-- The needle check at a call: the plan entry of the cursor colour step against the settled needle (R10). -/
def State.needleCheck (s : State) : NeedleCheck :=
  match s.planNeedle with
  | none => .planEmpty
  | some n => if s.needle.settled = some n then .match else .mismatch

/-- The lost watch after the needle check: armed by a match while disarmed, disarmed by a mismatch (R130, R138). -/
def watchAfterCheck (s : State) : State :=
  match s.needleCheck with
  | .planEmpty => s
  | .mismatch => s.modNeedle fun n => { n with watch := none }
  | .match =>
    s.modNeedle fun n =>
      match n.watch, n.settled with
      | none, some k => { n with watch := some ⟨k, none⟩ }
      | _, _ => n

/-! ### LOAD NEEDLE PLAN (R128) -/

/-- A plan entry value: 0 is empty. -/
def planValue (b : Byte) : Option Nat := if b = 0 then none else some b.toNat

/-- The plan with entry k written. -/
def setPlan (k : Nat) (v : Option Nat) (plan : Vector (Option Nat) 256) : Vector (Option Nat) 256 :=
  if h : k < 256 then plan.set k v h else plan

/-- The plan with values written in order from step k on. -/
def writePlan : Nat → List Byte → Vector (Option Nat) 256 → Vector (Option Nat) 256
  | _, [], plan => plan
  | k, v :: vs, plan => writePlan (k + 1) vs (setPlan k (planValue v) plan)

/-- LOAD NEEDLE PLAN (R128). -/
def loadPlan (first : Byte) (values : List Byte) (s : State) : State × Answer :=
  let count := values.length
  if count < 1 ∨ 128 < count ∨ 256 < first.toNat + count ∨ values.any (fun v => s.nat .needles < v.toNat) then
    (s, plain .form)
  else if (s.run.state = .running ∨ s.run.state = .stopping) ∧
      first.toNat ≤ s.store.cursorColour ∧ s.store.cursorColour < first.toNat + count then
    (s, plain .state)
  else
    (s.modNeedle fun n => { n with plan := writePlan first.toNat values n.plan }, ⟨.done, u8 count⟩)

/-- NEEDLES is lowered: entries above it become empty and a settled needle above it NONE (R128). -/
def lowerNeedles (top : Nat) (s : State) : State :=
  s.modNeedle fun n =>
    { n with
      plan := ⟨(n.plan.toList.map fun e => e.filter fun k => decide (k ≤ top)).toArray, by simp⟩
      settled := n.settled.filter fun k => decide (k ≤ top) }

end Sys2Proof.Machine
end

