-- ==== Sys2Proof/Machine/Frame.lean ====
section
/-! DEFINITION. The Frame Drive (chapter 4): chunks, the moves it begins and completes, the emergency in a move,
and homing. Where the end of a move goes is in Operation.lean and Start.lean. -/

namespace Sys2Proof.Machine

/-! ### Chunks (R63) -/

/-- The farthest coordinate from c toward g whose step move does not exceed m steps on an axis of this pitch (R63).
Its bounds are those of S: S(q) ≤ k exactly when q × pitch ≤ 10 k + 4, S(q) ≥ k exactly when q × pitch ≥ 10 k - 5. -/
def chunkEnd (pitch c g : Int) (m : Nat) : Int :=
  if c ≤ g then min g ((10 * (stepTarget pitch c + m) + 4) / pitch)
  else max g (-((5 - 10 * (stepTarget pitch c - m)) / pitch))

/-- The end of the next chunk from a coordinate toward a target (R63). -/
def State.nextChunk (s : State) (c g : Pt) : Pt :=
  ⟨chunkEnd (s.par .pitchX) c.x g.x (lastSteps s.planner.tableX),
   chunkEnd (s.par .pitchY) c.y g.y (lastSteps s.planner.tableY)⟩

/-- The move record of a chunk from the frame's coordinate (R60, R63). -/
def State.chunkMove (s : State) (p : Purpose) (target : Pt) (turn : Option Nat) (abort : Option AbortBy) : Move :=
  let c := s.nextChunk s.frame.coord target
  let l := s.stepsBetween s.frame.coord c
  ⟨p, target, c, l.1, l.2, turn, false, abort⟩

/-- The level of a direction line for a move of these steps on its axis; a move of none leaves it (R62). -/
def wayOf (steps : Int) (old : Way) : Way := if 0 < steps then .plus else if steps < 0 then .minus else old

/-- A move begins: it is in progress, and the direction line of each axis with steps to make takes their sign (R62). -/
def Frame.lay (m : Move) (f : Frame) : Frame :=
  { f with move := some m, dirX := wayOf m.leftX f.dirX, dirY := wayOf m.leftY f.dirY }

/-- The frame arrives: the steps still to emit are emitted, the frame coordinate becomes c, no move is in progress
and no late watch is set (R60, R62). -/
def arriveAt (c : Pt) (m : Move) (s : State) : State :=
  s.modFrame fun f =>
    { f with stepX := f.stepX + m.leftX, stepY := f.stepY + m.leftY, coord := c, move := none, late := none }

/-- The move in progress that an operation, a start or a first turn made: any but a turn move (R60). -/
def Frame.ownMove (f : Frame) : Option Move := f.move.filter fun m => decide (m.purpose ≠ .turnMove)

/-- A turn move in progress completes (R62, R64, R65). -/
def turnMoveEnds (s : State) : State :=
  match s.frame.move with
  | some m => if m.purpose = .turnMove then arriveAt m.target m s else s
  | none => s

/-- A chunked move begins from the frame's present coordinate; with the frame at its target it completes at once
and nothing is left in progress (R62, R63). The flag says that the move is complete. A late turn move that is still in progress
completes first (R65; notes/assumptions/48.md). -/
def beginChunked (p : Purpose) (target : Pt) (turn : Option Nat) (s : State) : State × Bool :=
  let s := turnMoveEnds s
  if s.frame.coord = target then (s, true)
  else (s.modFrame (Frame.lay (s.chunkMove p target turn none)), false)

/-- The frame-out offset is brought to where the frame stands (R76). -/
def offsetToFrame (s : State) : State :=
  let dp := s.designPoint
  s.modFrame fun f => { f with offset := f.coord.sub dp }

/-- The move in progress is to be the last one (R74, R80); the first reason stands. -/
def markAbort (who : AbortBy) (s : State) : State :=
  s.modFrame fun f =>
    { f with move := f.move.map fun m => { m with abort := m.abort.or (some who) } }

/-! ### Turn moves (R64, R67) -/

/-- The move of a turn issued while the shaft turns: one unchunked move with its late watch, or an arrival at once
when there is no step to make (R64). R64 says that no turn move begins while another is in progress; a shaft turned back over the
window-start mark and forward again calls for one all the same (R28, R89), and the model then completes the move in progress first
(DESIGN CHOICE, notes/assumptions/48.md). -/
def beginTurnMove (t : Nat) (jump : Bool) (target : Pt) (s : State) : State :=
  let s := turnMoveEnds s
  let l := s.stepsBetween s.frame.coord target
  let m : Move := ⟨.turnMove, target, target, l.1, l.2, some t, jump, none⟩
  if l = (0, 0) then arriveAt target m s
  else s.modFrame fun f => { f.lay m with late := some (if jump then .jumpEnd else .windowEnd) }

/-- An EMERGENCY stop at the Frame Drive: the steps cease, and a reference lost in a move becomes UNSURE (R67, R69). -/
def haltFrame (s : State) : State :=
  s.modFrame fun f =>
    match f.move with
    | none => f
    | some _ =>
      { f with move := none, late := none, ref := if f.ref = .referenced then .unsure else f.ref }

/-- One step is emitted on an axis of the move in progress, and the axis's step position changes at once (R62). -/
def emitStep (a : Axis) (s : State) : State :=
  s.modFrame fun f =>
    match f.move with
    | none => f
    | some m =>
      match a with
      | .x => { f with stepX := f.stepX + m.leftX.sign, move := some { m with leftX := m.leftX - m.leftX.sign } }
      | .y => { f with stepY := f.stepY + m.leftY.sign, move := some { m with leftY := m.leftY - m.leftY.sign } }

/-! ### Homing (R71 to R74) -/

/-- The pitch of an axis. -/
def State.pitch (s : State) : Axis → Int
  | .x => s.par .pitchX
  | .y => s.par .pitchY

/-- The steps of one search move, ceil(PITCH / 10) (R72). -/
def State.searchSteps (s : State) (a : Axis) : Nat := ceilDiv (s.pitch a).toNat 10

/-- The search budget of an axis (R71). -/
def State.searchBudget (s : State) : Axis → Nat
  | .x => ceilDiv ((s.par .limitXMax - s.par .limitXMin).toNat * s.nat .pitchX * 11) 100
  | .y => ceilDiv ((s.par .limitYMax - s.par .limitYMin).toNat * s.nat .pitchY * 11) 100

/-- The homing record as HOME starts, with the budgets fixed (R71). -/
def State.newHoming (s : State) : Homing where
  axis := .y
  backOff := false
  atEnd := false
  searchX := 0
  searchY := 0
  backX := 0
  backY := 0
  budgetX := s.searchBudget .x
  budgetY := s.searchBudget .y
  backLimitX := s.nat .pitchX * 20
  backLimitY := s.nat .pitchY * 20
  toDesign := decide (s.run.state ≠ .idle)

/-- The level sampled on an axis's reference switch. -/
def State.switchClosed (s : State) : Axis → Bool
  | .x => s.pins.switchX
  | .y => s.pins.switchY

/-- A homing move on the axis being homed: a search move in the negative direction or one back-off step in the
positive one. At it the reference state is UNREFERENCED (R69, R72). A late turn move that is still in progress completes first
(R65; notes/assumptions/48.md). -/
def homingMove (h : Homing) (s : State) : State :=
  let s := turnMoveEnds s
  let n : Int := if h.backOff then 1 else -(s.searchSteps h.axis : Int)
  let m : Move :=
    ⟨if h.backOff then .homingBackOff else .homingSearch, s.frame.coord, s.frame.coord,
     if h.axis = .x then n else 0, if h.axis = .y then n else 0, none, false, none⟩
  s.modFrame fun f => { f.lay m with ref := .unreferenced, homing := some h }

/-- The homing of an axis begins: a switch that reads closed skips the search (R72). -/
def beginAxis (h : Homing) (a : Axis) (s : State) : State :=
  homingMove { h with axis := a, backOff := s.switchClosed a } s

/-- The steps counted for the part of homing a completed move belongs to (R72); a move cut short adds none
(notes/assumptions/56.md). -/
def Homing.counted (h : Homing) (steps : Nat) : Homing :=
  match h.axis, h.backOff with
  | .x, false => { h with searchX := h.searchX + steps }
  | .y, false => { h with searchY := h.searchY + steps }
  | .x, true => { h with backX := h.backX + steps }
  | .y, true => { h with backY := h.backY + steps }

/-- The part of homing being made has reached its budget (R72). -/
def Homing.spent (h : Homing) : Bool :=
  match h.axis, h.backOff with
  | .x, false => decide (h.budgetX ≤ h.searchX)
  | .y, false => decide (h.budgetY ≤ h.searchY)
  | .x, true => decide (h.backLimitX ≤ h.backX)
  | .y, true => decide (h.backLimitY ≤ h.backY)

/-- The reference is applied at the found points (R73). -/
def applyReference (s : State) : State :=
  s.modFrame fun f =>
    { f with
      stepX := stepTarget (s.par .pitchX) (s.par .refX)
      stepY := stepTarget (s.par .pitchY) (s.par .refY)
      coord := ⟨s.par .refX, s.par .refY⟩
      ref := .referenced }

/-- The part of HOME that is being made: search 0, back-off 1, end move 2; R73 names the first two and gives no values
(notes/assumptions/33.md). -/
def Homing.part (h : Homing) : Nat := if h.atEnd then 2 else if h.backOff then 1 else 0

/-- The axis byte, X 0 and Y 1 as LOAD TABLE has it (notes/assumptions/33.md). -/
def axisValue : Axis → Nat
  | .x => 0 | .y => 1

/-- The detail of HOME: per axis the steps of the search and of the back-off; for a failure the axis and the part;
for an abort the part in which it was ended (R73, R74). The order X before Y is the model's (notes/assumptions/33.md), and so is that a move cut
short by an EMERGENCY adds no steps (notes/assumptions/56.md). -/
def homeDetail (h : Homing) (r : OpResult) : List Byte :=
  u32 h.searchX ++ u32 h.backX ++ u32 h.searchY ++ u32 h.backY
  ++ whenBytes (if r = .failed then some (u8 (axisValue h.axis) ++ u8 h.part) else none) 2
  ++ whenBytes (if r = .aborted then some (u8 h.part) else none) 1

/-- The detail of FRAME OUT and FRAME RETURN: the offset reached (R76). -/
def offsetDetail (s : State) : List Byte := i32 s.frame.offset.x ++ i32 s.frame.offset.y

/-- The offset target of FRAME OUT: the accumulated request clamped to the soft limits (R75). -/
def State.offsetTarget (s : State) (d : Pt) : Pt :=
  let dp := s.designPoint
  let want := (dp.add s.frame.offset).add d
  (Pt.mk (clampInt want.x (s.par .limitXMin) (s.par .limitXMax))
         (clampInt want.y (s.par .limitYMin) (s.par .limitYMax))).sub dp

end Sys2Proof.Machine
end

