-- ==== Sys2Proof/Machine/Stop.lean ====
section
/-! DEFINITION. How work and runs end: the ends of operations and of needle changes, the brake orders and the stopped
report, the end of a stop, stop causes and the emergency stop, and the needle flag's change to needle-down
(R31 to R39, R88, R91 to R97, R101, R103, R132 to R134). -/

namespace Sys2Proof.Machine

/-! ### Ends of operations and of needle changes -/

/-- HOME ends: its record is dropped with the move, if any is left, and OP_DONE carries it (R73, R74). -/
def endHome (r : OpResult) (s : State) : State :=
  let detail := match s.frame.homing with
    | some h => homeDetail h r
    | none => []
  endOperation r detail (s.modFrame fun f => { f with homing := none })

/-- A frame-out or a return operation ends (R76). -/
def endOffsetMove (r : OpResult) (s : State) : State := endOperation r (offsetDetail s) s

/-- A stepwise operation ends with no LANDING change made (R80, R137). -/
def endStepwise (r : OpResult) (w : Option DetailWord) (s : State) : State :=
  endOperation r (landingDetail s none w) (s.modFrame fun f => { f with dwell := none })

/-- A SENSOR TEST in the slot ends with no reference readings (R154). -/
def abortSensorTest (s : State) : State :=
  match s.thread.test with
  | none => endOperation .aborted [] s
  | some t => endOperation .aborted (sensorDetail s t false) (releaseSensorTest s)

/-- A CHANNEL TEST in the slot ends (R123, R124); at its expiry the lines have been held for the whole duration. -/
def finishChannelTest (r : OpResult) (s : State) : State :=
  match s.func.test with
  | none => endOperation r [] s
  | some t =>
    endOperation r (channelDetail t (if r = .ok then t.duration else t.duration - t.left)) (endChannelTest s)

/-- A secondary cause is recorded while the report has room (R92). -/
def appendCause (c : Cause) (index : Nat) (s : State) : State :=
  if s.run.report.secondary.length < Config.secondaryLimit then
    let entry : Recorded := ⟨c, index, s.clock⟩
    s.modRun fun r => { r with report := { r.report with secondary := r.report.secondary ++ [entry] } }
  else s

/-- A cause without an emergency taken in HALTED (R94). -/
def causeInHalted (c : Cause) (index : Nat) (s : State) : State := clearResume (appendCause c index s)

/-- The colour delay timer starts when the wait is COLOUR; a delay of 0 expires at once (R101). -/
def startColourTimer (s : State) : State :=
  if s.run.resume = some .colour then
    let d := s.nat .colourDelay
    s.modRun fun r => { r with colourTimer := if d = 0 then .expired else .running d }
  else s

/-- The end of a COLOUR change (R134): the slot empties, and the result governs the colour restart (R101). A timeout
is a secondary cause in HALTED. -/
def endColourChange (r : OpResult) (target ms : Nat) (w : Option DetailWord) (s : State) : State :=
  let s := endOperation r (changeDetail s target ms w) s
  let s := match r with
    | .ok => startColourTimer s
    | .failed | .aborted => clearResume s
  if w = some .timeout ∧ s.run.state = .halted then causeInHalted .needleTimeout s.store.cursor s else s

/-- The end of a needle change goes to the place its purpose names (R132). For START the work in progress ends, and
what the start does next is in Start.lean. -/
def endChange (r : OpResult) (w : Option DetailWord) (s : State) : State :=
  match s.needle.change with
  | none => s
  | some c =>
    let ms := s.changeMs c w
    let s := releaseChange s
    match c.purpose with
    | .colour => endColourChange r c.target ms w s
    | .select => endOperation r (changeDetail s c.target ms w) s
    | .landing => endOperation r (landingDetail s (some (c.target, ms)) w) s
    | .start => s.modRun fun x => { x with work := none }

/-- The operation in the slot is aborted (R103), by a STOP or by an EMERGENCY cause as the word says. A move in progress
ends the operation when it, or its chunk, completes (R74, R80), where a late turn move is no move of the operation
(notes/assumptions/48.md); NEEDLE UP ends with the stopped report (R39). -/
def abortOperation (w : DetailWord) (s : State) : State :=
  match s.run.slot with
  | none => s
  | some op =>
    match op.kind with
    | .needleUp => s.modRun fun r => { r with slot := some { op with aborted := true } }
    | .home => if s.frame.ownMove.isSome then markAbort .stop s else endHome .aborted s
    | .frameOut | .frameReturn => if s.frame.ownMove.isSome then markAbort .stop s else endOffsetMove .aborted s
    | .needleSelect | .colourChange => endChange .aborted (some w) s
    | .sensorTest => abortSensorTest s
    | .channelTest => finishChannelTest .aborted s
    | .backtrack | .repair | .repairAbandon =>
      if s.needle.change.isSome then endChange .aborted (some w) s
      else if s.frame.ownMove.isSome then markAbort .stop s
      else endStepwise .aborted none s

/-! ### Heads at the end of a stop -/

/-- Retention runs when a gap has been removed (R166). -/
def retainIf (removed : Bool) (s : State) : State := if removed then runRetention s else s

/-- The open gap of a head, if any, closes at index c (R166). -/
def closeHeadGap (h : Head) (c : Nat) (s : State) : State :=
  let old := (s.head h).gaps
  let new := closeGapAt c old
  retainIf (decide (new.length < old.length)) (s.modHead h fun e => { e with gaps := new })

/-- A head with closing pending has its gap closed at index c (R168). -/
def closePending (c : Nat) (h : Head) (s : State) : State :=
  if (s.head h).closing then (closeHeadGap h c s).modHead h fun e => { e with closing := false } else s

/-- Every head of a list has its pending closing carried out at index c (R168). -/
def closeAllPending (c : Nat) : List Head → State → State
  | [], s => s
  | h :: hs, s => closeAllPending c hs (closePending c h s)

/-- Every head with fault held becomes FAULTED (R167). -/
def faultHeldHeads (s : State) : State :=
  s.modHeads fun _ e => if e.faultHeld then { e with state := .faulted, faultHeld := false } else e

/-! ### The colour stop and the automatic restarts at the end of a stop (R99, R101, R134) -/

/-- The detail of a COLOUR notice: the colour step and the needle, 0 for no needle (R187). -/
def colourDetail (s : State) (needle : Option Nat) : List Byte :=
  u8 s.store.cursorColour ++ u8 (needle.getD 0)

/-- A completed colour stop at the Needle Bar Control (R134). A change that ends before REQUEST is asserted has taken 0
milliseconds (notes/assumptions/43.md), and its OP_DONE comes after the COLOUR notice (notes/assumptions/21.md). One that
needle-down ends at once leaves the target lines as they were (notes/assumptions/57.md). -/
def colourStop (s : State) : State :=
  let s := raiseNotice srcColour s.store.cursor (colourDetail s s.planNeedle) s
  match s.planNeedle with
  | none => causeInHalted .needlePlan s.store.cursor s
  | some n =>
    if ¬ s.slotEmpty then clearResume s
    else
      let s := fillSlot .colourChange .part none s
      if ¬ s.restsUp then endColourChange .aborted n 0 (some .needleDown) s
      else
        let b := beginChange .colour n .part s
        if b.2 then endColourChange .ok n 0 none b.1 else b.1

/-- The wait that a stop ended in HALTED sets: for a primary cause DATA or COLOUR with no secondary cause, while the
parameter is on (R99, R101). -/
def State.waitAfterStop (s : State) : Option Resume :=
  if s.run.report.secondary ≠ [] then none
  else
    match s.run.report.primary.map Recorded.cause with
    | some .data => if s.nat .autoResume = 1 then some .data else none
    | some .colour => if s.nat .colourRestart = 1 then some .colour else none
    | _ => none

/-- What follows a stop ended in HALTED: the wait, then the colour stop. R101 and R134 give the same outcome for the
other order. -/
def afterHalt (s : State) : State :=
  let wait := s.waitAfterStop
  let s := s.modRun fun r => { r with resume := wait }
  if s.run.report.primary.map Recorded.cause = some .colour then colourStop s else s

/-! ### The end of a stop (R96) -/

/-- The stop report takes the stopped report, the stop kind and the incomplete turn (R92, R96). -/
def fillReport (r : StoppedReport) (s : State) : State :=
  s.modRun fun x =>
    { x with report :=
      { x.report with
        kind := x.kind
        angle := r.angle
        verdict := some r.verdict
        overrun := r.overrun
        incomplete := x.outstanding.map Turn.index } }

/-- The planner as the run state leaves STOPPING: demand 0, no previous demand, no stop point (R52, R54). -/
def plannerAtRest (s : State) : State :=
  rebuild (s.modPlanner fun p => { p with demand := 0, held := false, prev := none, stopPoint := none })

/-- The blocks of the sewing side at the end of a stop: gatherings dropped (R143), needle-engage outputs inactive (R164),
held faults and pending closings carried out (R167, R168), the planner at rest. -/
def blocksAtRest (s : State) : State :=
  let s := s.modMonitors fun _ m => { m with gatherings := [] }
  let s := s.modTable fun t => { t with engage := 0 }
  plannerAtRest (closeAllPending s.store.cursor allHeads (faultHeldHeads s))

/-- A stop ends (R96). The colour stop is reported in the same event, so no request is taken between HALTED and the report
(notes/assumptions/49.md). The stop kind in force stays as it is until the next START (notes/assumptions/59.md). -/
def endStop (r : StoppedReport) (s : State) : State :=
  let s := discardInject (fillReport r s)
  let s := s.modRun fun x => { x with phase := none, outstanding := none, work := none, rested := none }
  let s := blocksAtRest s
  let locked := decide (s.run.kind = some .emergency)
  let s := setRunState (if locked then .locked else .halted) s
  let s := raiseNotice srcStop ((s.run.report.primary.map Recorded.index).getD 0) (reportBytes s.run.report) s
  if locked then s else afterHalt s

/-- The stop ends when its stopped report has been taken and, in phase STARTING, the work in progress has ended (R96). -/
def tryEndStop (s : State) : State :=
  match s.run.state, s.run.rested with
  | .stopping, some r => if s.run.phase = some .starting ∧ s.run.work ≠ none then s else endStop r s
  | _, _ => s

/-! ### The brake and the stopped report (R31, R34, R38) -/

/-- The detail of NEEDLE UP: the angle at rest, the rest verdict, the overrun count, and whether no motion was
needed, which is put last (R38; notes/assumptions/33.md). -/
def needleUpDetail (r : StoppedReport) (noMotion : Bool) : List Byte :=
  halfOrNone r.angle ++ u8 r.verdict.value ++ u32 r.overrun ++ flagByte noMotion

/-- A stopped report taken outside STOPPING goes to the NEEDLE UP in the slot (R38, R96). -/
def endNeedleUp (r : StoppedReport) (s : State) : State :=
  match s.run.slot with
  | some op =>
    if op.kind = .needleUp then
      endOperation (if op.aborted then .aborted else if r.needleUp then .ok else .failed) (needleUpDetail r false) s
    else s
  | none => s

/-- A stopped report is delivered to the Function Unit and to the Run Controller (R31, R96, R121). -/
def deliverReport (r : StoppedReport) (s : State) : State :=
  let s := cancelPulses s
  if s.run.state = .stopping then tryEndStop (s.modRun fun x => { x with rested := some r })
  else endNeedleUp r s

/-- The shaft is found stopped: speed, needle flag, waiting order and overrun count (R27, R31, R34). -/
def restShaft (s : State) : State :=
  let up := s.flagNow
  s.modShaft fun h =>
    { h with
      motion := .stopped
      speed := 0
      timedRev := false
      needleUp := up
      brake := h.brake || h.waiting.isSome
      waiting := none
      counting := false
      overrun := if h.counting then h.overrun else 0 }

/-- Stopped detection (R31). -/
def detectStop (s : State) : State :=
  let s := restShaft s
  deliverReport (s.stoppedReport s.shaft.overrun) s

/-- The demand on the line falls to 0, and the stall timer stops (R33, R35). -/
def dropLine (s : State) : State := s.modShaft fun h => { h with line := 0, stall := none }

/-- BRAKE is asserted; while TURNING the overrun count starts at 0 (R37). -/
def assertBrake (s : State) : State :=
  s.modShaft fun h =>
    if h.brake then { h with waiting := none }
    else { h with brake := true, waiting := none, counting := decide (h.motion = .turning), overrun := 0 }

/-- A brake order (R34). With the shaft STOPPED it asserts BRAKE and a stopped report follows at once; with the demand now 0
and the quiet time already passed, stopped detection is taken at once (R31). -/
def brakeOrder (k : BrakeOrder) (s : State) : State :=
  let s := dropLine s
  if s.shaft.motion = .stopped then
    let s := assertBrake s
    deliverReport (s.stoppedReport 0) s
  else
    let s := if k = .atOnce then assertBrake s
      else s.modShaft fun h => { h with waiting := h.waiting.or (some k) }
    if s.nat .stopQuiet ≤ s.shaft.quiet then detectStop s else s

/-- A demand is placed on the line; BRAKE is released and the stall timer started as it rises from 0 (R33 to R35).
From the taking of a RESTART no demand is placed (R194). -/
def placeLine (v : Nat) (s : State) : State :=
  if s.link.restart ≠ .none ∨ v = 0 then s
  else s.modShaft fun h =>
    if h.line = 0 then { h with line := v, brake := false, stall := some 0 } else { h with line := v }

/-! ### Causes (R88, R90 to R95) -/

/-- The causes that ask the planner for a stop point (R91). -/
def Cause.isFamily : Cause → Bool
  | .operator | .injectStop | .headFault _ | .allIsolated => true
  | _ => false

/-- The causes of kind EMERGENCY (R91); STORE is a lock and has no effects on the other blocks (R94). -/
def Cause.isEmergency (c : Cause) : Bool := decide (c.kind = .emergency) && decide (c ≠ .store)

/-- The start's work in progress ends at once, by an EMERGENCY cause (R88, R133, R155). -/
def ceaseWork (s : State) : State :=
  let s := match s.run.work with
    | some .sensorTest => releaseSensorTest s
    | some .needle => endChange .aborted (some .emergency) s
    | _ => s
  s.modRun fun r => { r with work := none }

/-- An EMERGENCY cause, once recorded, reaches every block that acts on it (R95). -/
def emergency (s : State) : State :=
  let s := clearResume (discardInject s)
  let s := s.modRun fun r => { r with kind := some .emergency }
  let s := (idleChannels s).modTable fun t => { t with engage := 0 }
  let s := ceaseWork (zeroDemand (haltFrame s))
  let s := if s.run.state = .running ∨ s.run.state = .stopping then s.modRun fun r => { r with phase := some .braking }
    else setRunState .locked s
  brakeOrder .atOnce (abortOperation .emergency s)

/-- The calls end: the phase becomes BRAKING, a pending inject is discarded, the demand becomes 0, and a brake order
at the brake mark is given (R52, R90, R93, R104). -/
def goBraking (s : State) : State :=
  let s := discardInject (s.modRun fun r => { r with phase := some .braking })
  brakeOrder .atBrakeMark (zeroDemand s)

/-- A cause taken while the run phase is STARTING ends the start (R88). -/
def endStart (s : State) : State :=
  let s := zeroDemand s
  let s := match s.run.work with
    | some .returnMove => markAbort .stop s
    | some .needle => endChange .aborted (some .stopped) s
    | _ => s
  brakeOrder .atOnce s

/-- A cause without an emergency acts on a run by its phase (R88, R93, R94). -/
def actOnRun (c : Cause) (first : Bool) (s : State) : State :=
  match s.run.phase with
  | some .starting => if first then endStart s else s
  | some .sewing => if c.isFamily then requestStopPoint c s else goBraking s
  | _ => s

/-- A cause becomes the primary cause of a run, which is STOPPING from then on (R93). -/
def recordPrimary (c : Cause) (index : Nat) (s : State) : State :=
  let entry : Recorded := ⟨c, index, s.clock⟩
  setRunState .stopping
    (s.modRun fun r => { r with kind := some c.kind, report := { r.report with primary := some entry } })

/-- A QUICK cause converts a CONTROLLED stop (R94). -/
def convertKind (c : Cause) (s : State) : State :=
  if c.kind = .quick ∧ s.run.kind = some .controlled then s.modRun fun r => { r with kind := some .quick } else s

/-- The report is cleared and the cause becomes its primary cause, in IDLE or READY (R94). -/
def recordAlone (c : Cause) (index : Nat) (s : State) : State :=
  let entry : Recorded := ⟨c, index, s.clock⟩
  s.modRun fun r => { r with report := { StopReport.empty with primary := some entry } }

/-- A cause is taken (R93, R94). -/
def takeCause (c : Cause) (index : Nat) (s : State) : State :=
  match s.run.state with
  | .running =>
    let s := recordPrimary c index s
    if c.isEmergency then emergency s else actOnRun c true s
  | .stopping =>
    let s := convertKind c (appendCause c index s)
    if c.isEmergency then emergency s else actOnRun c false s
  | .halted => if c.isEmergency then emergency (appendCause c index s) else causeInHalted c index s
  | .locked => if c.isEmergency then emergency (appendCause c index s) else appendCause c index s
  | .idle | .ready =>
    let s := recordAlone c index s
    if c.isEmergency then emergency s
    else if c = .store then
      setRunState .locked ((clearResume s).modRun fun r => { r with kind := some .emergency })
    else s

/-- A stop answer of a call is a cause reached at issue; the cause of the stop point in force is not recorded a
second time (R90). When a cause taken at the same issue has already brought the run to rest, it is a cause in HALTED or
LOCKED (R94). -/
def reachedAtIssue (c : Cause) (index : Nat) (again : Bool) (s : State) : State :=
  if s.run.state = .running then goBraking (if again then s else recordPrimary c index s)
  else if s.run.state = .stopping then goBraking (if again then s else convertKind c (appendCause c index s))
  else if again then s
  else takeCause c index s

/-! ### The needle flag (R32) -/

/-- The change of a START ends of its own accord, or fails: the cause NEEDLE_TIMEOUT (R136); when the start has already
been ended, the end of the work that R88 waits for. -/
def failStartChange (s : State) : State :=
  let s := s.modRun fun r => { r with work := none }
  if s.run.state = .running then takeCause .needleTimeout s.store.cursor s else tryEndStop s

/-- The needle flag has changed to needle-down, at the Frame Drive (R66, R74, R80). -/
def needleDownAtFrame (s : State) : State :=
  match s.frame.ownMove with
  | some m =>
    match m.purpose with
    | .firstMove => takeCause .moveLate (m.turn.getD s.store.cursor) s
    | _ => markAbort .needleDown s
  | none => if s.frame.dwell.isSome then endStepwise .aborted none s else s

/-- The needle flag has changed to needle-down, at the Needle Bar Control (R133, R136). -/
def needleDownAtBar (s : State) : State :=
  match s.needle.change with
  | none => s
  | some c =>
    let s := endChange .aborted (some .needleDown) s
    if c.purpose = .start then failStartChange s else s

/-- While the shaft is STOPPED the needle flag follows the angle, and a change to needle-down is delivered (R32), to the Frame Drive
first (notes/assumptions/54.md). -/
def followFlag (old : Bool) (s : State) : State :=
  if s.shaft.motion = .stopped then
    let new := s.flagNow
    let s := s.modShaft fun h => { h with needleUp := new }
    if old && !new then needleDownAtBar (needleDownAtFrame s) else s
  else s

end Sys2Proof.Machine
end

