-- ==== Sys2Proof/Machine/Heads.lean ====
section
/-! DEFINITION. The Head Table (chapter 9): gaps, faults taken, the completion of a turn, repair points and gap
advance, sew sets and needle-engage outputs, the end of a repair, and the requests HEAD MODE, HEAD CLEAR and GAP DROP. -/

namespace Sys2Proof.Machine

/-! ### Gaps of a head (R165, R166) -/

/-- A gap is opened for a head at an index, brought up to retire; none when its list is full (R165). -/
def openHeadGap (h : Head) (a : Nat) (s : State) : Option State :=
  (openGapAt (max a s.store.retire) (s.head h).gaps).map fun gaps => s.modHead h fun e => { e with gaps := gaps }

/-- The start of a head's last gap: of its open gap, when it holds one. -/
def State.lastGapStart (s : State) (h : Head) : Option Nat := (s.head h).gaps.getLast?.map Gap.start

/-- The start of a head's first gap. -/
def State.firstGapStart (s : State) (h : Head) : Option Nat := (s.head h).gaps.head?.map Gap.start

/-- No head among 1..HEADS is ACTIVE. -/
def State.noneActive (s : State) : Bool := !allHeads.any s.isActive

/-- The cause ALL_ISOLATED, when no ACTIVE head remains in a run outside repair (R162, R167). -/
def checkAllIsolated (s : State) : State :=
  if (s.run.state = .running ∨ s.run.state = .stopping) ∧ s.run.repair.active = false ∧ s.noneActive = true then
    takeCause .allIsolated s.store.cursor s
  else s

/-! ### Faults taken (R158, R167, R175) -/

/-- What the Head Table did with a fault (R204). -/
inductive FaultOutcome where
  | isolated
  | stop
  | stopFull
  | startTest
  | repairIsolated
  | repairStop
  deriving DecidableEq, Repr

/-- The named value of an outcome (R204). -/
def FaultOutcome.value : FaultOutcome → Nat
  | .isolated => 0 | .stop => 1 | .stopFull => 2 | .startTest => 3 | .repairIsolated => 4 | .repairStop => 5

/-- The named value of a fault kind (R204). -/
def FaultKind.value : FaultKind → Nat
  | .breakFault => 0 | .lowTension => 1 | .highTension => 2 | .sensor => 3 | .bobbin => 4

/-- The named value of a fault source (R204). -/
def FaultSource.value : FaultSource → Nat
  | .run => 0 | .startTest => 1

/-- The fields of a fault record (R158). -/
def faultBytes (f : FaultRecord) : List Byte :=
  u8 f.kind.value ++ u24 f.start ++ u24 f.index ++ u16 f.value ++ u8 f.source.value

/-- The HEAD_FAULT(h) notice: the record, the outcome, and on a flag the start of the gap where the outcome gives one (R158, R167,
R175). That ISOLATED sends the start of the gap opened alone is the model's (notes/assumptions/33.md). -/
def raiseHeadFault (h : Head) (f : FaultRecord) (o : FaultOutcome) (gap : Option Nat) (s : State) : State :=
  raiseNotice (srcHeadFault h) f.index (faultBytes f ++ u8 o.value ++ whenBytes (gap.map u24) 3) s

/-- A fault under the STOP policy: the detection start is kept and the fault held, and the cause HEAD_FAULT(h) is
taken (R167). -/
def holdFault (h : Head) (f : FaultRecord) (o : FaultOutcome) (gap : Option Nat) (s : State) : State :=
  let s := s.modHead h fun e => { e with faultHeld := true, kept := some f.start }
  takeCause (.headFault h) f.index (raiseHeadFault h f o gap s)

/-- The start of the first gap is lowered to the detection start, clamped to retire, when that is lower (R175). -/
def lowerFirstGap (a : Nat) : List Gap → List Gap
  | [] => []
  | g :: gs => { g with start := min g.start a } :: gs

/-- The head leaves the repair selection. -/
def leaveSelection (h : Head) (s : State) : State :=
  s.modRun fun r => { r with repair := { r.repair with selection := dropHead r.repair.selection h } }

/-- A fault of a head in the repair selection (R175). -/
def takeRepairFault (h : Head) (f : FaultRecord) (s : State) : State :=
  let a := max f.start s.store.retire
  let s := s.modHead h fun e => { e with gaps := lowerFirstGap a e.gaps }
  match (s.head h).policy with
  | .isolate =>
    let s := (leaveSelection h s).modHead h fun e => { e with state := .isolated }
    raiseHeadFault h f .repairIsolated (s.firstGapStart h) s
  | .stop => holdFault h f .repairStop (s.firstGapStart h) s

/-- A fault record handed over in a run (R167, R175). An ISOLATE outcome keeps a pending closing,
and a head that has left the selection of a repair is handled by R167 (notes/assumptions/26.md). -/
def takeFault (h : Head) (f : FaultRecord) (s : State) : State :=
  if s.run.repair.active && inSet s.run.repair.selection h then takeRepairFault h f s
  else
    match (s.head h).policy with
    | .stop => holdFault h f .stop none s
    | .isolate =>
      match openHeadGap h f.start s with
      | none => holdFault h f .stopFull none s
      | some s =>
        let s := s.modHead h fun e => { e with state := .isolated }
        checkAllIsolated (raiseHeadFault h f .isolated (s.lastGapStart h) s)

/-! ### Repair points and gap advance (R173, R174) -/

/-- The records held, with their indices. -/
def Store.held (st : Store) : List (Nat × Rec) := indexed st.retire st.records

/-- The repair point of a gap list: the lowest STITCH record inside any gap, one turn left out (R173). -/
def repairPoint (held : List (Nat × Rec)) (gaps : List Gap) (leftOut : Option Nat) : Option Nat :=
  (held.find? fun p => p.2.isStitch && gaps.any (·.covers p.1) && decide (some p.1 ≠ leftOut)).map Prod.fst

/-- One gap after an advance past turn t: removed when it ends at or below t + 1, begun at t + 1 when it holds t (R174). -/
def Gap.past (t : Nat) (g : Gap) : Option Gap :=
  match g.stop with
  | some e => if e ≤ t + 1 then none else if g.start ≤ t then some { g with start := t + 1 } else some g
  | none => if g.start ≤ t then some { g with start := t + 1 } else some g

/-- The gap list after an advance past turn t; unchanged while it holds a STITCH record below t (R174). -/
def advanceGaps (held : List (Nat × Rec)) (t : Nat) (gaps : List Gap) : List Gap :=
  if held.any fun p => decide (p.1 < t) && p.2.isStitch && gaps.any (·.covers p.1) then gaps
  else gaps.filterMap (Gap.past t)

/-- Gap advance of a head at the completion of turn t (R174). -/
def advanceHead (t : Nat) (h : Head) (s : State) : State :=
  let old := (s.head h).gaps
  let new := advanceGaps s.store.held t old
  if new = old then s else runRetention (s.modHead h fun e => { e with gaps := new })

/-! ### The completion of a turn (R89, R146, R174) -/

/-- The completion of turn t at one monitor that has gathered figures for it, and what the Head Table does with the
fault found. The flag says that a fault was found. -/
def completeAtHead (t : Nat) (h : Head) (s : State) : State × Bool :=
  match (s.monitor h).gatherings.find? fun g => decide (g.turn = t) with
  | none => (s, false)
  | some g =>
    let e := s.evaluate t g (s.monitor h)
    let s := s.modMonitor h fun _ => e.1
    let s := if e.2.2 then raiseNotice (srcBobbin h) t (u32 (e.1.bobbin.getD 0)) s else s
    match e.2.1 with
    | none => (s, false)
    | some f => (takeFault h f s, true)

/-- The completion of a turn at the heads of a list, in order, the twelve being taken in ascending order
(notes/assumptions/44.md); `selection` is the repair selection as the completion
was delivered, empty outside repair (R174; notes/assumptions/58.md). -/
def completeAtHeads (t : Turn) (selection : HeadSet) : List Head → State → State
  | [], s => s
  | h :: hs, s =>
    let c := completeAtHead t.index h s
    let e := c.1.head h
    let s := if !c.2 && inSet selection h && c.1.isActive h && !e.faultHeld then advanceHead t.index h c.1 else c.1
    completeAtHeads t selection hs s

/-! ### Sew sets and engagement (R163, R164) -/

/-- The sew set of an issued turn: none for a JUMP, the heads at their repair point in a repair issue, else every ACTIVE
head (R163, R173). -/
def State.formSewSet (s : State) (jump repairIssue : Bool) (t : Nat) (leftOut : Option Nat) : HeadSet :=
  if jump then 0
  else if repairIssue then
    let held := s.store.held
    headsWhere fun h =>
      s.isActive h && inSet s.run.repair.selection h && decide (repairPoint held (s.head h).gaps leftOut = some t)
  else headsWhere s.isActive

/-- The heads of a list that wait for their gap to close and sew turn t have it closed there (R166, R168). -/
def closeAtTurn (t : Nat) (sewSet : HeadSet) : List Head → State → State
  | [], s => s
  | h :: hs, s => closeAtTurn t sewSet hs (if inSet sewSet h then closePending t h s else s)

/-- An issued turn's sew set is set, engaged, and reported to the monitors for a STITCH (R143, R163, R164). -/
def engageTurn (t : Turn) (s : State) : State :=
  let s := s.modTable fun x => { x with sewSet := t.sewSet, sewTurn := some t.index, engage := t.sewSet }
  let s := closeAtTurn t.index t.sewSet allHeads s
  if t.jump then s else reportTurn t.index t.sewSet s

/-! ### The end of a repair, and gaps of heads without one (R176) -/

/-- An ISOLATED head that holds no open gap. -/
def State.wantsGap (s : State) (h : Head) : Bool :=
  s.fitted h && decide ((s.head h).state = .isolated) && !hasOpenGap (s.head h).gaps

/-- At a start outside repair, every ISOLATED head without an open gap opens one at the cursor (R176). -/
def openAtStart : List Head → State → State
  | [], s => s
  | h :: hs, s => openAtStart hs (if s.wantsGap h then (openHeadGap h s.store.cursor s).getD s else s)

/-- At the end of a repair, every ISOLATED head without an open gap opens one at the resume index; a head whose list is
full becomes FAULTED and is listed (R176). The heads are taken in ascending order, as R176 does not order them
(notes/assumptions/53.md). -/
def openAtRepairEnd (resume : Nat) : List Head → State → State × List Head
  | [], s => (s, [])
  | h :: hs, s =>
    if s.wantsGap h then
      match openHeadGap h resume s with
      | some s => openAtRepairEnd resume hs s
      | none =>
        let more := openAtRepairEnd resume hs (s.modHead h fun e => { e with state := .faulted, kept := some resume })
        (more.1, h :: more.2)
    else openAtRepairEnd resume hs s

/-- Repair ends: the context is cleared and the gaps are opened. The heads listed raise HEAD_FAULT(h) (R176). -/
def endRepair (s : State) : State × List Head :=
  let resume := s.run.repair.resume
  openAtRepairEnd resume allHeads (s.modRun fun r => { r with repair := .inactive })

/-- The causes HEAD_FAULT(h) of the heads of a list, each with this index, in the order of the list: of the heads of one
repair end the lowest is taken first, so it is the primary cause where none stands (R176; notes/assumptions/53.md). -/
def causesOf (index : Nat) : List Head → State → State
  | [], s => s
  | h :: hs, s => causesOf index hs (takeCause (.headFault h) index s)

/-! ### HEAD MODE (R162) -/

/-- An answer that names a head (R203). -/
def naming (st : Status) (h : Head) : Answer := ⟨st, u8 (h.val + 1)⟩

/-- HEAD MODE ENABLE (R162). -/
def enableHead (head : Byte) (s : State) : State × Answer :=
  match s.headOf head with
  | none => (s, plain .form)
  | some h =>
    match (s.head h).state with
    | .active => (s, plain .done)
    | .isolated | .faulted => (s, naming .state h)
    | .disabled =>
      if s.shaft.motion = .turning then (s, naming .state h)
      else if (s.monitor h).sensor = .failed ∨ (s.monitor h).fault ≠ none then (s, naming .faulted h)
      else (s.modHead h fun e => { e with state := .active }, plain .done)

/-- HEAD MODE DISABLE (R162). -/
def disableHead (head : Byte) (s : State) : State × Answer :=
  match s.headOf head with
  | none => (s, plain .form)
  | some h =>
    let s := closeHeadGap h s.store.cursor s
    let s := s.modHead h fun e => { e with state := .disabled, faultHeld := false, kept := none, closing := false }
    (checkAllIsolated (leaveSelection h s), plain .done)

/-- The index at which an ISOLATE opens a gap: the kept detection start, else the cursor (R162). -/
def State.isolateIndex (s : State) (h : Head) : Nat := (s.head h).kept.getD s.store.cursor

/-- The head becomes ISOLATED by HEAD MODE, its fault held, kept detection start and pending closing cleared (R162, R168). -/
def HeadEntry.isolate (e : HeadEntry) : HeadEntry :=
  { e with state := .isolated, faultHeld := false, kept := none, closing := false }

/-- HEAD MODE ISOLATE (R162). A head with closing pending still holds its open gap, which the opening absorbs, so that
the gap stays open (R168). An ISOLATED head changes nothing and raises nothing (notes/assumptions/27.md). -/
def isolateHead (head : Byte) (s : State) : State × Answer :=
  match s.headOf head with
  | none => (s, plain .form)
  | some h =>
    match (s.head h).state with
    | .disabled => (s, naming .state h)
    | .isolated => (s, plain .done)
    | .active | .faulted =>
      if s.run.repair.active then ((leaveSelection h s).modHead h HeadEntry.isolate, plain .done)
      else
        match openHeadGap h (s.isolateIndex h) s with
        | none => (s, ⟨.state, u8 255⟩)
        | some s => (checkAllIsolated (s.modHead h HeadEntry.isolate), plain .done)

/-- HEAD MODE POLICY_STOP and POLICY_ISOLATE (R162). -/
def setPolicy (p : Policy) (head : Byte) (s : State) : State × Answer :=
  match s.headOf head with
  | none => (s, plain .form)
  | some h => (s.modHead h fun e => { e with policy := p }, plain .done)

/-! ### HEAD CLEAR and GAP DROP (R168, R169) -/

/-- The fault record and the kept detection start of a head are cleared (R158, R168). -/
def clearFault (h : Head) (s : State) : State :=
  (s.modMonitor h fun m => { m with fault := none }).modHead h fun e => { e with kept := none }

/-- HEAD CLEAR is refused FAULTED for a latched SENSOR record while the sensor has not PASSED (R168). -/
def Monitor.sensorBars (m : Monitor) : Bool :=
  (match m.fault with
   | some f => decide (f.kind = .sensor)
   | none => false) && decide (m.sensor ≠ .passed)

/-- HEAD CLEAR (R168). In a run an ISOLATED head has its closing set pending whether or not it holds an open gap
(notes/assumptions/25.md). -/
def clearHead (head : Byte) (s : State) : State × Answer :=
  match s.headOf head with
  | none => (s, plain .form)
  | some h =>
    if (s.monitor h).sensorBars then (s, plain .faulted)
    else
      match (s.head h).state with
      | .faulted =>
        if s.shaft.motion = .turning then (s, plain .state)
        else ((clearFault h s).modHead h fun e => { e with state := .active }, plain .done)
      | .isolated =>
        let s := (clearFault h s).modHead h fun e => { e with state := .active }
        if s.run.state = .running ∨ s.run.state = .stopping then
          (s.modHead h fun e => { e with closing := true }, plain .done)
        else (closeHeadGap h s.store.cursor s, plain .done)
      | .active => if (s.head h).faultHeld then (s, plain .state) else (clearFault h s, plain .done)
      | .disabled => (clearFault h s, plain .done)

/-- GAP DROP (R169): the gaps go, and retention runs at it. An ISOLATED head outside repair has a new gap opened at the
cursor before retention runs. -/
def dropGaps (head : Byte) (s : State) : State × Answer :=
  match s.headOf head with
  | none => (s, plain .form)
  | some h =>
    let s := s.modHead h fun e => { e with gaps := [], closing := false }
    let s := if s.wantsGap h && !s.run.repair.active then (openHeadGap h s.store.cursor s).getD s else s
    (runRetention s, plain .done)

end Sys2Proof.Machine
end

