-- ==== Sys2Proof/Machine/Issue.lean ====
section
/-! DEFINITION. The call on the Design Store and what an issue brings to every block: the turn bundle, the stop answer,
the demand, the functions, the frame's move, the low mark (R10 to R14, R20, R49, R64, R66, R89, R90, R104, R111). -/

namespace Sys2Proof.Machine

/-! ### The call (R10, R11) -/

/-- The outcome of a call: the records issued, and the turn record or the cause of the stop with its index (R11). The
flag of a stop says that it is the stop point in force being reached. -/
inductive CallOutcome where
  | turn (records : List (Nat × Rec)) (index : Nat) (r : Rec)
  | stop (records : List (Nat × Rec)) (cause : Cause) (index : Nat) (again : Bool)
  deriving DecidableEq, Repr

/-- A record issued ahead of the outcome of the rest of a scan. -/
def CallOutcome.after (p : Nat × Rec) : CallOutcome → CallOutcome
  | .turn rs t r => .turn (p :: rs) t r
  | .stop rs c i false => .stop (p :: rs) c i false
  | o => o

/-- The scan of the pending records (R11): stop-type record, turn at the stop point, turn, data end, design ended.
A stop at the stop point issues nothing. -/
def scan (s : State) : List (Nat × Rec) → CallOutcome
  | [] => if s.store.endLoaded then .stop [] .endRec (s.store.fill - 1) false else .stop [] .data s.store.fill false
  | (k, r) :: rest =>
    match s.func.stopType r with
    | some c => .stop [(k, r)] c k false
    | none =>
      if r.move.isSome then
        match s.planner.stopPoint with
        | some sp => if sp.reachedBy k then .stop [] sp.cause s.store.cursor true else .turn [(k, r)] k r
        | none => .turn [(k, r)] k r
      else (scan s rest).after (k, r)

/-- The outcome of a call (R10, R11). -/
def State.callOutcome (s : State) : CallOutcome :=
  match s.needleCheck with
  | .mismatch => .stop [] .needleLost s.store.cursor false
  | .planEmpty => .stop [] .needlePlan s.store.cursor false
  | .match => scan s s.store.pendingRecords

/-! ### What an arrival leaves to come (R119, R173) -/

/-- What is still to be taken at the arrival that brought a call: the turn whose completion is still to come, and the
channels whose arrival at the present angle is still to come. -/
structure StillToCome where
  turn  : Option Nat
  owed  : Owed
  deriving DecidableEq, Repr

/-- A call made with the shaft at rest: nothing is still to come. -/
def StillToCome.nothing : StillToCome := ⟨none, []⟩

/-! ### The planner's part (R45, R49, R50) -/

/-- The SLOW effects of functions enter the cap profile in order (R45). -/
def enterAll : List Code → State → State
  | [], s => s
  | c :: cs, s => enterAll cs (enterEffect c s)

/-- The demand of an issued turn is computed with the list built afresh, and the profile moves up by one place. The first
demand of a run is held (R49, R50). -/
def planTurn (s : State) : State :=
  let first := decide (s.run.phase = some .starting)
  let allowed := allowedSpeed (s.nat .rampDown) s.freshLookahead
  let d := s.demandFor allowed first
  let s := s.modPlanner fun p => { p with demand := d, held := first, prev := some d, caps := p.caps.tail, freshAt := none }
  if first then s else placeLine d s

/-! ### A repair issue or not (R174, R176) -/

/-- The issue of these records is a repair issue: repair is active and every record lies below the resume index (R174). -/
def State.isRepairIssue (s : State) (records : List (Nat × Rec)) : Bool :=
  s.run.repair.active && records.all fun p => decide (p.1 < s.run.repair.resume)

/-- The first issue that is not a repair issue ends repair (R176). -/
def judgeRepair (records : List (Nat × Rec)) (s : State) : State × List Head :=
  if s.run.repair.active && !s.isRepairIssue records then endRepair s else (s, [])

/-! ### The frame's part (R64, R66) -/

/-- The first move of a run is complete: the phase becomes SEWING, and the planner's held demand goes onto the line
(R50, R66, R87). After a stop taken meanwhile it is the end of the work in progress (R88). -/
def firstMoveComplete (s : State) : State :=
  let s := s.modRun fun r => { r with work := none }
  if s.run.state = .running then
    let s := s.modRun fun r => { r with phase := some .sewing }
    if s.planner.held then placeLine s.planner.demand (s.modPlanner fun p => { p with held := false }) else s
  else tryEndStop s

/-- The frame's move of an issued turn: in phase STARTING the first move, with its needle check (R66), and in SEWING a turn move (R64).
DESIGN CHOICE: R64 speaks of a TURNING shaft; a turn issued in SEWING while the shaft is STOPPED, the line held at 0 after a RESTART
was taken (R194), makes a turn move with its late watch too (notes/assumptions/60.md). -/
def moveFrame (t : Turn) (s : State) : State :=
  let target := s.designPoint
  if s.run.phase = some .starting then
    if ¬ s.shaft.needleUp then takeCause .moveLate t.index s
    else
      let b := beginChunked .firstMove target (some t.index) s
      if b.2 then firstMoveComplete b.1 else b.1.modRun fun r => { r with work := some .firstMove }
  else beginTurnMove t.index t.jump target s

/-! ### A turn bundle (R12) -/

/-- The pending inject's code, as a list. -/
def State.injectCodes (s : State) : List Code := s.run.inject.toList

/-- The entry of the pending inject has effect STOP_AFTER (R104). -/
def State.injectStops (s : State) : Bool := s.injectCodes.any fun c => decide ((s.func.entry c).effect = .stopAfter)

/-- A turn bundle is issued and handed to every block (R12): the end of repair, the demand, the cursor, the sew set, the
functions, the frame's move, then the causes that the issue itself raised (R104, R176), and the low mark. -/
def issueTurn (come : StillToCome) (records : List (Nat × Rec)) (index : Nat) (r : Rec) (s : State) : State :=
  let resume := s.run.repair.resume
  let repairIssue := s.isRepairIssue records
  let codes := s.injectCodes ++ functionCodes records
  let stops := s.injectStops
  let j := judgeRepair records s
  let s := planTurn (enterAll codes j.1)
  let turn : Turn := ⟨index, r.isJump, s.formSewSet r.isJump repairIssue index come.turn⟩
  let s := rebuild (s.modStore (Store.advance records (index + 1)))
  let s := engageTurn turn s
  let s := s.modRun fun x => { x with outstanding := some turn, inject := none }
  let s := lowMarkTest (carryAll come.owed turn.sewSet index codes s)
  let s := causesOf resume j.2 (moveFrame turn s)
  if stops then takeCause .injectStop index s else s

/-! ### A stop answer (R11, R90, R114) -/

/-- The index past the last record of a list, or c when it is empty. -/
def pastLast (records : List (Nat × Rec)) (c : Nat) : Nat :=
  match records.getLast? with
  | some p => p.1 + 1
  | none => c

/-- The colour trim is carried out when the issue ends with a COLOUR record (R114). -/
def carryTrim (owed : Owed) (sewing : HeadSet) (f : Nat) (cause : Cause) (s : State) : State :=
  if cause = .colour then
    match s.trimCode with
    | some c => carryOut owed sewing f c s
    | none => s
  else s

/-- A call answers with a stop: the zero-turn records are issued and handed on, the needle-engage outputs go inactive, and
the cause is reached at issue (R11, R12, R90, R164). -/
def answerStop (come : StillToCome) (records : List (Nat × Rec)) (cause : Cause) (index : Nat) (again : Bool)
    (s : State) : State :=
  let resume := s.run.repair.resume
  let codes := functionCodes records
  let j := judgeRepair records s
  let s := (enterAll codes j.1).modStore (Store.advance records (pastLast records j.1.store.cursor))
  let s := rebuild (s.modPlanner fun p => if again then { p with stopPoint := none } else p)
  let s := s.modTable fun t => { t with engage := 0 }
  let last := s.table.sewTurn.getD 0
  let s := carryTrim come.owed s.table.sewSet last cause (carryAll come.owed s.table.sewSet last codes s)
  reachedAtIssue cause index again (causesOf resume j.2 (lowMarkTest s))

/-- The Run Controller calls on the Design Store (R10, R89, R90). -/
def call (come : StillToCome) (s : State) : State :=
  let outcome := s.callOutcome
  let s := watchAfterCheck s
  match outcome with
  | .turn records index r => issueTurn come records index r s
  | .stop records cause index again => answerStop come records cause index again s

end Sys2Proof.Machine
end

