-- ==== Sys2Proof/Machine/Start.lean ====
section
/-! DEFINITION. ARM, START and the automatic start: the checks, the preparatory steps and what each one's end brings,
the end of a needle change, of a sensor test (R85 to R88, R99 to R101, R132, R136, R153 to R155). -/

namespace Sys2Proof.Machine

/-! ### ARM (R85) -/

/-- A refusal of the arm check as an answer (R56, R203). -/
def refusal (r : Status × Option Nat) : Answer :=
  ⟨r.1, match r.2 with
    | some n => u8 n
    | none => []⟩

/-- ARM (R85). -/
def armDesign (s : State) : State × Answer :=
  if s.run.state ≠ .idle then (s, plain .state)
  else if s.store.isOpen = false ∨ s.store.fill = 0 then (s, plain .state)
  else if ¬ s.slotEmpty then (s, plain .busy)
  else
    match s.armCheck with
    | some r => (s, refusal r)
    | none =>
      (setRunState .ready (s.modRun fun r => { r with armed := true, report := .empty }), plain .done)

/-! ### The checks of a start (R86) -/

/-- The first check of a start that fails, with the item or the head it names; 0 names the drive (R86, R203). -/
def State.startCheck (s : State) : Option (Status × Option Nat) :=
  if s.run.state ≠ .ready ∧ s.run.state ≠ .halted then some (.state, none)
  else if ¬ s.slotEmpty then some (.busy, none)
  else if ¬ s.restsUp then some (.state, none)
  else if s.store.ended then some (.state, none)
  else
    match allHeads.find? fun h => s.fitted h && decide ((s.head h).state = .faulted) with
    | some h => some (.faulted, some (h.val + 1))
    | none =>
      match allHeads.find? fun h => s.isActive h && decide ((s.monitor h).sensor = .failed) with
      | some h => some (.faulted, some (h.val + 1))
      | none => if ¬ s.driveIsReady then some (.faulted, some 0) else s.armCheck

/-! ### The preparatory steps (R87, R136, R155) -/

/-- The first call of the run, once the last step has ended without a cause (R87). -/
def firstCall (s : State) : State := call .nothing s

/-- The third step: the needle change (R136). With the needles down it cannot begin, and ends ABORTED; the
target lines then stay as they were (notes/assumptions/57.md). -/
def needleStep (s : State) : State :=
  match s.planNeedle with
  | none => firstCall s
  | some n =>
    if s.needle.settled = some n then firstCall s
    else if ¬ s.restsUp then failStartChange s
    else (beginChange .start n s.run.starter s).1.modRun fun r => { r with work := some .needle }

/-- The ACTIVE heads whose sensor is NOT_TESTED (R87, R155). -/
def State.untested (s : State) : HeadSet :=
  headsWhere fun h => s.isActive h && decide ((s.monitor h).sensor = .notTested)

/-- The second step: the sensor test (R155). -/
def sensorStep (s : State) : State :=
  if s.untested = 0 then needleStep s
  else (beginSensorTest s.untested s).modRun fun r => { r with work := some .sensorTest }

/-- The first step: the return (R78). -/
def returnStep (s : State) : State :=
  if s.frame.offset = .zero then sensorStep s
  else
    let b := beginChunked .returnMove s.designPoint none s
    if b.2 then sensorStep (offsetToFrame b.1) else b.1.modRun fun r => { r with work := some .returnMove }

/-- A start made by the host or by the part is carried out (R54, R87, R92, R127, R143, R163, R176). -/
def startRun (who : Starter) (s : State) : State :=
  let s := clearStopPoint (clearResume s)
  let s := s.modMonitors fun _ m => { m with member := false }
  let s := s.modTable fun t => { t with sewSet := 0, sewTurn := none }
  let s := if s.run.repair.active then s else openAtStart allHeads s
  let s := s.modRun fun r => { r with report := .empty, kind := none, rested := none, work := none, starter := who }
  let s := (setRunState .running s).modRun fun r => { r with phase := some .starting }
  returnStep s

/-- START (R86, R87). -/
def startRequest (s : State) : State × Answer :=
  match s.startCheck with
  | some r => (s, refusal r)
  | none => (startRun .host s, plain .done)

/-! ### Automatic starts (R99 to R101) -/

/-- The condition under which the part starts by itself: with the slot empty, DATA and enough pending, or COLOUR and the
colour delay expired (R99, R101). -/
def State.startsItself (s : State) : Bool :=
  s.slotEmpty &&
  match s.run.resume with
  | none => false
  | some .data => decide (Config.resumeTurns ≤ s.pendingTurns) || s.store.endLoaded
  | some .colour => decide (s.run.colourTimer = .expired)

/-- An automatic start; refused, it leaves HALTED and raises STATE with the refusal (R100). -/
def startItself (s : State) : State :=
  if s.startsItself then
    match s.startCheck with
    | none => startRun .part s
    | some r =>
      let s := clearResume s
      raiseNotice srcState s.store.cursor
        (stateDetail s.run.state s.run.state s.store.cursor (some (r.1, r.2.getD 0))) s
  else s

/-! ### Ends of the preparatory steps -/

/-- The return move m of a start has ended: complete, ended by a cause, or not completed (R78, R88). A return cut short by
needle-down is the cause MOVE_LATE, by R93, or by R94 when another cause has been taken before its chunk ended; one cut short by a
cause is not. -/
def returnEnds (m : Move) (s : State) : State :=
  let s := s.modRun fun r => { r with work := none }
  if s.run.state = .running then
    if s.frame.offset = .zero then sensorStep s else takeCause .moveLate s.store.cursor s
  else if m.abort = some .needleDown ∧ s.frame.offset ≠ .zero then tryEndStop (takeCause .moveLate s.store.cursor s)
  else tryEndStop s

/-- The settled needle is set; a change that waits for it is complete (R129, R132, R136). -/
def settleNeedle (s : State) : State :=
  let s := takeSettled s
  match s.needle.change with
  | none => s
  | some c =>
    if s.needle.settled = some c.target then
      let s := endChange .ok none s
      if c.purpose ≠ .start then s
      else if s.run.state = .running then firstCall s
      else tryEndStop s
    else s

/-- The timeout of a change expires (R132, R136). -/
def needleTimesOut (s : State) : State :=
  match s.needle.change with
  | none => s
  | some c =>
    let s := endChange .failed (some .timeout) s
    if c.purpose = .start then failStartChange s else s

/-! ### The sensor test timer (R153 to R155) -/

/-- The failing reading of a head: the idle reading when the idle check failed, else the reference reading (R155). -/
def failingReading (v : SensorVerdict) (idle ref : BitVec 10) : Nat :=
  match v with
  | .passed | .failedRef => ref.toNat
  | .failedIdle | .failedBoth => idle.toNat

/-- The heads of a finished test that did not pass, each with its fault record (R155). -/
def State.startFaults (s : State) (test : SensorTest) : List (Head × FaultRecord) :=
  (headsIn test.heads).filterMap fun h =>
    let v := s.sensorVerdict test.idle[h] s.pins.tension[h]
    if v = .passed then none
    else some (h, ⟨.sensor, s.store.cursor, s.store.cursor, failingReading v test.idle[h] s.pins.tension[h], .startTest⟩)

/-- The faults of a start test are latched, and their heads made FAULTED, in ascending head order (R155, R167). -/
def latchStartFaults : List (Head × FaultRecord) → State → State
  | [], s => s
  | (h, f) :: rest, s =>
    let s := s.modMonitor h (Monitor.latch f)
    let s := s.modHead h fun e => { e with state := .faulted, kept := some f.start }
    latchStartFaults rest (raiseHeadFault h f .startTest none s)

/-- The causes HEAD_FAULT(h) of a start test, in ascending head order (R155). -/
def causeStartFaults : List (Head × FaultRecord) → State → State
  | [], s => s
  | (h, f) :: rest, s => causeStartFaults rest (takeCause (.headFault h) f.index s)

/-- The start-time test ends (R155): the test is the work in progress until every cause has been taken. The HEAD_FAULT notices of all
failing heads come before the first cause (notes/assumptions/21.md). -/
def startTestEnds (test : SensorTest) (s : State) : State :=
  let faults := s.startFaults test
  let s := causeStartFaults faults (latchStartFaults faults s)
  let s := s.modRun fun r => { r with work := none }
  if s.run.state = .running then needleStep s else tryEndStop s

/-- A SENSOR TEST in the slot completes (R154). -/
def finishSensorTest (test : SensorTest) (s : State) : State :=
  let ok := (headsIn test.heads).all fun h => decide (s.sensorVerdict test.idle[h] s.pins.tension[h] = .passed)
  endOperation (if ok then .ok else .failed) (sensorDetail s test true) s

/-- The sensor test timer expires (R153 to R155). -/
def sensorTestExpires (s : State) : State :=
  match s.thread.test with
  | none => s
  | some test =>
    let s := giveVerdicts test (releaseSensorTest s)
    if s.run.work = some .sensorTest then startTestEnds test s else finishSensorTest test s

end Sys2Proof.Machine
end

