-- ==== Sys2Proof/Machine/Operation.lean ====
section
/-! DEFINITION. The operations of the slot, from their checks to their ends, and the requests STOP, SPEED, INJECT and
CLEAR (R38, R51, R63, R70 to R80, R97, R98, R102, R104, R123, R135, R137, R154, R170 to R177). -/

namespace Sys2Proof.Machine

/-! ### The common checks (R102) -/

/-- The run state check and the slot check of an operation (R102). -/
def State.slotCheck (s : State) (accepted : List RunState) : Option Status :=
  if ¬ accepted.contains s.run.state then some .state
  else if ¬ s.slotEmpty then some .busy
  else none

/-- The run states of most operations (R102). -/
def atRest : List RunState := [.idle, .ready, .halted]
/-- The run states of the operations that need an armed design (R102). -/
def armedAtRest : List RunState := [.ready, .halted]

/-- The axis tables are long enough for a chunked move, or the answer CONFIG naming the short one (R63). -/
def State.tablesBar (s : State) : Option Answer := s.shortTable.map fun i => ⟨.config, u8 i⟩

/-! ### NEEDLE UP and NEEDLE SELECT (R38, R135) -/

/-- NEEDLE UP (R38). With no motion needed the detail gives the angle and the verdict of the present, and an overrun count of 0
(notes/assumptions/50.md). -/
def needleUpRequest (s : State) : State × Answer :=
  match s.slotCheck atRest with
  | some st => (s, plain st)
  | none =>
    if ¬ s.driveIsReady then (s, plain .faulted)
    else
      let s := fillSlot .needleUp .host none s
      if s.restsUp then (endOperation .ok (needleUpDetail (s.stoppedReport 0) true) s, plain .started)
      else (placeLine (s.nat .speedMin) s, plain .started)

/-- NEEDLE SELECT (R135). On a needle already settled REQUEST is never asserted, and the milliseconds are 0
(notes/assumptions/43.md). -/
def needleSelectRequest (needle : Byte) (s : State) : State × Answer :=
  if ¬ s.isNeedle needle.toNat then (s, plain .form)
  else
    match s.slotCheck atRest with
    | some st => (s, plain st)
    | none =>
      if ¬ s.restsUp then (s, plain .state)
      else
        let b := beginChange .select needle.toNat .host (fillSlot .needleSelect .host none s)
        let s := if b.2 then endOperation .ok (changeDetail b.1 needle.toNat 0 none) b.1 else b.1
        (s, plain .started)

/-! ### SENSOR TEST and CHANNEL TEST (R123, R154) -/

/-- SENSOR TEST (R154). -/
def sensorTestRequest (heads : Half) (s : State) : State × Answer :=
  match headSetOf heads with
  | none => (s, plain .form)
  | some hs =>
    if hs = 0 ∨ s.allFitted hs = false then (s, plain .form)
    else
      match s.slotCheck atRest with
      | some st => (s, plain st)
      | none =>
        if s.shaft.motion ≠ .stopped then (s, plain .state)
        else (beginSensorTest hs (fillSlot .sensorTest .host none s), plain .started)

/-- The pulse part of a channel under test (R123). -/
def Channel.underTest (hs : HeadSet) (c : Channel) : Channel :=
  { c with pulse := some ⟨true, hs, decide (c.type = .common), none, none⟩ }

/-- CHANNEL TEST (R123). -/
def channelTestRequest (chan : Byte) (heads duration : Half) (s : State) : State × Answer :=
  match chanOf chan, headSetOf heads with
  | some c, some hs =>
    if duration.toNat < 1 ∨ 2000 < duration.toNat ∨ s.allFitted hs = false ∨
        (s.func.channels[c].type = .perHead ∧ hs = 0) then (s, plain .form)
    else
      match s.slotCheck atRest with
      | some st => (s, plain st)
      | none =>
        if s.shaft.motion ≠ .stopped then (s, plain .state)
        else
          let s := (fillSlot .channelTest .host none s).modChannel c (Channel.underTest hs)
          (s.modFunc fun u => { u with test := some ⟨c, hs, duration.toNat, duration.toNat⟩ }, plain .started)
  | _, _ => (s, plain .form)

/-! ### HOME (R71 to R73) -/

/-- HOME (R71). -/
def homeRequest (s : State) : State × Answer :=
  match s.slotCheck atRest with
  | some st => (s, plain st)
  | none =>
    if ¬ s.restsUp then (s, plain .state)
    else
      match s.tablesBar with
      | some a => (s, a)
      | none => (beginAxis s.newHoming .y (fillSlot .home .host none s), plain .started)

/-- Both found points are known: the reference is applied, and with a design armed the end move follows (R73). The frame-out
offset becomes (0, 0) as the end move begins, not as it completes, which is the model's choice (notes/assumptions/52.md). -/
def homeFound (h : Homing) (s : State) : State :=
  let h := { h with atEnd := true }
  let s := (applyReference s).modFrame fun f => { f with homing := some h }
  if h.toDesign then
    let s := s.modFrame fun f => { f with offset := .zero }
    let b := beginChunked .homingEnd s.designPoint none s
    if b.2 then endHome .ok b.1 else b.1
  else endHome .ok s

/-- What follows a homing move once the switch of its axis has been sampled (R72). -/
def afterHomingMove (h : Homing) (s : State) : State :=
  match h.backOff, s.switchClosed h.axis with
  | false, true => homingMove { h with backOff := true } s
  | false, false => if h.spent then endHome .failed s else homingMove h s
  | true, false =>
    match h.axis with
    | .y => beginAxis h .x s
    | .x => homeFound h s
  | true, true => if h.spent then endHome .failed s else homingMove h s

/-- A homing search move or a back-off step completes, and its steps are counted then and not before (R72, R74;
notes/assumptions/56.md). -/
def homingStepEnds (s : State) : State :=
  match s.frame.move, s.frame.homing with
  | some m, some h =>
    if m.purpose = .homingSearch ∨ m.purpose = .homingBackOff then
      let steps := if h.backOff then 1 else s.searchSteps h.axis
      let h := h.counted steps
      let s := (arriveAt s.frame.coord m s).modFrame fun f => { f with homing := some h }
      if m.abort.isSome then endHome .aborted s else afterHomingMove h s
    else s
  | _, _ => s

/-! ### FRAME OUT and FRAME RETURN (R75 to R77) -/

/-- The checks of FRAME OUT and FRAME RETURN after the slot check (R63, R70, R75). -/
def State.offsetMoveBar (s : State) : Option Answer :=
  if ¬ s.restsUp then some (plain .state)
  else if s.frame.ref ≠ .referenced then some (plain .unref)
  else s.tablesBar

/-- The frame-out or return move of an operation (R75, R77). -/
def moveOffset (p : Purpose) (target : Pt) (s : State) : State :=
  let b := beginChunked p target none s
  if b.2 then endOffsetMove .ok (offsetToFrame b.1) else b.1

/-- FRAME OUT (R75). -/
def frameOutRequest (dx dy : Half) (s : State) : State × Answer :=
  let d : Pt := ⟨dx.toInt, dy.toInt⟩
  if d.x < -32000 ∨ 32000 < d.x ∨ d.y < -32000 ∨ 32000 < d.y then (s, plain .form)
  else
    match s.slotCheck armedAtRest with
    | some st => (s, plain st)
    | none =>
      match s.offsetMoveBar with
      | some a => (s, a)
      | none =>
        let target := s.offsetTarget d
        (moveOffset .frameOut (s.designPoint.add target) (fillSlot .frameOut .host none s),
         ⟨.started, i32 target.x ++ i32 target.y⟩)

/-- FRAME RETURN (R77). -/
def frameReturnRequest (s : State) : State × Answer :=
  match s.slotCheck armedAtRest with
  | some st => (s, plain st)
  | none =>
    match s.offsetMoveBar with
    | some a => (s, a)
    | none => (moveOffset .returnMove s.designPoint (fillSlot .frameReturn .host none s), plain .started)

/-! ### Stepwise operations (R15 to R17, R79, R137, R170, R172, R177) -/

/-- The starter of the operation in the slot. -/
def State.slotStarter (s : State) : Starter :=
  match s.run.slot with
  | some op => op.starter
  | none => .host

/-- The landing check, which ends a stepwise operation or begins its LANDING change (R137). -/
def landingCheck (s : State) : State :=
  match s.planNeedle with
  | none => endStepwise .ok (some .planEmpty) s
  | some n =>
    if s.needle.settled = some n then endStepwise .ok none s
    else (beginChange .landing n s.slotStarter s).1

/-- The operation has reached its bound: a repair abandon ends the repair first (R137, R177). -/
def stepwiseLands (kind : OpKind) (s : State) : State :=
  if kind = .repairAbandon then
    let resume := s.run.repair.resume
    let e := endRepair s
    landingCheck (causesOf resume e.2 e.1)
  else landingCheck s

/-- The next step towards a goal, with the goal left after it; none when the goal has been reached. The flag says that the
step carries a turn record. A backward bound below retire stands at retire and a forward bound above fill at fill: the store
takes no step past them (R2, R15, R16; notes/assumptions/29.md). -/
def goalStep (g : Goal) (s : State) : Option (State × Goal × Bool) :=
  match g with
  | .back n =>
    if n = 0 ∨ s.store.cursor ≤ s.store.retire then none
    else
      let r := storeBack s.store.retire s
      some (r.1, .back (n - 1), r.2.isSome)
  | .downTo b =>
    let b := max b s.store.retire
    if s.store.cursor ≤ b then none
    else
      let r := storeBack b s
      some (r.1, g, r.2.isSome)
  | .upTo e =>
    let e := min e s.store.fill
    if e ≤ s.store.cursor then none
    else
      let r := storeForward e s
      some (r.1, g, r.2.isSome)

/-- The goal of the operation in the slot. -/
def setGoal (g : Goal) (s : State) : State :=
  s.modRun fun r => { r with slot := r.slot.map fun op => { op with goal := some g } }

/-- A stepwise operation asks for its next steps until one takes time or it ends (R79). `fuel` bounds the steps that take
none. -/
def stepOn (kind : OpKind) : Nat → Goal → State → State
  | 0, g, s => setGoal g s
  | fuel + 1, g, s =>
    match goalStep g s with
    | none => stepwiseLands kind s
    | some (s, g, turn) =>
      if ¬ turn then stepOn kind fuel g s
      else if ¬ s.shaft.needleUp then endStepwise .aborted none s
      else
        let b := beginChunked .stepMove s.designPoint none (setGoal g s)
        if ¬ b.2 then b.1
        else
          let d := s.nat .backDwell
          if d = 0 then stepOn kind fuel g b.1 else b.1.modFrame fun f => { f with dwell := some d }

/-- Steps enough for any operation over the records held. -/
def State.stepFuel (s : State) : Nat := s.store.records.length + 2

/-- The operation in the slot goes on after a step has been reported complete (R79). -/
def nextStep (s : State) : State :=
  match s.run.slot with
  | some op =>
    match op.goal with
    | some g => stepOn op.kind s.stepFuel g s
    | none => s
  | none => s

/-- The dwell expires and the step is reported complete (R79). -/
def dwellExpires (s : State) : State :=
  if s.frame.dwell.isSome then nextStep (s.modFrame fun f => { f with dwell := none }) else s

/-- The dwell after a step move starts; of 0 ms it expires at once (R79). -/
def startDwell (s : State) : State :=
  let d := s.nat .backDwell
  if d = 0 then nextStep s else s.modFrame fun f => { f with dwell := some d }

/-- The checks that BACKTRACK and REPAIR share after the slot check, with repair inactive (R63, R78, R170, R171). -/
def State.rewindBar (s : State) : Option Status :=
  if s.run.repair.active then some .state
  else if ¬ s.restsUp then some .state
  else if s.frame.offset ≠ .zero then some .state
  else if s.frame.ref ≠ .referenced then some .unref
  else none

/-- BACKTRACK (R170). -/
def backtrackRequest (count : Half) (s : State) : State × Answer :=
  if count = 0 then (s, plain .form)
  else
    match s.slotCheck armedAtRest with
    | some st => (s, plain st)
    | none =>
      match s.rewindBar with
      | some st => (s, plain st)
      | none =>
        match s.tablesBar with
        | some a => (s, a)
        | none =>
          let n := min count.toNat s.store.historyTurns
          (stepOn .backtrack s.stepFuel (.back n) (fillSlot .backtrack .host (some (.back n)) s), ⟨.started, u16 n⟩)

/-- The lowest head of a selection that fails a test. -/
def State.firstFailing (s : State) (hs : HeadSet) (bad : HeadEntry → Monitor → Bool) : Option Head :=
  (headsIn hs).find? fun h => bad (s.head h) (s.monitor h)

/-- The checks of REPAIR on its heads, in order, with the lowest head that fails (R171). -/
def State.selectionBar (s : State) (hs : HeadSet) : Option Answer :=
  match s.firstFailing hs fun e _ => e.gaps.isEmpty with
  | some h => some (naming .state h)
  | none =>
    match s.firstFailing hs fun e _ => decide (e.state = .disabled) with
    | some h => some (naming .state h)
    | none =>
      match s.firstFailing hs fun e _ => decide (e.state = .faulted) with
      | some h => some (naming .faulted h)
      | none =>
        match s.firstFailing hs fun _ m => decide (m.sensor = .failed) with
        | some h => some (naming .faulted h)
        | none => (s.firstFailing hs fun _ m => m.fault.isSome).map (naming .faulted)

/-- The selected ISOLATED heads have their open gap closed at the cursor and become ACTIVE (R171). -/
def enlist : List Head → State → State
  | [], s => s
  | h :: hs, s =>
    enlist hs (if (s.head h).state = .isolated then
      (closeHeadGap h s.store.cursor s).modHead h fun e => { e with state := .active } else s)

/-- The lowest first-gap start among the selected heads, the cursor when there is none (R172). -/
def State.rewindIndex (s : State) (hs : HeadSet) : Nat :=
  ((headsIn hs).filterMap s.firstGapStart).foldl min s.store.cursor

/-- An accepted REPAIR: the heads, the context, HALTED, and the rewind (R171, R172). -/
def beginRepair (hs : HeadSet) (s : State) : State :=
  let s := enlist (headsIn hs) s
  let s := s.modRun fun r => { r with repair := ⟨true, hs, s.store.cursor⟩ }
  let g := Goal.downTo (s.rewindIndex hs)
  let s := setRunState .halted (fillSlot .repair .host (some g) s)
  stepOn .repair s.stepFuel g s

/-- REPAIR (R171). -/
def repairRequest (heads : Half) (s : State) : State × Answer :=
  match headSetOf heads with
  | none => (s, plain .form)
  | some hs =>
    if hs = 0 ∨ s.allFitted hs = false then (s, plain .form)
    else
      match s.slotCheck armedAtRest with
      | some st => (s, plain st)
      | none =>
        match s.rewindBar with
        | some st => (s, plain st)
        | none =>
          match s.selectionBar hs with
          | some a => (s, a)
          | none =>
            match s.tablesBar with
            | some a => (s, a)
            | none => (beginRepair hs s, plain .started)

/-- The checks of REPAIR ABANDON after the slot check (R177). -/
def State.abandonBar (s : State) : Option Status :=
  if s.run.repair.active = false then some .state
  else if ¬ s.restsUp then some .state
  else if s.frame.offset ≠ .zero then some .state
  else if s.frame.ref ≠ .referenced then some .unref
  else none

/-- REPAIR ABANDON (R177). -/
def repairAbandonRequest (s : State) : State × Answer :=
  match s.slotCheck [.halted] with
  | some st => (s, plain st)
  | none =>
    match s.abandonBar with
    | some st => (s, plain st)
    | none =>
      match s.tablesBar with
      | some a => (s, a)
      | none =>
        let g := Goal.upTo s.run.repair.resume
        (stepOn .repairAbandon s.stepFuel g (fillSlot .repairAbandon .host (some g) s), plain .started)

/-! ### Ends of moves (R60, R63, R66, R76, R79, R80) -/

/-- A chunked move made for an operation or for a start is complete or is to go no further. -/
def chunkedMoveEnds (m : Move) (s : State) : State :=
  match m.purpose with
  | .firstMove => firstMoveComplete s
  | .stepMove => if m.abort.isSome then endStepwise .aborted none s else startDwell s
  | .frameOut => endOffsetMove (if m.abort.isSome then .aborted else .ok) s
  | .returnMove =>
    if s.run.work = some .returnMove then returnEnds m s
    else endOffsetMove (if m.abort.isSome then .aborted else .ok) s
  | .homingEnd => if m.abort.isSome then endHome .aborted (offsetToFrame s) else endHome .ok s
  | .turnMove | .homingSearch | .homingBackOff => s

/-- An abort ends this move with the chunk in progress; a step move and a first move are made whole (R66, R74, R80, R88). -/
def Move.endsWithChunk (m : Move) : Bool :=
  m.abort.isSome &&
  match m.purpose with
  | .frameOut | .returnMove | .homingEnd => true
  | _ => false

/-- A chunk completes; the next one begins, or the move ends (R63, R76). -/
def chunkEnds (s : State) : State :=
  match s.frame.move with
  | none => s
  | some m =>
    match m.purpose with
    | .turnMove | .homingSearch | .homingBackOff => s
    | _ =>
      let s := arriveAt m.chunk m s
      let s := if m.purpose = .frameOut ∨ m.purpose = .returnMove then offsetToFrame s else s
      if m.chunk = m.target ∨ m.endsWithChunk then chunkedMoveEnds m s
      else s.modFrame (Frame.lay (s.chunkMove m.purpose m.target m.turn m.abort))

/-! ### STOP, SPEED, INJECT, CLEAR (R51, R97, R98, R104) -/

/-- A NEEDLE UP is in the slot. -/
def State.needleUpRuns (s : State) : Bool := s.run.slot.any fun op => decide (op.kind = .needleUp)

/-- A STOP in IDLE, READY or HALTED: the operation in the slot is aborted, with a brake order at once for NEEDLE UP, and no
automatic start is waited for (R39, R97, R103). -/
def stopAtRest (s : State) : State :=
  let s := clearResume s
  let turns := s.needleUpRuns
  let s := abortOperation .stopped s
  if turns then brakeOrder .atOnce s else s

/-- STOP (R97). -/
def stopRequest (s : State) : State × Answer :=
  match s.run.state with
  | .running => (takeCause .operator s.store.cursor s, plain .done)
  | .stopping | .locked => (s, plain .done)
  | .idle | .ready | .halted => (stopAtRest s, plain .done)

/-- The demand comes down to a lowered SPEED_SET at once, held or on the line (R51). The previous demand comes down with a held demand too
(notes/assumptions/55.md). -/
def lowerDemand (v : Nat) (s : State) : State :=
  if (s.run.state = .running ∨ s.run.state = .stopping) ∧ v < s.planner.demand then
    (s.modPlanner fun p => { p with demand := v, prev := some v }).modShaft fun h => { h with line := min h.line v }
  else s

/-- SPEED_SET becomes a value, clamped; a change brings the demand down and rebuilds the list (R47, R51). -/
def setSpeed (v : Nat) (s : State) : State :=
  let c := s.clampSpeed v
  if (c : Int) = s.par .speedSet then s else rebuild (lowerDemand c (s.setPar .speedSet c))

/-- SPEED (R51). -/
def speedRequest (value : Half) (s : State) : State × Answer :=
  (setSpeed value.toNat s, ⟨.done, u16 (s.clampSpeed value.toNat)⟩)

/-- INJECT (R104). -/
def injectRequest (code : Byte) (s : State) : State × Answer :=
  match codeOf code with
  | none => (s, plain .form)
  | some c =>
    if s.run.state ≠ .running then (s, plain .state)
    else if s.run.inject.isSome then (s, plain .busy)
    else (s.modRun fun r => { r with inject := some c }, plain .done)

/-- The stop report holds a cause, as primary or secondary. -/
def StopReport.holds (r : StopReport) (c : Cause) : Bool :=
  (r.primary.toList ++ r.secondary).any fun e => decide (e.cause = c)

/-- CLEAR (R98). -/
def clearRequest (s : State) : State × Answer :=
  if s.run.state ≠ .locked then (s, plain .state)
  else if s.run.report.holds .store then (s, plain .faulted)
  else if s.pins.estop ∨ s.driveIsReady = false then (s, plain .faulted)
  else if s.shaft.motion ≠ .stopped then (s, plain .state)
  else (setRunState (if s.run.armed then .halted else .idle) s, plain .done)

end Sys2Proof.Machine
end

