-- ==== Sys2Proof/Machine/Marks.lean ====
section
/-! DEFINITION. The shaft's events: counts, the index, the marks they raise and what each block takes at them, stopped
detection, the stall timer and the drive inputs (R24 to R28, R31, R34, R35, R37, R65, R89, R118, R144, R145). -/

namespace Sys2Proof.Machine

/-! ### What is taken at an arrival -/

/-- A window-start arrival as the Run Controller takes it: the turn whose completion it delivers, whether it calls for the
next turn, and the repair selection the completion is judged by, as it stands when the arrival is taken (R89, R174;
notes/assumptions/58.md). -/
structure WindowStart where
  done      : Option Turn
  calls     : Bool
  selection : HeadSet
  deriving DecidableEq, Repr

/-- The Run Controller takes the arrival: in SEWING and BRAKING the outstanding turn is completed, and in SEWING a call is
made (R89). The repair selection is kept for a completion taken after the call, which may end repair (R174, R176;
notes/assumptions/58.md). -/
def takeWindowStart (s : State) : State × WindowStart :=
  if s.run.phase = some .sewing ∨ s.run.phase = some .braking then
    let w : WindowStart :=
      ⟨s.run.outstanding, decide (s.run.phase = some .sewing), if s.run.repair.active then s.run.repair.selection else 0⟩
    (s.modRun fun r => { r with outstanding := none }, w)
  else (s, ⟨none, false, 0⟩)

/-- An overrun revolution; the third raises STOP_FAIL (R37). -/
def overrunArrival (s : State) : State :=
  if s.shaft.counting then
    let s := s.modShaft fun h => { h with overrun := h.overrun + 1 }
    if s.shaft.overrun = Config.overrunLimit then takeCause .stopFail s.store.cursor s else s
  else s

/-- The window-end or the jump-window end arrives: a move still watched against it is late (R65). -/
def lateMark (w : LateWatch) (s : State) : State :=
  if s.frame.late = some w then
    let t := (s.frame.move.bind Move.turn).getD s.store.cursor
    takeCause .moveLate t (s.modFrame fun f => { f with late := none })
  else s

/-- The rest mark: a NEEDLE UP that turns the shaft gives itself its brake order (R38). -/
def restMark (s : State) : State :=
  if s.needleUpRuns ∧ 0 < s.shaft.line then assertBrake (dropLine s)
  else if s.shaft.waiting = some .atRestMark then assertBrake s
  else s

/-- The brake mark: an order that waits for it is carried out (R34). -/
def brakeMark (s : State) : State :=
  if s.shaft.waiting = some .atBrakeMark then assertBrake s else s

/-- The completion at the heads, when a turn is completed (R89, R146, R174). -/
def completeTurn (w : WindowStart) (s : State) : State :=
  match w.done with
  | some t => completeAtHeads t w.selection allHeads s
  | none => s

/-- One taker takes the arrival at angle a; `later` are the takers still to take it. The window-start arrival is taken by the
Run Controller at the first of its three parts (notes/assumptions/4.md). -/
def takeOne (a : Nat) (later : List Taker) (t : Taker) (x : State × Option WindowStart) :
    State × Option WindowStart :=
  let s := x.1
  let begun : State × WindowStart := match x.2 with
    | some w => (s, w)
    | none => takeWindowStart s
  match t with
  | .overrun => (overrunArrival s, x.2)
  | .completion => (completeTurn begun.2 begun.1, some begun.2)
  | .retention => (if begun.2.done.isSome then runRetention begun.1 else begun.1, some begun.2)
  | .call =>
    if begun.2.calls ∧ begun.1.run.phase = some .sewing then
      let left := if later.contains .completion then begun.2.done.map Turn.index else none
      (call ⟨left, allChans.filter fun c => later.contains (.channel c)⟩ begun.1, some begun.2)
    else (begun.1, some begun.2)
  | .windowEnd => (lateMark .windowEnd s, x.2)
  | .jumpEnd => (lateMark .jumpEnd s, x.2)
  | .rest => (restMark s, x.2)
  | .brake => (brakeMark s, x.2)
  | .gateStart => (s.modMonitors fun _ m => m.gateStart, x.2)
  | .gateEnd => (s.modMonitors fun _ m => m.gateEnd, x.2)
  | .sample =>
    let level := s.pins.tension
    (s.modMonitors fun h m => m.sample level[h], x.2)
  | .channel c => (s.modChannel c (Channel.arrive a), x.2)

/-- The takers of an arrival take it one after another. -/
def takeAll (a : Nat) : List Taker → State × Option WindowStart → State × Option WindowStart
  | [], x => x
  | t :: ts, x => takeAll a ts (takeOne a ts t x)

/-- The shaft reaches angle a: its marks are raised and taken, in the order given (R28). -/
def arrive (order : List Taker) (a : Nat) (s : State) : State :=
  (takeAll a ((takersInOrder order).filter (s.takesAt a)) (s, none)).1

/-! ### Counts (R24, R28, R31, R32) -/

/-- Every count, forward or reverse, restarts the quiet time and the stall timer, and under a demand makes the shaft
TURNING (R24, R31). -/
def noteCount (s : State) : State :=
  s.modShaft fun h =>
    { h with
      quiet := 0
      stall := h.stall.map fun _ => 0
      motion := if 0 < h.line then .turning else h.motion }

/-- The counter after one count (R24). -/
def Dir.step : Dir → Int
  | .forward => 1
  | .reverse => -1

/-- A count keeps the counter in its range (R24). -/
def State.inCountRange (s : State) (c : Int) : Bool :=
  let top : Int := s.nat .encCounts + 2
  decide (c ≤ top) && decide ((if s.shaft.synced then -2 else -top) ≤ c)

/-- The fault ENCODER for a missed index (R24, R26, R32): count 0, UNSYNCED, the needle flag needle-down. A flag so set stays
needle-down until the next stop, though an index may restore the sync before it (notes/assumptions/28.md). -/
def missIndex (s : State) : State :=
  takeCause .encoder s.store.cursor
    (s.modShaft fun h => { h with count := 0, synced := false, timedRev := false, needleUp := false })

/-- A quadrature count (R24, R28). Of a shaft turned by hand, the needle flag follows the count before the marks it raises are taken
(notes/assumptions/54.md). -/
def countShaft (d : Dir) (order : List Taker) (s : State) : State :=
  let oldFlag := s.shaft.needleUp
  let oldAngle := s.angle
  let s := noteCount s
  let c := s.shaft.count + Dir.step d
  if s.inCountRange c then
    let s := s.modShaft fun h => { h with count := c, timedRev := h.timedRev && decide (d = .forward) }
    let s := followFlag oldFlag s
    match d, s.angle with
    | .forward, some a => if oldAngle = some a then s else arrive order a s
    | _, _ => s
  else followFlag oldFlag (missIndex s)

/-! ### The index (R25, R27) -/

/-- The first count of an angle. -/
def State.countOfAngle (s : State) (a : Nat) : Int := (ceilDiv (a * s.nat .encCounts) 360 : Nat)

/-- The angles a forward index passes, from the angle before it to 0, none when the shaft already stood at 0 (R28). -/
def anglesToZero (old : Nat) : List Nat :=
  if old = 0 then [] else (List.range (359 - old)).map (fun i => old + 1 + i) ++ [0]

/-- The shaft reaches angles one after another, each at its own count (R28). -/
def arriveAll (order : List Taker) : List Nat → State → State
  | [], s => s
  | a :: rest, s =>
    let c := s.countOfAngle a
    arriveAll order rest (arrive order a (s.modShaft fun h => { h with count := c }))

/-- The measured speed from a revolution's length in microseconds, saturated (R27). -/
def speedOf (us : Nat) : Nat := if us = 0 then 65535 else min 65535 (60000000 / us)

/-- The revolution that a forward index ends, taken while SYNCED, and the timing of the next one (R27). -/
def endRevolution (us : Nat) (s : State) : State :=
  s.modShaft fun h =>
    { h with
      revs := h.revs + 1
      speed := if h.timedRev then speedOf us else h.speed
      timedRev := decide (h.motion = .turning) }

/-- The index check of R25. -/
def State.indexCheck (s : State) (d : Dir) : Bool :=
  let e : Int := s.nat .encCounts
  match d with
  | .forward => decide (e - 2 ≤ s.shaft.count) && decide (s.shaft.count ≤ e + 2)
  | .reverse => decide (-2 ≤ s.shaft.count) && decide (s.shaft.count ≤ 2)

/-- The counter after an index (R25). -/
def State.countAtIndex (s : State) : Dir → Int
  | .forward => 0
  | .reverse => s.nat .encCounts

/-- A reverse index: the counter is set, the revolution in progress is not full, and no mark is raised (R25, R27). -/
def indexReverse (s : State) : State :=
  let c := s.countAtIndex .reverse
  s.modShaft fun h => { h with count := c, synced := true, timedRev := false }

/-- A forward index taken while SYNCED: the marks up to angle 0, or of angle 0 alone after a failed check (R25, R28). -/
def indexForward (ok : Bool) (us : Nat) (order : List Taker) (s : State) : State :=
  let old := s.angle.getD 0
  let angles := if ok then anglesToZero old else if old = 0 then [] else [0]
  (arriveAll order angles (endRevolution us s)).modShaft fun h => { h with count := 0 }

/-- The index arrives with a count of this direction (R25). The fault of a failed check is taken before the count is set
(notes/assumptions/28.md), and the needle flag follows after the marks of the index have been taken (notes/assumptions/54.md). -/
def indexShaft (d : Dir) (us : Nat) (order : List Taker) (s : State) : State :=
  let oldFlag := s.shaft.needleUp
  let s := noteCount s
  if s.shaft.synced = false then
    let c := s.countAtIndex d
    followFlag oldFlag (s.modShaft fun h => { h with count := c, synced := true, timedRev := false })
  else
    let ok := s.indexCheck d
    let s := if ok then s else takeCause .encoder s.store.cursor s
    followFlag oldFlag (match d with
      | .forward => indexForward ok us order s
      | .reverse => indexReverse s)

/-! ### Rest, stall and the drive (R31, R35) -/

/-- Stopped detection is taken while the shaft turns with no demand on the line; the quiet time has passed (R31). -/
def stoppedEvent (s : State) : State :=
  if s.shaft.motion = .turning ∧ s.shaft.line = 0 then
    let q := s.nat .stopQuiet
    detectStop (s.modShaft fun h => { h with quiet := max h.quiet q })
  else s

/-- The stall timer reaches STALL_TIME (R35). -/
def stallEvent (s : State) : State :=
  if s.shaft.stall.isSome then
    let t := s.nat .stallTime
    takeCause .stall s.store.cursor (s.modShaft fun h => { h with quiet := max h.quiet t })
  else s

/-- The fault DRIVE: DRIVE_FAULT becomes asserted, or DRIVE_READY falls under a demand (R35). Both in one command are one DRIVE, as when
DRIVE_FAULT is taken first (notes/assumptions/34.md). -/
def driveEvent (wasReady wasFault : Bool) (s : State) : State :=
  if (s.pins.driveFault && !wasFault) || (wasReady && !s.pins.driveReady && decide (0 < s.shaft.line)) then
    takeCause .drive s.store.cursor s
  else s

end Sys2Proof.Machine
end

