-- ==== Sys2Proof/Machine/Settings.lean ====
section
/-! DEFINITION. SET PARAM and GET PARAM: the checks, the present value, and the effects of a change on every block
(R5, R26, R32, R47, R57, R69, R99, R101, R128, R148, R161, R195, R196, R206). -/

namespace Sys2Proof.Machine

/-! ### The checks (R195, R205, R206) -/

/-- The change condition of a parameter bars a change (check 2 of R195). -/
def State.changeBar (s : State) (c : Change) : Bool :=
  match c with
  | .any => false
  | .idle => decide (s.run.state ≠ .idle) || decide (s.shaft.motion = .turning)
  | .stopped => decide (s.run.state = .running ∨ s.run.state = .stopping) || decide (s.shaft.motion = .turning)

/-- An operation of the frame is in the slot (R69). -/
def OpKind.ofFrame : OpKind → Bool
  | .home | .frameOut | .frameReturn | .backtrack | .repair | .repairAbandon => true
  | _ => false

/-- A head at or above place n is listed in a test in the slot (R161). -/
def State.testLists (s : State) (n : Nat) : Bool :=
  let listed : HeadSet := (match s.thread.test with
    | some t => t.heads
    | none => 0) ||| (match s.func.test with
    | some t => t.heads
    | none => 0)
  s.run.slot.isSome && (headsIn listed).any fun h => decide (n ≤ h.val)

/-- The checks that a parameter's own chapter adds (check 3 of R195). A soft limit that fails both R5 and R206 is refused STATE, by R5
(notes/assumptions/46.md). -/
def State.ownBar (s : State) (p : Param) (v : Int) : Option Status :=
  match p with
  | .limitXMin =>
    if s.store.isOpen then some .state else if s.par .limitXMax < v then some .form else none
  | .limitXMax =>
    if s.store.isOpen then some .state else if v < s.par .limitXMin then some .form else none
  | .limitYMin =>
    if s.store.isOpen then some .state else if s.par .limitYMax < v then some .form else none
  | .limitYMax =>
    if s.store.isOpen then some .state else if v < s.par .limitYMin then some .form else none
  | .speedMin => if s.par .speedTop < v then some .form else none
  | .speedTop => if v < s.par .speedMin then some .form else none
  | .sensorRefLo => if s.par .sensorRefHi < v then some .form else none
  | .sensorRefHi => if v < s.par .sensorRefLo then some .form else none
  | .stallTime => if v < s.par .stopQuiet then some .form else none
  | .stopQuiet => if s.par .stallTime < v then some .form else none
  | .pitchX | .pitchY | .refX | .refY =>
    if s.run.slot.any fun op => op.kind.ofFrame then some .busy else none
  | .heads => if v < s.par .heads ∧ s.testLists v.toNat then some .busy else none
  | _ => none

/-- The first check of SET PARAM that fails, once the identifier is known (R195). -/
def State.paramBar (s : State) (p : Param) (v : Int) : Option Status :=
  if v < p.row.lo ∨ p.row.hi < v then some .form
  else if s.changeBar p.row.change then some .state
  else s.ownBar p v

/-! ### The effects (R195) -/

/-- A channel with the heads of a set alone in its latch and its pulse (R161). -/
def Channel.keepHeads (hs : HeadSet) (c : Channel) : Channel :=
  { c with
    latch := c.latch.map fun l => { l with heads := l.heads &&& hs }
    pulse := c.pulse.map fun p => { p with heads := p.heads &&& hs } }

/-- What a lowered HEADS leaves of a head above it (R161): DISABLED, its policy kept. -/
def HeadEntry.unfit (e : HeadEntry) : HeadEntry :=
  { e with state := .disabled, faultHeld := false, kept := none, gaps := [], closing := false }

/-- What a lowered HEADS leaves of the monitor of a head above it (R161): its sensor status is kept. -/
def Monitor.unfit (m : Monitor) : Monitor :=
  { m.cleared with gatherings := [], holdCount := 0, fault := none, bobbin := none }

/-- HEADS is lowered: the heads above the new value (R161). The sew set of the last turn issued stays as it stood
(notes/assumptions/51.md). -/
def dropHeads (n : Nat) (s : State) : State :=
  let kept := headsWhere fun h => decide (h.val < n)
  let s := s.modHeads fun h e => if h.val < n then e else e.unfit
  let s := s.modChannels fun _ c => c.keepHeads kept
  let s := s.modThread fun t => { t with testLoad := t.testLoad &&& kept }
  runRetention (s.modMonitors fun h m => if h.val < n then m else m.unfit)

/-- ENC_COUNTS changes: the sync is lost (R26). -/
def loseSync (s : State) : State :=
  s.modShaft fun h => { h with count := 0, synced := false, timedRev := false }

/-- The reference is lost (R69). -/
def loseReference (s : State) : State := s.modFrame fun f => { f with ref := .unreferenced }

/-- The tension windows shorten to a size (R148). -/
def shortenWindows (n : Nat) (s : State) : State := s.modMonitors fun _ m => { m with window := lastEntries n m.window }

/-- A wait of this kind, if it stands, ends (R99, R101). -/
def endWait (w : Resume) (s : State) : State := if s.run.resume = some w then clearResume s else s

/-- SPEED_SET is clamped again after a change of its bounds (R57). -/
def reclampSpeed (s : State) : State := s.setPar .speedSet (s.clampSpeed (s.nat .speedSet))

/-- The effects of a change of a parameter, already written; `old` is the value before it (R195). -/
def paramEffects (p : Param) (old v : Int) (s : State) : State :=
  match p with
  | .heads => if v < old then dropHeads v.toNat s else s
  | .needles => if v < old then lowerNeedles v.toNat s else s
  | .encCounts => followFlag s.shaft.needleUp (loseSync s)
  | .winStart | .winEnd => followFlag s.shaft.needleUp (rebuild s)
  | .jumpWidth | .speedStopEntry => rebuild s
  | .speedMin | .speedTop => rebuild (reclampSpeed s)
  | .pitchX | .pitchY => rebuild (loseReference s)
  | .refX | .refY => loseReference s
  | .tenWindow => if v < old then shortenWindows v.toNat s else s
  | .autoResume => if v = 0 then endWait .data s else s
  | .colourRestart => if v = 0 then endWait .colour s else s
  | _ => s

/-- A value is written to a parameter: SPEED_SET by R51, any other with its effects; its present value has none. -/
def writeParam (p : Param) (v : Int) (s : State) : State :=
  if p = .speedSet then setSpeed v.toNat s
  else
    let old := s.par p
    if v = old then s else paramEffects p old v (s.setPar p v)

/-- The payload of a parameter reply (R203). -/
def paramAnswer (p : Param) (s : State) : Answer := ⟨.done, u8 p.ident ++ i32 (s.par p)⟩

/-- SET PARAM (R195). -/
def setParamRequest (id : Byte) (value : Word) (s : State) : State × Answer :=
  match Param.ofIdent id.toNat with
  | none => (s, plain .form)
  | some p =>
    match s.paramBar p value.toInt with
    | some st => (s, plain st)
    | none =>
      let s := writeParam p value.toInt s
      (s, paramAnswer p s)

/-- GET PARAM (R196). -/
def getParamRequest (id : Byte) (s : State) : State × Answer :=
  match Param.ofIdent id.toNat with
  | none => (s, plain .form)
  | some p => (s, paramAnswer p s)

end Sys2Proof.Machine
end

