-- ==== Sys2Proof/Machine/Query.lean ====
section
/-! DEFINITION. The query replies (R40, R58, R81, R105, R125, R140, R159, R169, R178, R197, laid out by R204) and the
requests of the Notice Unit (R191, R192). -/

namespace Sys2Proof.Machine

/-! ### Fields with a value or none -/

/-- A named value, or 255 for none (R199). -/
def namedOrNone {α : Type} (f : α → Nat) (o : Option α) : List Byte := byteOrNone (o.map f)

/-- A fault record or none: kind, source and both indices take their none values, and the value, which has none, is 0
(R158, R159, R204; notes/assumptions/33.md). -/
def faultOrNone (o : Option FaultRecord) : List Byte :=
  match o with
  | some f => faultBytes f
  | none => byteOrNone none ++ indexOrNone none ++ indexOrNone none ++ u16 0 ++ byteOrNone none

/-- The operation in the slot, or empty: kind and starter take 255, and the stamp, which has no none value, is 0
(R105, R204; notes/assumptions/33.md). -/
def slotBytes (o : Option Op) : List Byte :=
  match o with
  | some op => u8 op.kind.value ++ u8 op.starter.value ++ u32 op.stamp.toNat
  | none => byteOrNone none ++ byteOrNone none ++ u32 0

/-- Both coordinates of a point, as offsets. -/
def offsetBytes (p : Pt) : List Byte := i32 p.x ++ i32 p.y

/-! ### Page 0: the shaft, the planner and the frame (R40, R58, R81) -/

/-- The fields of R40; the sync state is a named value, SYNCED 0 and UNSYNCED 1, and the needle flag a flag, 1 for needle-up
(R199; notes/assumptions/33.md). -/
def shaftFields (s : State) : List Byte :=
  u8 (if s.shaft.synced then 0 else 1) ++ whenBytes (s.angle.map u16) 2
  ++ u8 (match s.shaft.motion with | .stopped => 0 | .turning => 1)
  ++ flagByte s.shaft.needleUp ++ u16 s.shaft.speed ++ u32 s.shaft.revs.toNat
  ++ u16 s.shaft.line ++ flagByte s.shaft.brake ++ flagByte s.driveIsReady

/-- The stop point j is open: no pending turn record lies above it (R53). -/
def State.stopIsOpen (s : State) (sp : StopPoint) : Bool :=
  !s.store.pendingRecords.any fun p => p.2.move.isSome && sp.reachedBy p.1

/-- The stop point of R58: cause, last turn j and whether it is open. With no stop point cause and j take their none values (R199,
R204), and the head byte of the cause and the open flag, which have none, are 0 (notes/assumptions/33.md). -/
def stopPointBytes (s : State) : List Byte :=
  match s.planner.stopPoint with
  | some sp => causeBytes sp.cause ++ indexOrNone sp.last ++ flagByte (s.stopIsOpen sp)
  | none => byteOrNone none ++ u8 0 ++ indexOrNone none ++ flagByte false

/-- The fields of R58. -/
def plannerFields (s : State) : List Byte :=
  u16 s.planner.demand ++ flagByte s.planner.held ++ halfOrNone s.planner.prev ++ u16 (s.nat .speedSet)
  ++ stopPointBytes s
  ++ u8 s.planner.lookahead.length
  ++ whenBytes (s.planner.lookahead.head?.map fun e =>
      u16 e.plan ++ u16 ((allowedSpeed (s.nat .rampDown) s.planner.lookahead).getD 0)) 4
  ++ u8 s.planner.caps.length

/-- The named value of a reference state (R69). -/
def RefState.value : RefState → Nat
  | .unreferenced => 0 | .referenced => 1 | .unsure => 2

/-- The named value of a move's purpose (R60). -/
def Purpose.value : Purpose → Nat
  | .turnMove => 0 | .firstMove => 1 | .stepMove => 2 | .frameOut => 3 | .returnMove => 4
  | .homingSearch => 5 | .homingBackOff => 6 | .homingEnd => 7

/-- The frame stands at the design point plus the offset (R81). -/
def State.frameInPlace (s : State) : Bool := decide (s.frame.coord = s.designPoint.add s.frame.offset)

/-- The fields of R81. The mark of an unsure coordinate is a flag after its X and Y, under the one flag that says whether there is
a coordinate (notes/assumptions/33.md). -/
def frameFields (s : State) : List Byte :=
  u8 s.frame.ref.value ++ i32 s.frame.stepX ++ i32 s.frame.stepY
  ++ whenBytes (if s.frame.ref = .unreferenced then none
      else some (i16 s.frame.coord.x ++ i16 s.frame.coord.y ++ flagByte (decide (s.frame.ref = .unsure)))) 5
  ++ offsetBytes s.frame.offset
  ++ whenBytes (if s.store.isOpen ∧ s.frame.ref = .referenced then some (flagByte s.frameInPlace) else none) 1
  ++ namedOrNone (fun m : Move => m.purpose.value) s.frame.move
  ++ whenBytes ((s.frame.move.bind fun m => if m.purpose = .turnMove then m.turn else none).map u24) 3
  ++ flagByte s.frame.late.isSome

/-! ### Page 1: the Run Controller (R105) -/

/-- The named value of a resume wait after NONE (R204). -/
def Resume.value : Resume → Nat
  | .data => 0 | .colour => 1

/-- The time left on the colour delay timer, when it runs. -/
def ColourTimer.left : ColourTimer → Option Nat
  | .running n => some n
  | _ => none

/-- The fields of R105. The resume index has a flag of its own after the flag that says whether repair is active
(notes/assumptions/33.md). -/
def runFields (s : State) : List Byte :=
  u8 s.run.state.value ++ namedOrNone Phase.value s.run.phase ++ namedOrNone StopKind.value s.run.kind
  ++ indexOrNone (s.run.outstanding.map Turn.index)
  ++ namedOrNone (fun t : Turn => if t.jump then 1 else 0) s.run.outstanding
  ++ flagByte s.run.armed
  ++ reportBytes s.run.report
  ++ slotBytes s.run.slot
  ++ namedOrNone Resume.value s.run.resume
  ++ whenBytes (s.run.colourTimer.left.map u32) 4
  ++ flagByte s.run.repair.active
  ++ whenBytes (if s.run.repair.active then some (u24 s.run.repair.resume) else none) 3
  ++ byteOrNone (s.run.inject.map Fin.val)

/-! ### Page 2: the Function Unit (R125) -/

/-- The named value of a channel's reported state, in the order LATCHED, ACTIVE, PENDING, IDLE (R116). -/
def ChanState.value : ChanState → Nat
  | .latched => 0 | .active => 1 | .pending => 2 | .idle => 3

/-- A due: its angle and the arrivals to go. -/
def dueBytes (d : Due) : List Byte := u16 d.angle ++ u8 d.toGo

/-- The fields of one channel (R125). Inside the pulse group, which has its flag, each of the two dues has a flag of its own
(notes/assumptions/33.md). -/
def channelFields (c : Channel) : List Byte :=
  u8 (match c.type with | .common => 0 | .perHead => 1)
  ++ u8 (match c.polarity with | .activeHigh => 0 | .activeLow => 1)
  ++ u8 c.state.value
  ++ whenBytes (c.latch.map fun l => headSetBytes l.heads) 2
  ++ whenBytes (c.pulse.map fun p =>
      headSetBytes p.heads ++ whenBytes (p.start.map dueBytes) 3 ++ whenBytes (p.stop.map dueBytes) 3) 10

/-- The fields of R125. With no test the channel is 255; the time left has a flag before it (notes/assumptions/33.md). -/
def functionFields (s : State) : List Byte :=
  u8 s.func.active.value
  ++ allChans.flatMap (fun c => channelFields s.func.channels[c])
  ++ byteOrNone (s.func.test.map fun t => t.chan.val)
  ++ whenBytes (s.func.test.map fun t => u32 t.left) 4

/-! ### Page 3: the needle bar, the link and the notices (R140, R197) -/

/-- The named value of a change's purpose (R204). -/
def ChangePurpose.value : ChangePurpose → Nat
  | .colour => 0 | .select => 1 | .start => 2 | .landing => 3

/-- The change in progress, or none: its purpose takes 255, and the target and the time left, which have no none value, are 0
(R140, R204; notes/assumptions/33.md). -/
def changeBytes (o : Option NeedleChange) : List Byte :=
  match o with
  | some c => u8 c.purpose.value ++ u8 c.target ++ u32 c.left
  | none => byteOrNone none ++ u8 0 ++ u32 0

/-- The fields of R140. -/
def needleFields (s : State) : List Byte :=
  u8 s.pins.needle.toNat ++ needleBytes s.needle.settled
  ++ u8 s.needle.target ++ flagByte s.needle.request
  ++ changeBytes s.needle.change
  ++ whenBytes (s.needle.watch.map fun w => u8 w.needle ++ flagByte w.away.isSome) 2
  ++ u8 s.store.cursorColour ++ u8 (s.planNeedle.getD 0)

/-- The pending flags of the 30 sources as a mask. -/
def NoticeUnit.pendingMask (n : NoticeUnit) : Nat :=
  (List.finRange 30).foldl (fun acc src => if n.sources[src].pending then acc + 2 ^ src.val else acc) 0

/-- The fields of R197; the reply that carries them is counted with the replies that wait. The line rate is one byte, 0 for
460,800 baud and 1 for 921,600 (notes/assumptions/33.md). -/
def linkFields (s : State) : List Byte :=
  u8 (if s.link.rateHigh then 1 else 0)
  ++ u8 s.link.buffer.length ++ u8 (s.link.replies.length + 1)
  ++ u32 s.notices.mask.toNat ++ u32 s.notices.pendingMask
  ++ listBytes (fun src : Source => u8 src.val) s.notices.queue
  ++ u8 s.notices.seq.toNat ++ u32 s.clock.toNat

/-- QUERY STATE (R204). -/
def queryStateRequest (page : Byte) (s : State) : State × Answer :=
  match page.toNat with
  | 0 => (s, ⟨.done, shaftFields s ++ plannerFields s ++ frameFields s⟩)
  | 1 => (s, ⟨.done, runFields s⟩)
  | 2 => (s, ⟨.done, functionFields s⟩)
  | 3 => (s, ⟨.done, needleFields s ++ linkFields s⟩)
  | _ => (s, plain .form)

/-! ### QUERY HEAD and QUERY GAPS (R159, R169, R178) -/

/-- The named value of a gate state (R142). -/
def Gate.value : Gate → Nat
  | .notYet => 0 | .opened => 1 | .closed => 2

/-- The named value of a tension verdict (R142). -/
def Tension.value : Tension → Nat
  | .low => 0 | .inside => 1 | .high => 2

/-- The named value of a sensor status (R142). -/
def SensorStatus.value : SensorStatus → Nat
  | .notTested => 0 | .passed => 1 | .failed => 2

/-- The named value of a head state (R161). -/
def HeadState.value : HeadState → Nat
  | .disabled => 0 | .active => 1 | .isolated => 2 | .faulted => 3

/-- The named value of a policy (R161). -/
def Policy.value : Policy → Nat
  | .stop => 0 | .isolate => 1

/-- The index of a run's first turn (R159), sent as none while the run is 0 (notes/assumptions/33.md). -/
def runIndex (count first : Nat) : List Byte := indexOrNone (if count = 0 then none else some first)

/-- The fields of R159. The repeated reading and the from-index are sent as they stand, also while their run or count is 0
(notes/assumptions/33.md). -/
def monitorFields (m : Monitor) : List Byte :=
  flagByte m.member
  ++ listBytes (fun g : Gathering =>
      u24 g.turn ++ u8 g.pulses ++ u8 g.gate.value ++ halfOrNone (g.reading.map BitVec.toNat)) m.gatherings
  ++ u8 m.breakRun ++ runIndex m.breakRun m.breakFirst
  ++ listBytes (fun e : WindowEntry => u8 e.verdict.value ++ u24 e.turn) m.window
  ++ u8 (m.entriesOf .low).length ++ u8 (m.entriesOf .high).length
  ++ u8 m.stuckRun ++ u16 m.stuckReading.toNat ++ runIndex m.stuckRun m.stuckFirst
  ++ u8 m.railRun ++ runIndex m.railRun m.railFirst
  ++ u8 m.holdCount ++ u24 m.holdFrom
  ++ u32 (m.bobbin.getD 4294967295)
  ++ u8 m.sensor.value
  ++ faultOrNone m.fault

/-- The fields of R178. -/
def headFields (s : State) (h : Head) : List Byte :=
  let e := s.head h
  u8 e.state.value ++ u8 e.policy.value
  ++ flagByte e.faultHeld ++ indexOrNone e.kept
  ++ u8 e.gaps.length ++ flagByte e.closing
  ++ flagByte (inSet s.table.sewSet h)
  ++ flagByte (inSet s.run.repair.selection h)
  ++ flagByte (inSet s.table.engage h)

/-- QUERY HEAD (R159, R204), of a head fitted or not. -/
def queryHeadRequest (head : Byte) (s : State) : State × Answer :=
  match headNumber head with
  | none => (s, plain .form)
  | some h => (s, ⟨.done, monitorFields (s.monitor h) ++ headFields s h⟩)

/-- QUERY GAPS (R169, R204), of a head fitted or not. -/
def queryGapsRequest (head : Byte) (s : State) : State × Answer :=
  match headNumber head with
  | none => (s, plain .form)
  | some h =>
    (s, ⟨.done,
      listBytes (fun g : Gap => u24 g.start ++ indexOrNone g.stop) (s.head h).gaps
      ++ flagByte (s.head h).closing ++ u24 s.store.retire ++ u24 s.store.cursor⟩)

/-! ### NOTICE MASK and NOTICE TAKE (R191, R192) -/

/-- The sources whose flag goes from off to on while they are pending and not queued, in ascending number (R191). -/
def NoticeUnit.joining (n : NoticeUnit) (mask : BitVec 30) : List Source :=
  (List.finRange 30).filter fun src =>
    n.sources[src].pending && !n.unmasked src && mask.getLsbD src.val && !n.queue.contains src

/-- NOTICE MASK (R191). -/
def noticeMaskRequest (mask : Word) (s : State) : State × Answer :=
  if 2 ^ 30 ≤ mask.toNat then (s, plain .form)
  else
    let m := mask.setWidth 30
    (s.modNotices fun n =>
      { n with mask := m, queue := (n.queue.filter fun src => m.getLsbD src.val) ++ n.joining m },
     ⟨.done, u32 m.toNat⟩)

/-- The fields of a notice body from its count onward (R203). -/
def recordFields (r : SourceRecord) : List Byte :=
  u8 r.count ++ u24 r.first ++ u24 r.latest ++ u32 r.stamp.toNat ++ u8 r.detail.length ++ r.detail

/-- A source's record becomes clear and the source leaves the queue (R190, R192). -/
def clearSource (src : Source) (s : State) : State :=
  s.modNotices fun n =>
    { n with sources := n.sources.set src .clear, queue := n.queue.filter fun x => decide (x ≠ src) }

/-- NOTICE TAKE (R192). -/
def noticeTakeRequest (source : Byte) (s : State) : State × Answer :=
  match sourceOf source with
  | none => (s, plain .form)
  | some src =>
    let r := s.notices.sources[src]
    (if r.pending then clearSource src s else s, ⟨.done, flagByte r.pending ++ recordFields r⟩)

end Sys2Proof.Machine
end

