-- ==== Sys2Proof/Machine/Wire.lean ====
section
/-! DEFINITION. The frames of the link: the CRC (R181), the frame structure (R180, R198), and the bodies of the requests
(R200 to R202), written and read. -/

namespace Sys2Proof.Machine

/-! ### The CRC (R181) -/

/-- One bit fed into the CRC register. -/
def crcBit (reg : Half) (bit : Bool) : Half :=
  let shifted := reg <<< 1
  if reg.msb != bit then shifted ^^^ 0x1021#16 else shifted

/-- One byte fed into the CRC register, most significant bit first. -/
def crcByte (reg : Half) (b : Byte) : Half :=
  [7, 6, 5, 4, 3, 2, 1, 0].foldl (fun r i => crcBit r (b.getLsbD i)) reg

/-- The CRC over some bytes (R181). -/
def crcOf (bytes : List Byte) : Half := bytes.foldl crcByte 0xFFFF#16

/-! ### Fields of several bytes, high byte first (R199) -/

/-- The bytes of a two-byte field. -/
def halfBytes (w : Half) : List Byte := [w.extractLsb' 8 8, w.extractLsb' 0 8]
/-- The bytes of an index. -/
def indexBytes (w : Index3) : List Byte := [w.extractLsb' 16 8, w.extractLsb' 8 8, w.extractLsb' 0 8]
/-- The bytes of a four-byte field. -/
def wordBytes (w : Word) : List Byte :=
  [w.extractLsb' 24 8, w.extractLsb' 16 8, w.extractLsb' 8 8, w.extractLsb' 0 8]
/-- A two-byte field from its bytes. -/
def halfOf (a b : Byte) : Half := a ++ b
/-- An index from its bytes. -/
def indexOf (a b c : Byte) : Index3 := a ++ (b ++ c)
/-- A four-byte field from its bytes. -/
def wordOf (a b c d : Byte) : Word := a ++ (b ++ (c ++ d))

/-! ### Frames (R180, R198) -/

/-- LEN, KIND, TAG and BODY: the bytes the CRC covers. -/
def covered (kind tag : Byte) (body : List Byte) : List Byte :=
  BitVec.ofNat 8 (body.length + 2) :: kind :: tag :: body

/-- A whole frame in line order (R180). -/
def frameBytes (kind tag : Byte) (body : List Byte) : List Byte :=
  Config.startByte :: (covered kind tag body ++ halfBytes (crcOf (covered kind tag body)))

/-- The CRC bytes of a received frame match the CRC computed over it (check 1 of R184). -/
def RxFrame.sound (f : RxFrame) : Bool := decide (f.crc = crcOf (covered f.kind f.tag f.body))

/-! ### Request bodies (R200 to R202) -/

/-- The bytes of a table's points. -/
def pointBytes (p : RawPoint) : List Byte := halfBytes p.steps ++ wordBytes p.time

/-- The bytes of an action item. -/
def actionBytes (a : RawAction) : List Byte :=
  [a.chan, a.action, a.startRevs] ++ halfBytes a.startAngle ++ [a.endRevs] ++ halfBytes a.endAngle

/-- The bytes of a map entry (R202). -/
def entryBytes (e : RawEntry) : List Byte :=
  [e.code, e.effect] ++ halfBytes e.speed ++ [e.count, e.scope, e.slack, BitVec.ofNat 8 e.items.length]
  ++ e.items.flatMap actionBytes

/-- The kind byte, the tag and the body of the frame that carries a request; none for an event (R200). -/
def encodeRequest : Instr → Option (Byte × Byte × List Byte)
  | .queryState t p => some (0x01, t, [p])
  | .queryHead t h => some (0x02, t, [h])
  | .queryGaps t h => some (0x03, t, [h])
  | .setParam t i v => some (0x04, t, i :: wordBytes v)
  | .getParam t i => some (0x05, t, [i])
  | .loadTable t a ps => some (0x06, t, a :: ps.flatMap pointBytes)
  | .loadNeedlePlan t f vs => some (0x07, t, f :: BitVec.ofNat 8 vs.length :: vs)
  | .loadMapEntry t e => some (0x08, t, entryBytes e)
  | .swapMap t => some (0x09, t, [])
  | .setChannel t c k p => some (0x0A, t, [c, k, p])
  | .designOpen t x y => some (0x0B, t, halfBytes x ++ halfBytes y)
  | .load t s c d => some (0x0C, t, indexBytes s ++ c :: d)
  | .designDiscard t => some (0x0D, t, [])
  | .arm t => some (0x0E, t, [])
  | .start t _ => some (0x0F, t, [])
  | .stop t => some (0x10, t, [])
  | .speed t v => some (0x11, t, halfBytes v)
  | .inject t c => some (0x12, t, [c])
  | .backtrack t n => some (0x13, t, halfBytes n)
  | .repair t hs => some (0x14, t, halfBytes hs)
  | .repairAbandon t => some (0x15, t, [])
  | .frameOut t dx dy => some (0x16, t, halfBytes dx ++ halfBytes dy)
  | .frameReturn t => some (0x17, t, [])
  | .home t _ => some (0x18, t, [])
  | .needleUp t => some (0x19, t, [])
  | .needleSelect t n => some (0x1A, t, [n])
  | .sensorTest t hs _ => some (0x1B, t, halfBytes hs)
  | .channelTest t c hs d => some (0x1C, t, c :: (halfBytes hs ++ halfBytes d))
  | .headModeEnable t h => some (0x1D, t, [h, 0])
  | .headModeDisable t h => some (0x1D, t, [h, 1])
  | .headModeIsolate t h => some (0x1D, t, [h, 2])
  | .headModePolicyStop t h => some (0x1D, t, [h, 3])
  | .headModePolicyIsolate t h => some (0x1D, t, [h, 4])
  | .headClear t h => some (0x1E, t, [h])
  | .gapDrop t h => some (0x1F, t, [h])
  | .bobbinSet t h v => some (0x20, t, h :: wordBytes v)
  | .noticeMask t m => some (0x21, t, wordBytes m)
  | .noticeTake t n => some (0x22, t, [n])
  | .clear t => some (0x23, t, [])
  | .restart t => some (0x24, t, [])
  | _ => none

/-- A body of no bytes. -/
def body0 (i : Instr) : List Byte → Option Instr
  | [] => some i
  | _ => none
/-- A body of one byte. -/
def body1 (f : Byte → Instr) : List Byte → Option Instr
  | [a] => some (f a)
  | _ => none
/-- A body of one two-byte field. -/
def bodyHalf (f : Half → Instr) : List Byte → Option Instr
  | [a, b] => some (f (halfOf a b))
  | _ => none
/-- A body of two two-byte fields. -/
def bodyHalves (f : Half → Half → Instr) : List Byte → Option Instr
  | [a, b, c, d] => some (f (halfOf a b) (halfOf c d))
  | _ => none
/-- A body of one byte and a four-byte field. -/
def bodyByteWord (f : Byte → Word → Instr) : List Byte → Option Instr
  | [a, b, c, d, e] => some (f a (wordOf b c d e))
  | _ => none

/-- The points of a table body, six bytes each. -/
def readPoints : List Byte → Option (List RawPoint)
  | [] => some []
  | a :: b :: c :: d :: e :: f :: rest => (readPoints rest).map (⟨halfOf a b, wordOf c d e f⟩ :: ·)
  | _ => none

/-- The items of a map entry body, eight bytes each. -/
def readActions : List Byte → Option (List RawAction)
  | [] => some []
  | a :: b :: c :: d :: e :: f :: g :: h :: rest =>
    (readActions rest).map (⟨a, b, c, halfOf d e, f, halfOf g h⟩ :: ·)
  | _ => none

/-- LOAD TABLE's body (R200). -/
def readTable (tag : Byte) : List Byte → Option Instr
  | a :: rest => if rest.length = 96 then (readPoints rest).map (.loadTable tag a) else none
  | [] => none

/-- LOAD NEEDLE PLAN's body (R200, R201). -/
def readPlan (tag : Byte) : List Byte → Option Instr
  | f :: n :: vs => if vs.length = n.toNat then some (.loadNeedlePlan tag f vs) else none
  | _ => none

/-- LOAD MAP ENTRY's body (R201, R202). -/
def readEntry (tag : Byte) : List Byte → Option Instr
  | c :: e :: s1 :: s2 :: k :: sc :: sl :: n :: rest =>
    if rest.length = 8 * n.toNat then
      (readActions rest).map fun items => .loadMapEntry tag ⟨c, e, halfOf s1 s2, k, sc, sl, items⟩
    else none
  | _ => none

/-- LOAD's body, of 4 to 250 bytes (R201). -/
def readLoad (tag : Byte) : List Byte → Option Instr
  | a :: b :: c :: n :: data => if data.length ≤ 246 then some (.load tag (indexOf a b c) n data) else none
  | _ => none

/-- SET CHANNEL's body. -/
def readChannel (tag : Byte) : List Byte → Option Instr
  | [c, k, p] => some (.setChannel tag c k p)
  | _ => none

/-- CHANNEL TEST's body. -/
def readChannelTest (tag : Byte) : List Byte → Option Instr
  | [c, a, b, d, e] => some (.channelTest tag c (halfOf a b) (halfOf d e))
  | _ => none

/-- HEAD MODE's body; an action beyond the five is malformed (R162). -/
def readHeadMode (tag : Byte) : List Byte → Option Instr
  | [h, a] =>
    match a.toNat with
    | 0 => some (.headModeEnable tag h)
    | 1 => some (.headModeDisable tag h)
    | 2 => some (.headModeIsolate tag h)
    | 3 => some (.headModePolicyStop tag h)
    | 4 => some (.headModePolicyIsolate tag h)
    | _ => none
  | _ => none

/-- The request that a frame carries; none where checks 2 and 3 of R184 give FORM, or the action of a HEAD MODE is none of
the five. A request read from the line says nothing of the levels on the inputs. -/
def decodeRequest (kind tag : Byte) (body : List Byte) : Option Instr :=
  match kind.toNat with
  | 0x01 => body1 (.queryState tag) body
  | 0x02 => body1 (.queryHead tag) body
  | 0x03 => body1 (.queryGaps tag) body
  | 0x04 => bodyByteWord (.setParam tag) body
  | 0x05 => body1 (.getParam tag) body
  | 0x06 => readTable tag body
  | 0x07 => readPlan tag body
  | 0x08 => readEntry tag body
  | 0x09 => body0 (.swapMap tag) body
  | 0x0A => readChannel tag body
  | 0x0B => bodyHalves (.designOpen tag) body
  | 0x0C => readLoad tag body
  | 0x0D => body0 (.designDiscard tag) body
  | 0x0E => body0 (.arm tag) body
  | 0x0F => body0 (.start tag []) body
  | 0x10 => body0 (.stop tag) body
  | 0x11 => bodyHalf (.speed tag) body
  | 0x12 => body1 (.inject tag) body
  | 0x13 => bodyHalf (.backtrack tag) body
  | 0x14 => bodyHalf (.repair tag) body
  | 0x15 => body0 (.repairAbandon tag) body
  | 0x16 => bodyHalves (.frameOut tag) body
  | 0x17 => body0 (.frameReturn tag) body
  | 0x18 => body0 (.home tag none) body
  | 0x19 => body0 (.needleUp tag) body
  | 0x1A => body1 (.needleSelect tag) body
  | 0x1B => bodyHalf (fun hs => .sensorTest tag hs []) body
  | 0x1C => readChannelTest tag body
  | 0x1D => readHeadMode tag body
  | 0x1E => body1 (.headClear tag) body
  | 0x1F => body1 (.gapDrop tag) body
  | 0x20 => bodyByteWord (.bobbinSet tag) body
  | 0x21 => match body with
    | [a, b, c, d] => some (.noticeMask tag (wordOf a b c d))
    | _ => none
  | 0x22 => body1 (.noticeTake tag) body
  | 0x23 => body0 (.clear tag) body
  | 0x24 => body0 (.restart tag) body
  | _ => none

end Sys2Proof.Machine
end

