-- ==== Sys2Proof/Machine/Link.lean ====
section
/-! DEFINITION. The Link Interface (chapter 10): requests handed to their blocks, replies, the receiver, the receive buffer
and the transmit arbiter, and how a request and an event are taken. -/

namespace Sys2Proof.Machine

/-! ### RESTART (R194) -/

/-- RESTART is taken: the line falls to 0, and the frames in the buffer are discarded. A move in progress runs on to the reset
(notes/assumptions/31.md). -/
def restartRequest (s : State) : State × Answer :=
  if s.shaft.motion = .turning then (s, plain .state)
  else ((dropLine s).modLink fun l => { l with buffer := [], restart := .taken }, plain .done)

/-! ### The levels that a command brings -/

/-- New levels of the reference switches, if the command brings any. -/
def setSwitches (levels : Option (Bool × Bool)) (s : State) : State :=
  match levels with
  | none => s
  | some l => s.modPins fun p => { p with switchX := l.1, switchY := l.2 }

/-! ### A request and its answer (R184) -/

/-- A request is answered (checks 3 and 4 of R184): FORM with no payload when its operands spell a body whose length does not agree
with its kind, which the points of LOAD TABLE and the records of LOAD can do (R201), and otherwise by the block that owns it. A list of
LOAD NEEDLE PLAN or LOAD MAP ENTRY too long for its count byte is FORM by the block's own first check, with no payload either. The
levels that a command brings stand on the inputs already. -/
def answerOf (i : Instr) (s : State) : State × Answer :=
  match i with
  | .queryState _ page => queryStateRequest page s
  | .queryHead _ head => queryHeadRequest head s
  | .queryGaps _ head => queryGapsRequest head s
  | .setParam _ id value => setParamRequest id value s
  | .getParam _ id => getParamRequest id s
  | .loadTable _ axis points => if points.length = 16 then loadAxisTable axis points s else (s, plain .form)
  | .loadNeedlePlan _ first values => loadPlan first values s
  | .loadMapEntry _ entry => loadEntry entry s
  | .swapMap _ => swapBanks s
  | .setChannel _ chan type polarity => setupChannel chan type polarity s
  | .designOpen _ x y => openDesign x.toInt y.toInt s
  | .load _ start count data => if data.length ≤ 246 then loadRecords start count data s else (s, plain .form)
  | .designDiscard _ => discardDesign s
  | .arm _ => armDesign s
  | .start _ _ => startRequest s
  | .stop _ => stopRequest s
  | .speed _ value => speedRequest value s
  | .inject _ code => injectRequest code s
  | .backtrack _ count => backtrackRequest count s
  | .repair _ heads => repairRequest heads s
  | .repairAbandon _ => repairAbandonRequest s
  | .frameOut _ dx dy => frameOutRequest dx dy s
  | .frameReturn _ => frameReturnRequest s
  | .home _ _ => homeRequest s
  | .needleUp _ => needleUpRequest s
  | .needleSelect _ needle => needleSelectRequest needle s
  | .sensorTest _ heads _ => sensorTestRequest heads s
  | .channelTest _ chan heads duration => channelTestRequest chan heads duration s
  | .headModeEnable _ head => enableHead head s
  | .headModeDisable _ head => disableHead head s
  | .headModeIsolate _ head => isolateHead head s
  | .headModePolicyStop _ head => setPolicy .stop head s
  | .headModePolicyIsolate _ head => setPolicy .isolate head s
  | .headClear _ head => clearHead head s
  | .gapDrop _ head => dropGaps head s
  | .bobbinSet _ head value => setBobbin head value s
  | .noticeMask _ mask => noticeMaskRequest mask s
  | .noticeTake _ source => noticeTakeRequest source s
  | .clear _ => clearRequest s
  | .restart _ => restartRequest s
  | _ => (s, plain .form)

/-- The reply to a request: its kind plus 128, modulo 256, its tag, and the answer (R184, R203). The DONE reply of a RESTART is
marked. -/
def replyTo (kind tag : Byte) (a : Answer) : Reply :=
  ⟨kind + 128, tag, u8 a.status.value ++ a.payload, decide (kind = 0x24) && decide (a.status = .done)⟩

/-- A reply joins the tail of the reply queue (R184). -/
def enqueue (r : Reply) (s : State) : State := s.modLink fun l => { l with replies := l.replies ++ [r] }

/-- A frame is taken: the checks of R184, the request's own meaning, and its reply. -/
def takeFrame (f : RxFrame) (s : State) : State :=
  if ¬ f.sound then enqueue (replyTo f.kind f.tag (plain .frame)) s
  else
    match decodeRequest f.kind f.tag f.body with
    | none => enqueue (replyTo f.kind f.tag (plain .form)) s
    | some i =>
      let r := answerOf i s
      enqueue (replyTo f.kind f.tag r.2) r.1

/-! ### The transmitter (R186, R190) -/

/-- The notice frame of a source as its record stands (R190, R203). -/
def noticeBytes (src : Source) (n : NoticeUnit) : List Byte :=
  frameBytes Config.noticeKind n.seq (u8 src.val ++ recordFields n.sources[src])

/-- The notice at the head of the queue is sent: its record becomes clear, and the sequence count rises (R190). -/
def sendNotice (src : Source) (s : State) : State :=
  let bytes := noticeBytes src s.notices
  let s := s.modNotices fun n =>
    { n with sources := n.sources.set src .clear, queue := n.queue.tail, seq := n.seq + 1 }
  s.modLink fun l => { l with sending := some ⟨bytes, false⟩ }

/-- The transmit arbiter (R186): while the transmitter is idle, the reply at the head is sent, else the notice at the head. Once
the reply of a RESTART has been sent nothing more is sent before the reset (R194). -/
def arbitrate (s : State) : State :=
  if s.link.sending.isSome ∨ s.link.restart = .due then s
  else
    match s.link.replies with
    | r :: rest =>
      s.modLink fun l => { l with replies := rest, sending := some ⟨frameBytes r.kind r.tag r.body, r.restart⟩ }
    | [] =>
      match s.notices.queue with
      | src :: _ => sendNotice src s
      | [] => s

/-- Frames are taken from the receive buffer, oldest first, while the reply queue has room (R184). -/
def pump : Nat → State → State
  | 0, s => s
  | n + 1, s =>
    match s.link.buffer with
    | [] => s
    | f :: rest =>
      if s.link.restart = .none ∧ s.link.replies.length < Config.replyLimit then
        pump n (takeFrame f (s.modLink fun l => { l with buffer := rest }))
      else s

/-- What follows every command: the arbiter chooses, the frames that now find room are taken, and an idle transmitter
takes up their replies (notes/assumptions/9.md). -/
def settle (s : State) : State := arbitrate (pump Config.bufferLimit (arbitrate s))

/-! ### How a command is taken -/

/-- The start-up store check runs: the part takes no event and no byte (R183, R193). -/
def State.checking (s : State) : Bool := decide (s.store.check = .running)

/-- An event of the machine lines or of a timer; while the store check runs, the levels on the inputs alone change. -/
def event (levels : State → State) (effect : State → State) (s : State) : State :=
  if s.checking then levels s else settle (effect s)

/-- A frame completes: it joins the receive buffer if there is room, and is discarded otherwise, or from the taking of a RESTART
on (R183, R194). -/
def bufferFrame (f : RxFrame) (s : State) : State :=
  if s.link.restart = .none ∧ s.link.buffer.length < Config.bufferLimit then
    s.modLink fun l => { l with buffer := l.buffer ++ [f] }
  else s

/-- The receiver is HUNTING, and the inter-byte timer stopped (R182). -/
def hunt (s : State) : State := s.modLink fun l => { l with receiver := .hunting, byteTimer := none }

/-- A complete frame (R182, R183). -/
def completeFrame (f : RxFrame) (s : State) : State := bufferFrame f (hunt s)

/-- The frame of a request, with its true CRC. -/
def frameOf (kind tag : Byte) (body : List Byte) : RxFrame := ⟨kind, tag, body, crcOf (covered kind tag body)⟩

/-- A request is taken as its frame would be (R183, R184): at once when the buffer is empty and the reply queue has room, else
from the buffer later, and not at all while the store check runs or from the taking of a RESTART on. The command stands for the
completion of its frame (notes/assumptions/10.md). -/
def ask (i : Instr) (s : State) : State :=
  if s.checking then s
  else
    match encodeRequest i with
    | none => s
    | some (kind, tag, body) =>
      let s := hunt s
      if s.link.restart = .none ∧ s.link.buffer = [] ∧ s.link.replies.length < Config.replyLimit then
        let r := answerOf i s
        settle (enqueue (replyTo kind tag r.2) r.1)
      else settle (bufferFrame (frameOf kind tag body) s)

/-! ### The receiver (R182) -/

/-- The receiver's state and its inter-byte timer, which starts afresh outside HUNTING. -/
def listen (r : Receiver) (s : State) : State :=
  let timer := if r = .hunting then none else some Config.interByteMs
  s.modLink fun l => { l with receiver := r, byteTimer := timer }

/-- A byte examined in HUNTING (R182). -/
def huntByte (b : Byte) (s : State) : State := listen (if b = Config.startByte then .length else .hunting) s

/-- The frame that LEN and the bytes stored from KIND to the CRC make up. -/
def gatheredFrame (got : List Byte) : RxFrame :=
  let body := (got.drop 2).take (got.length - 4)
  let tail := got.drop (got.length - 2)
  ⟨got.headD 0, (got.drop 1).headD 0, body, halfOf (tail.headD 0) ((tail.drop 1).headD 0)⟩

/-- A byte with a good stop bit reaches the receiver (R182). -/
def takeByte (b : Byte) (s : State) : State :=
  match s.link.receiver with
  | .hunting => huntByte b s
  | .length => if 2 ≤ b.toNat ∧ b.toNat ≤ 252 then listen (.collecting b.toNat []) s else huntByte b s
  | .collecting len got =>
    let got := got ++ [b]
    if got.length = len + 2 then completeFrame (gatheredFrame got) s else listen (.collecting len got) s

/-- The inter-byte timer runs out: the partial frame is abandoned (R182). -/
def abandonFrame (s : State) : State := if s.link.receiver = .hunting then s else hunt s

/-- The frame being sent ends; the end of a RESTART's reply makes the reset due (R186, R194). -/
def endSending (s : State) : State :=
  match s.link.sending with
  | none => s
  | some x => s.modLink fun l => { l with sending := none, restart := if x.restart then .due else l.restart }

end Sys2Proof.Machine
end

