-- ==== Sys2Proof/Machine/Reset.lean ====
section
/-! DEFINITION. The ends of the resets (R106, R193, R194) and the RESTART column of every block's reset table (R23, R41,
R59, R82, R106, R126, R141, R160, R178, R193). -/

namespace Sys2Proof.Machine

/-! ### The RESTART columns -/

/-- The Shaft Monitor after RESTART (R41). The quiet time runs on (notes/assumptions/12.md). -/
def Shaft.restart (h : Shaft) : Shaft :=
  { Shaft.reset with count := h.count, synced := h.synced, needleUp := h.needleUp, quiet := h.quiet }

/-- The Speed Planner after RESTART (R59). -/
def Planner.restart (p : Planner) : Planner := { Planner.reset with tableX := p.tableX, tableY := p.tableY }

/-- The Frame Drive after RESTART (R82): a move in progress ends at once, and a reference lost in it becomes UNSURE. The end comes
with the reset (notes/assumptions/31.md); the direction lines are kept (notes/assumptions/12.md). -/
def Frame.restart (f : Frame) : Frame :=
  { Frame.reset with
    stepX := f.stepX
    stepY := f.stepY
    dirX := f.dirX
    dirY := f.dirY
    coord := f.coord
    ref := if f.move.isSome ∧ f.ref = .referenced then .unsure else f.ref }

/-- The Function Unit after RESTART (R126). -/
def FuncUnit.restart (u : FuncUnit) : FuncUnit :=
  { u with channels := mapTwelve (fun _ c => c.idle) u.channels, test := none }

/-- The Needle Bar Control after RESTART (R141). -/
def NeedleBar.restart (n : NeedleBar) : NeedleBar := { n with request := false, change := none, watch := none }

/-- A Thread Monitor after RESTART (R160). -/
def Monitor.restart (m : Monitor) : Monitor := { Monitor.reset with bobbin := m.bobbin, sensor := m.sensor }

/-- The Thread Monitors after RESTART (R160). -/
def ThreadUnit.restart (t : ThreadUnit) : ThreadUnit :=
  { monitors := mapTwelve (fun _ m => m.restart) t.monitors, testLoad := 0, test := none }

/-- A head after RESTART (R178). -/
def HeadEntry.restart (e : HeadEntry) : HeadEntry :=
  { HeadEntry.reset with
    state := match e.state with
      | .faulted | .isolated => .active
      | st => st
    policy := e.policy }

/-- The Head Table after RESTART (R178). -/
def HeadTable.restart (t : HeadTable) : HeadTable :=
  { HeadTable.reset with heads := mapTwelve (fun _ e => e.restart) t.heads }

/-- The Notice Unit after RESTART, before STARTUP is raised (R193). -/
def NoticeUnit.restart (n : NoticeUnit) : NoticeUnit := { NoticeUnit.reset with mask := n.mask }

/-- Every block at its RESTART value; parameters, inputs and waiting commands stay (R194). -/
def State.restarted (s : State) : State where
  params := s.params
  pins := s.pins
  store := .empty s.store.check
  shaft := s.shaft.restart
  planner := s.planner.restart
  frame := s.frame.restart
  run := .reset
  func := s.func.restart
  needle := s.needle.restart
  thread := s.thread.restart
  table := s.table.restart
  notices := s.notices.restart
  link := .reset s.link.rateHigh
  clock := 0
  pending := s.pending

/-! ### The end of a reset (R106, R193) -/

/-- The kinds of reset (R204). -/
inductive ResetKind where
  | powerOn
  | restart
  deriving DecidableEq, Repr

/-- The named value of a reset kind (R204). -/
def ResetKind.value : ResetKind → Nat
  | .powerOn => 0 | .restart => 1

/-- The slot of a FAILED store check. -/
def StoreCheck.slot : StoreCheck → Option Half
  | .failed k => some k
  | _ => none

/-- The detail of STARTUP: part revision, reset kind, store check result (PASSED 0, FAILED 1) and the failing slot (R187, R193). -/
def startupDetail (k : ResetKind) (c : StoreCheck) : List Byte :=
  u8 Config.partRevision ++ u8 k.value ++ u8 (if c.slot.isSome then 1 else 0)
  ++ whenBytes (c.slot.map fun w => u16 w.toNat) 2

/-- A reset ends: STARTUP is raised, then the lock causes that stand are taken: STORE, ESTOP, DRIVE (R91, R106, R193). -/
def endReset (k : ResetKind) (s : State) : State :=
  let s := raiseNotice srcStartup 0 (startupDetail k s.store.check) s
  let s := if s.store.check.slot.isSome then takeCause .store 0 s else s
  let s := if s.pins.estop then takeCause .estop s.store.cursor s else s
  if s.pins.driveFault then takeCause .drive s.store.cursor s else s

/-- The start-up store check ends, and with it the power-on reset (R22, R141, R193). -/
def storeCheckEnds (failed : Option Half) (s : State) : State :=
  let result := match failed with
    | none => StoreCheck.passed
    | some k => .failed k
  endReset .powerOn (startSettle (s.modStore fun st => { st with check := result }))

/-- The reset that RESTART asked for is made (R194). -/
def makeRestart (s : State) : State := endReset .restart s.restarted

/-- The reply of a RESTART has been sent, or its last byte is being sent: the reset is made then, and only then (R194). -/
def State.restartDue (s : State) : Bool :=
  decide (s.link.restart = .due) || s.link.sending.any fun x => x.restart

end Sys2Proof.Machine
end

