-- ==== Sys2Proof/Machine/Requests.lean ====
section
/-! DEFINITION. The meanings of the commands that are requests of the host: one definition per command, each the taking of its
request by the Link Interface (R184), which `answerOf` hands to the block that owns it. -/

namespace Sys2Proof.Machine

/-- The outcome of a command. -/
abbrev Result := Host.Outcome State Fault Refusal

/-- QUERY_STATE (R204). -/
def execQueryState (tag page : Byte) (s : State) : Result := .next (ask (.queryState tag page) s)
/-- QUERY_HEAD (R159). -/
def execQueryHead (tag head : Byte) (s : State) : Result := .next (ask (.queryHead tag head) s)
/-- QUERY_GAPS (R169). -/
def execQueryGaps (tag head : Byte) (s : State) : Result := .next (ask (.queryGaps tag head) s)
/-- SET_PARAM (R195). -/
def execSetParam (tag id : Byte) (value : Word) (s : State) : Result := .next (ask (.setParam tag id value) s)
/-- GET_PARAM (R196). -/
def execGetParam (tag id : Byte) (s : State) : Result := .next (ask (.getParam tag id) s)
/-- LOAD_TABLE (R42). -/
def execLoadTable (tag axis : Byte) (points : List RawPoint) (s : State) : Result :=
  .next (ask (.loadTable tag axis points) s)
/-- LOAD_NEEDLE_PLAN (R128). -/
def execLoadNeedlePlan (tag first : Byte) (values : List Byte) (s : State) : Result :=
  .next (ask (.loadNeedlePlan tag first values) s)
/-- LOAD_MAP_ENTRY (R109). -/
def execLoadMapEntry (tag : Byte) (entry : RawEntry) (s : State) : Result := .next (ask (.loadMapEntry tag entry) s)
/-- SWAP_MAP (R110). -/
def execSwapMap (tag : Byte) (s : State) : Result := .next (ask (.swapMap tag) s)
/-- SET_CHANNEL (R115). -/
def execSetChannel (tag chan type polarity : Byte) (s : State) : Result :=
  .next (ask (.setChannel tag chan type polarity) s)
/-- DESIGN_OPEN (R4). -/
def execDesignOpen (tag : Byte) (x y : Half) (s : State) : Result := .next (ask (.designOpen tag x y) s)
/-- LOAD (R7). -/
def execLoad (tag : Byte) (start : Index3) (count : Byte) (data : List Byte) (s : State) : Result :=
  .next (ask (.load tag start count data) s)
/-- DESIGN_DISCARD (R6). -/
def execDesignDiscard (tag : Byte) (s : State) : Result := .next (ask (.designDiscard tag) s)
/-- ARM (R85). -/
def execArm (tag : Byte) (s : State) : Result := .next (ask (.arm tag) s)
/-- START (R86, R87). -/
def execStart (tag : Byte) (tension : List (BitVec 10)) (s : State) : Result :=
  .next (ask (.start tag tension) (setTension tension s))
/-- STOP (R97). -/
def execStop (tag : Byte) (s : State) : Result := .next (ask (.stop tag) s)
/-- SPEED (R51). -/
def execSpeed (tag : Byte) (value : Half) (s : State) : Result := .next (ask (.speed tag value) s)
/-- INJECT (R104). -/
def execInject (tag code : Byte) (s : State) : Result := .next (ask (.inject tag code) s)
/-- BACKTRACK (R170). -/
def execBacktrack (tag : Byte) (count : Half) (s : State) : Result := .next (ask (.backtrack tag count) s)
/-- REPAIR (R171). -/
def execRepair (tag : Byte) (heads : Half) (s : State) : Result := .next (ask (.repair tag heads) s)
/-- REPAIR_ABANDON (R177). -/
def execRepairAbandon (tag : Byte) (s : State) : Result := .next (ask (.repairAbandon tag) s)
/-- FRAME_OUT (R75). -/
def execFrameOut (tag : Byte) (dx dy : Half) (s : State) : Result := .next (ask (.frameOut tag dx dy) s)
/-- FRAME_RETURN (R77). -/
def execFrameReturn (tag : Byte) (s : State) : Result := .next (ask (.frameReturn tag) s)
/-- HOME (R71). -/
def execHome (tag : Byte) (switches : Option (Bool × Bool)) (s : State) : Result :=
  .next (ask (.home tag switches) (setSwitches switches s))
/-- NEEDLE_UP (R38). -/
def execNeedleUp (tag : Byte) (s : State) : Result := .next (ask (.needleUp tag) s)
/-- NEEDLE_SELECT (R135). -/
def execNeedleSelect (tag needle : Byte) (s : State) : Result := .next (ask (.needleSelect tag needle) s)
/-- SENSOR_TEST (R154). -/
def execSensorTest (tag : Byte) (heads : Half) (tension : List (BitVec 10)) (s : State) : Result :=
  .next (ask (.sensorTest tag heads tension) (setTension tension s))
/-- CHANNEL_TEST (R123). -/
def execChannelTest (tag chan : Byte) (heads duration : Half) (s : State) : Result :=
  .next (ask (.channelTest tag chan heads duration) s)
/-- HEAD_MODE_ENABLE (R162). -/
def execHeadModeEnable (tag head : Byte) (s : State) : Result := .next (ask (.headModeEnable tag head) s)
/-- HEAD_MODE_DISABLE (R162). -/
def execHeadModeDisable (tag head : Byte) (s : State) : Result := .next (ask (.headModeDisable tag head) s)
/-- HEAD_MODE_ISOLATE (R162). -/
def execHeadModeIsolate (tag head : Byte) (s : State) : Result := .next (ask (.headModeIsolate tag head) s)
/-- HEAD_MODE_POLICY_STOP (R162). -/
def execHeadModePolicyStop (tag head : Byte) (s : State) : Result := .next (ask (.headModePolicyStop tag head) s)
/-- HEAD_MODE_POLICY_ISOLATE (R162). -/
def execHeadModePolicyIsolate (tag head : Byte) (s : State) : Result :=
  .next (ask (.headModePolicyIsolate tag head) s)
/-- HEAD_CLEAR (R168). -/
def execHeadClear (tag head : Byte) (s : State) : Result := .next (ask (.headClear tag head) s)
/-- GAP_DROP (R169). -/
def execGapDrop (tag head : Byte) (s : State) : Result := .next (ask (.gapDrop tag head) s)
/-- BOBBIN_SET (R156). -/
def execBobbinSet (tag head : Byte) (value : Word) (s : State) : Result := .next (ask (.bobbinSet tag head value) s)
/-- NOTICE_MASK (R191). -/
def execNoticeMask (tag : Byte) (mask : Word) (s : State) : Result := .next (ask (.noticeMask tag mask) s)
/-- NOTICE_TAKE (R192). -/
def execNoticeTake (tag source : Byte) (s : State) : Result := .next (ask (.noticeTake tag source) s)
/-- CLEAR (R98). -/
def execClear (tag : Byte) (s : State) : Result := .next (ask (.clear tag) s)
/-- RESTART (R194). -/
def execRestart (tag : Byte) (s : State) : Result := .next (ask (.restart tag) s)

end Sys2Proof.Machine
end

