-- ==== Sys2Proof/Machine/Events.lean ====
section
/-! DEFINITION. The meanings of the commands that are events: resets, the link's bytes and frames, the shaft, the drive, the
E-STOP input, the ends of moves, the timers and the inputs. One definition per command. An event that finds nothing to act on (a
timer that does not run, a move that is not being made) changes no more than the levels it brings (notes/assumptions/11.md). -/

namespace Sys2Proof.Machine

/-! ### Resets (R22, R193, R194) -/

/-- POWER_ON (R193): every block at its power-on value, the strap sampled, the store check running. -/
def execPowerOn (strapHigh : Bool) (s : State) : Result := .next (.powerOn s.pins strapHigh s.pending)

/-- STORE_CHECK_DONE (R22). -/
def execStoreCheckDone (failed : Option Half) (s : State) : Result :=
  .next (if s.checking then settle (storeCheckEnds failed s) else s)

/-- RESTART_RESET (R194). -/
def execRestartReset (s : State) : Result := .next (if s.restartDue then settle (makeRestart s) else s)

/-! ### The link (R182 to R186) -/

/-- FRAME_COMPLETE (R183, R184). -/
def execFrameComplete (kind tag : Byte) (body : List Byte) (c : Half) (s : State) : Result :=
  .next (event id (completeFrame ⟨kind, tag, body, c⟩) s)

/-- INTER_BYTE_TIMEOUT (R182). -/
def execInterByteTimeout (s : State) : Result := .next (event id abandonFrame s)

/-- UNKNOWN_KIND_FRAME (R184): the frame is taken like any other, and answered FORM. -/
def execUnknownKindFrame (kind tag : Byte) (body : List Byte) (c : Half) (s : State) : Result :=
  .next (event id (fun s => bufferFrame ⟨kind, tag, body, c⟩ (hunt s)) s)

/-- TRANSMIT_END (R186). -/
def execTransmitEnd (s : State) : Result := .next (event id endSending s)

/-- BYTE_RECEIVED (R179, R182): a byte with a bad stop bit counts as no byte. -/
def execByteReceived (b : Byte) (stopOk : Bool) (s : State) : Result :=
  .next (event id (fun s => if stopOk then takeByte b s else s) s)

/-! ### The shaft (R24, R25, R31, R35) -/

/-- ENCODER_COUNT (R24). -/
def execEncoderCount (d : Dir) (tension : List (BitVec 10)) (order : List Taker) (s : State) : Result :=
  .next (event (setTension tension) (fun s => countShaft d order (setTension tension s)) s)

/-- ENCODER_INDEX (R25). -/
def execEncoderIndex (d : Dir) (us : Word) (tension : List (BitVec 10)) (order : List Taker) (s : State) : Result :=
  .next (event (setTension tension) (fun s => indexShaft d us.toNat order (setTension tension s)) s)

/-- STOPPED_DETECTION (R31). -/
def execStoppedDetection (s : State) : Result := .next (event id stoppedEvent s)

/-- STALL (R35). -/
def execStall (s : State) : Result := .next (event id stallEvent s)

/-- New levels of DRIVE_READY and DRIVE_FAULT. -/
def setDrive (ready fault : Bool) (s : State) : State :=
  s.modPins fun p => { p with driveReady := ready, driveFault := fault }

/-- DRIVE_LINE_CHANGE (R35). -/
def execDriveLineChange (ready fault : Bool) (s : State) : Result :=
  .next (event (setDrive ready fault)
    (fun s => driveEvent s.pins.driveReady s.pins.driveFault (setDrive ready fault s)) s)

/-- A new level of the E-STOP input. -/
def setEstop (asserted : Bool) (s : State) : State := s.modPins fun p => { p with estop := asserted }

/-- ESTOP (R91): each time the input becomes asserted the cause ESTOP is taken. -/
def execEstop (asserted : Bool) (s : State) : Result :=
  .next (event (setEstop asserted)
    (fun s =>
      let s := setEstop asserted s
      if asserted then takeCause .estop s.store.cursor s else s) s)

/-! ### The frame (R62, R63, R72, R79) -/

/-- MOVE_COMPLETE (R62, R64): a turn move completes. -/
def execMoveComplete (s : State) : Result := .next (event id turnMoveEnds s)

/-- CHUNK_COMPLETE (R63). -/
def execChunkComplete (tension : List (BitVec 10)) (s : State) : Result :=
  .next (event (setTension tension) (fun s => chunkEnds (setTension tension s)) s)

/-- HOMING_STEP_COMPLETE (R72). -/
def execHomingStepComplete (xClosed yClosed : Bool) (s : State) : Result :=
  .next (event (setSwitches (some (xClosed, yClosed)))
    (fun s => homingStepEnds (setSwitches (some (xClosed, yClosed)) s)) s)

/-- DWELL_EXPIRY (R79). -/
def execDwellExpiry (s : State) : Result := .next (event id dwellExpires s)

/-- STEP_EMITTED (R62). -/
def execStepEmitted (axis : Axis) (s : State) : Result := .next (event id (emitStep axis) s)

/-! ### The Run Controller (R100, R101) -/

/-- AUTOMATIC_START (R99 to R101). -/
def execAutomaticStart (tension : List (BitVec 10)) (s : State) : Result :=
  .next (event (setTension tension) (fun s => startItself (setTension tension s)) s)

/-- The colour delay timer expires (R97, R101): with the wait COLOUR and the slot empty the automatic start is made at once. -/
def colourDelayExpires (s : State) : State :=
  match s.run.colourTimer with
  | .running _ =>
    let s := s.modRun fun r => { r with colourTimer := .expired }
    if s.run.resume = some .colour ∧ s.slotEmpty then startItself s else s
  | _ => s

/-- COLOUR_DELAY_EXPIRY (R97, R101). With the slot full, the start that the expiry makes possible is AUTOMATIC_START
(notes/assumptions/13.md). -/
def execColourDelayExpiry (s : State) : Result := .next (event id colourDelayExpires s)

/-! ### Tests (R123, R153) -/

/-- CHANNEL_TEST_EXPIRY (R123). -/
def execChannelTestExpiry (s : State) : Result :=
  .next (event id (fun s => if s.func.test.isSome then finishChannelTest .ok s else s) s)

/-- SENSOR_TEST_EXPIRY (R153). -/
def execSensorTestExpiry (tension : List (BitVec 10)) (s : State) : Result :=
  .next (event (setTension tension) (fun s => sensorTestExpires (setTension tension s)) s)

/-! ### The needle bar (R129, R132, R139) -/

/-- A new value of the position input, and nothing else. -/
def setPosition (v : BitVec 4) (s : State) : State := s.modPins fun p => { p with needle := v }

/-- NEEDLE_POSITION_CHANGE (R129). -/
def execNeedlePositionChange (v : BitVec 4) (s : State) : Result := .next (event (setPosition v) (movePosition v) s)

/-- NEEDLE_SETTLE_EXPIRY (R129). -/
def execNeedleSettleExpiry (s : State) : Result :=
  .next (event id (fun s => if s.needle.settle.isSome then settleNeedle s else s) s)

/-- NEEDLE_TIMEOUT_EXPIRY (R132). -/
def execNeedleTimeoutExpiry (s : State) : Result := .next (event id needleTimesOut s)

/-- The lost watch fires when its away timer runs out (R139). -/
def watchFires (s : State) : State :=
  if (s.needle.watch.bind LostWatch.away).isSome then
    takeCause .needleLost s.store.cursor (s.modNeedle fun n => { n with watch := none })
  else s

/-- LOST_WATCH_EXPIRY (R139). -/
def execLostWatchExpiry (s : State) : Result := .next (event id watchFires s)

/-! ### Thread pulses (R144) -/

/-- THREAD_PULSE (R144). -/
def execThreadPulse (h : Head) (s : State) : Result := .next (event id (fun s => s.modMonitor h Monitor.pulse) s)

end Sys2Proof.Machine
end

