-- ==== Sys2Proof/Machine/Dispatch.lean ====
section
/-! DEFINITION. The meaning of every command, arm by arm. -/

namespace Sys2Proof.Machine

def exec (i : Instr) (s : State) : Host.Outcome State Fault Refusal :=
  match i with
  | .powerOn strapHigh => Sys2Proof.Machine.execPowerOn strapHigh s
  | .storeCheckDone failed => Sys2Proof.Machine.execStoreCheckDone failed s
  | .restartReset => Sys2Proof.Machine.execRestartReset s
  | .frameComplete kind tag body crc => Sys2Proof.Machine.execFrameComplete kind tag body crc s
  | .interByteTimeout => Sys2Proof.Machine.execInterByteTimeout s
  | .unknownKindFrame kind tag body crc => Sys2Proof.Machine.execUnknownKindFrame kind tag body crc s
  | .transmitEnd => Sys2Proof.Machine.execTransmitEnd s
  | .queryState tag page => Sys2Proof.Machine.execQueryState tag page s
  | .queryHead tag head => Sys2Proof.Machine.execQueryHead tag head s
  | .queryGaps tag head => Sys2Proof.Machine.execQueryGaps tag head s
  | .setParam tag id value => Sys2Proof.Machine.execSetParam tag id value s
  | .getParam tag id => Sys2Proof.Machine.execGetParam tag id s
  | .loadTable tag axis points => Sys2Proof.Machine.execLoadTable tag axis points s
  | .loadNeedlePlan tag first values => Sys2Proof.Machine.execLoadNeedlePlan tag first values s
  | .loadMapEntry tag entry => Sys2Proof.Machine.execLoadMapEntry tag entry s
  | .swapMap tag => Sys2Proof.Machine.execSwapMap tag s
  | .setChannel tag chan type polarity => Sys2Proof.Machine.execSetChannel tag chan type polarity s
  | .designOpen tag x y => Sys2Proof.Machine.execDesignOpen tag x y s
  | .load tag start count data => Sys2Proof.Machine.execLoad tag start count data s
  | .designDiscard tag => Sys2Proof.Machine.execDesignDiscard tag s
  | .arm tag => Sys2Proof.Machine.execArm tag s
  | .start tag tension => Sys2Proof.Machine.execStart tag tension s
  | .stop tag => Sys2Proof.Machine.execStop tag s
  | .speed tag value => Sys2Proof.Machine.execSpeed tag value s
  | .inject tag code => Sys2Proof.Machine.execInject tag code s
  | .backtrack tag count => Sys2Proof.Machine.execBacktrack tag count s
  | .repair tag heads => Sys2Proof.Machine.execRepair tag heads s
  | .repairAbandon tag => Sys2Proof.Machine.execRepairAbandon tag s
  | .frameOut tag dx dy => Sys2Proof.Machine.execFrameOut tag dx dy s
  | .frameReturn tag => Sys2Proof.Machine.execFrameReturn tag s
  | .home tag switches => Sys2Proof.Machine.execHome tag switches s
  | .needleUp tag => Sys2Proof.Machine.execNeedleUp tag s
  | .needleSelect tag needle => Sys2Proof.Machine.execNeedleSelect tag needle s
  | .sensorTest tag heads tension => Sys2Proof.Machine.execSensorTest tag heads tension s
  | .channelTest tag chan heads duration => Sys2Proof.Machine.execChannelTest tag chan heads duration s
  | .headModeEnable tag head => Sys2Proof.Machine.execHeadModeEnable tag head s
  | .headModeDisable tag head => Sys2Proof.Machine.execHeadModeDisable tag head s
  | .headModeIsolate tag head => Sys2Proof.Machine.execHeadModeIsolate tag head s
  | .headModePolicyStop tag head => Sys2Proof.Machine.execHeadModePolicyStop tag head s
  | .headModePolicyIsolate tag head => Sys2Proof.Machine.execHeadModePolicyIsolate tag head s
  | .headClear tag head => Sys2Proof.Machine.execHeadClear tag head s
  | .gapDrop tag head => Sys2Proof.Machine.execGapDrop tag head s
  | .bobbinSet tag head value => Sys2Proof.Machine.execBobbinSet tag head value s
  | .noticeMask tag mask => Sys2Proof.Machine.execNoticeMask tag mask s
  | .noticeTake tag source => Sys2Proof.Machine.execNoticeTake tag source s
  | .clear tag => Sys2Proof.Machine.execClear tag s
  | .restart tag => Sys2Proof.Machine.execRestart tag s
  | .encoderCount dir tension order => Sys2Proof.Machine.execEncoderCount dir tension order s
  | .encoderIndex dir us tension order => Sys2Proof.Machine.execEncoderIndex dir us tension order s
  | .stoppedDetection => Sys2Proof.Machine.execStoppedDetection s
  | .stall => Sys2Proof.Machine.execStall s
  | .driveLineChange ready fault => Sys2Proof.Machine.execDriveLineChange ready fault s
  | .estop asserted => Sys2Proof.Machine.execEstop asserted s
  | .moveComplete => Sys2Proof.Machine.execMoveComplete s
  | .chunkComplete tension => Sys2Proof.Machine.execChunkComplete tension s
  | .homingStepComplete xClosed yClosed => Sys2Proof.Machine.execHomingStepComplete xClosed yClosed s
  | .dwellExpiry => Sys2Proof.Machine.execDwellExpiry s
  | .automaticStart tension => Sys2Proof.Machine.execAutomaticStart tension s
  | .colourDelayExpiry => Sys2Proof.Machine.execColourDelayExpiry s
  | .channelTestExpiry => Sys2Proof.Machine.execChannelTestExpiry s
  | .needlePositionChange value => Sys2Proof.Machine.execNeedlePositionChange value s
  | .needleSettleExpiry => Sys2Proof.Machine.execNeedleSettleExpiry s
  | .needleTimeoutExpiry => Sys2Proof.Machine.execNeedleTimeoutExpiry s
  | .lostWatchExpiry => Sys2Proof.Machine.execLostWatchExpiry s
  | .threadPulse head => Sys2Proof.Machine.execThreadPulse head s
  | .sensorTestExpiry tension => Sys2Proof.Machine.execSensorTestExpiry tension s
  | .byteReceived b stopOk => Sys2Proof.Machine.execByteReceived b stopOk s
  | .stepEmitted axis => Sys2Proof.Machine.execStepEmitted axis s

end Sys2Proof.Machine
end

