-- ==== Sys2Proof/Safety.lean ====
section
/-! DEFINITION. What a safe run of the part keeps: the laws that the handbook states of its state (R2, R5, R18, R37, R83,
R108, R163, R165, R183, R184, R186, R188, R189, R195, R206), as predicates that claims are stated in; and the words claims use for
a request that is taken at once and for the reply that answers it. -/

namespace Sys2Proof.Machine

/-! ### The Design Store (R2, R5) -/

/-- The law of the ring: retire ≤ cursor ≤ fill, at most 65,536 records held, fill at most 16,777,215, and the records listed are
those from retire to fill - 1 (R2). -/
abbrev Store.Law (st : Store) : Prop :=
  st.retire ≤ st.cursor ∧ st.cursor ≤ st.fill ∧ st.fill ≤ Config.indexTop ∧
  st.fill - st.retire ≤ Config.slots ∧ st.records.length = st.fill - st.retire

/-- The displacement that a list of records adds up to. -/
def travel : List Rec → Pt
  | [] => .zero
  | r :: rs => (r.move.getD .zero).add (travel rs)

/-- The frame coordinates that the turn records of a list lead to, the first from a design position. -/
def turnTargets (origin : Pt) : Pt → List Rec → List Pt
  | _, [] => []
  | pos, r :: rs =>
    match r.move with
    | some d => origin.add (pos.add d) :: turnTargets origin (pos.add d) rs
    | none => turnTargets origin pos rs

/-- The design position at retire, reckoned back from the cursor position over the history. -/
def Store.basePos (st : Store) : Pt := st.cursorPos.sub (travel (st.records.take (st.cursor - st.retire)))

/-- The law of the soft limits (R5, R68): the target of every record held lies within them; with it, that a store with no design
open holds no record, and that the fill position is where the records held lead. -/
abbrev State.LimitLaw (s : State) : Prop :=
  s.store.Law ∧ (s.store.isOpen = false → s.store.records = []) ∧
  s.store.fillPos = s.store.basePos.add (travel s.store.records) ∧
  ∀ p ∈ turnTargets s.store.origin s.store.basePos s.store.records, s.inLimits p = true

/-! ### Heads and gaps (R18, R165) -/

/-- The gaps of a list are disjoint, not empty, in ascending order, and none but the last is open (R165). -/
def gapsInOrder : List Gap → Bool
  | [] => true
  | [g] =>
    match g.stop with
    | none => true
    | some e => decide (g.start < e)
  | g :: h :: rest =>
    (match g.stop with
     | none => false
     | some e => decide (g.start < e) && decide (e ≤ h.start)) && gapsInOrder (h :: rest)

/-- The law of the gaps: each head holds at most eight, disjoint and in order, and none begins below retire (R18, R165). -/
abbrev State.GapLaw (s : State) : Prop :=
  ∀ h : Head, (s.head h).gaps.length ≤ Config.gapLimit ∧ gapsInOrder (s.head h).gaps = true ∧
    ∀ g ∈ (s.head h).gaps, s.store.retire ≤ g.start

/-! ### The run (R51, R52, R83, R96, R163, R164) -/

/-- The run state is RUNNING or STOPPING. -/
def State.inRun (s : State) : Bool := decide (s.run.state = .running ∨ s.run.state = .stopping)

/-- The law of the run: outside RUNNING and STOPPING the phase is NONE, no turn is outstanding, the planner's demand is 0 and no
needle is engaged (R51, R83, R96, R164); the demand never exceeds SPEED_SET, which lies between SPEED_MIN and SPEED_TOP (R51, R57);
and a head is engaged only if it is in the sew set of the current turn (R163). -/
abbrev State.RunLaw (s : State) : Prop :=
  (s.inRun = false →
    s.run.phase = none ∧ s.run.outstanding = none ∧ s.planner.demand = 0 ∧ s.table.engage = 0) ∧
  (0 ≤ s.par .speedMin ∧ s.par .speedMin ≤ s.par .speedSet ∧ s.par .speedSet ≤ s.par .speedTop) ∧
  s.planner.demand ≤ s.nat .speedSet ∧
  s.table.engage &&& ~~~s.table.sewSet = 0

/-! ### Parameters and the function map (R108, R195, R205, R206) -/

/-- Every parameter lies in its range, and the pairs that the handbook orders are in order (R57, R195, R205, R206). -/
abbrev State.ParamLaw (s : State) : Prop :=
  (∀ p ∈ Param.all, p.row.lo ≤ s.par p ∧ s.par p ≤ p.row.hi) ∧
  s.par .speedMin ≤ s.par .speedTop ∧ s.par .limitXMin ≤ s.par .limitXMax ∧ s.par .limitYMin ≤ s.par .limitYMax ∧
  s.par .sensorRefLo ≤ s.par .sensorRefHi ∧ s.par .stopQuiet ≤ s.par .stallTime

/-- The entry for code 0 is the null entry in both banks (R108). -/
abbrev FuncUnit.Law (f : FuncUnit) : Prop := f.bankA[0] = .null ∧ f.bankB[0] = .null

/-! ### Notices and the link (R183, R184, R186, R188, R189) -/

/-- The law of the notices: no source stands in the queue twice; a source is queued exactly when it is pending and its mask flag is
on; and the record of a source that is not pending is clear (R188, R189). -/
abbrev NoticeUnit.Law (n : NoticeUnit) : Prop :=
  n.queue.Nodup ∧
  ∀ src : Source,
    (src ∈ n.queue ↔ n.sources[src].pending = true ∧ n.unmasked src = true) ∧
    (n.sources[src].pending = false → n.sources[src] = .clear)

/-- The transmitter is idle only when neither a reply nor a notice waits, or between the reply of a RESTART and its reset
(R186, R194). -/
def State.sends (s : State) : Bool :=
  s.link.sending.isSome || decide (s.link.restart = .due) || (s.link.replies.isEmpty && s.notices.queue.isEmpty)

/-- The law of the link: at most two frames in the receive buffer and eight replies in the queue (R183, R184); a frame waits only
while the reply queue is full (R184); and the transmitter is not idle while something waits (R186). -/
abbrev State.LinkLaw (s : State) : Prop :=
  s.link.buffer.length ≤ Config.bufferLimit ∧ s.link.replies.length ≤ Config.replyLimit ∧
  (s.link.buffer ≠ [] → s.link.replies.length = Config.replyLimit ∨ s.link.restart ≠ .none) ∧
  s.sends = true

/-! ### What a design's end and a run's start leave -/

/-- From s to t the design is dropped and no other block than the store and the Run Controller is touched: every gap goes, a kept
detection start falls to 0, the planner's list, profile and stop point are emptied (R4, R6, R45, R54). -/
abbrev State.Emptied (s t : State) : Prop :=
  t.params = s.params ∧ t.pins = s.pins ∧ t.shaft = s.shaft ∧ t.func = s.func ∧ t.thread = s.thread ∧
  t.planner = { s.planner with caps := [], stopPoint := none, lookahead := [] } ∧
  (∀ h : Head, t.head h = { s.head h with gaps := [], kept := (s.head h).kept.map fun _ => 0 }) ∧
  t.table.sewSet = s.table.sewSet ∧ t.table.sewTurn = s.table.sewTurn ∧ t.table.engage = s.table.engage ∧
  t.clock = s.clock ∧ t.pending = s.pending

/-- From s to t a run has been begun by the host or by the part: RUNNING, STARTING, no wait, an empty report, no stop point, no member,
an empty sew set, and the shaft, the records and the functions as they were (R54, R87, R92, R127, R143, R163). -/
abbrev State.Begun (who : Starter) (s t : State) : Prop :=
  t.run.starter = who ∧
  t.run.state = .running ∧ t.run.phase = some .starting ∧ t.run.kind = none ∧ t.run.report = .empty ∧ t.run.resume = none ∧
  t.run.colourTimer = .stopped ∧ t.run.slot = none ∧ t.run.repair = s.run.repair ∧ t.planner.stopPoint = none ∧
  (∀ h : Head, (t.monitor h).member = false) ∧ t.table.sewSet = 0 ∧ t.table.sewTurn = none ∧
  t.store = s.store ∧ t.params = s.params ∧ t.shaft = s.shaft ∧ t.func = s.func ∧ t.clock = s.clock

/-! ### SET PARAM (R5, R57, R69, R161, R206) -/

/-- Parameter p at value v leaves in order every pair that the handbook orders (R57, R206). -/
abbrev State.PairsKept (s : State) (p : Param) (v : Int) : Prop :=
  (p = .speedMin → v ≤ s.par .speedTop) ∧ (p = .speedTop → s.par .speedMin ≤ v) ∧
  (p = .limitXMin → v ≤ s.par .limitXMax) ∧ (p = .limitXMax → s.par .limitXMin ≤ v) ∧
  (p = .limitYMin → v ≤ s.par .limitYMax) ∧ (p = .limitYMax → s.par .limitYMin ≤ v) ∧
  (p = .sensorRefLo → v ≤ s.par .sensorRefHi) ∧ (p = .sensorRefHi → s.par .sensorRefLo ≤ v) ∧
  (p = .stallTime → s.par .stopQuiet ≤ v) ∧ (p = .stopQuiet → v ≤ s.par .stallTime)

/-- An operation of the frame is in the slot (R69). -/
abbrev State.FrameBusy (s : State) : Prop :=
  ∃ op, s.run.slot = some op ∧ op.kind ∈ [.home, .frameOut, .frameReturn, .backtrack, .repair, .repairAbandon]

/-- A head above head number v is listed in a test in the slot (R161). -/
abbrev State.TestedAbove (s : State) (v : Int) : Prop :=
  s.run.slot ≠ none ∧ ∃ h : Head, v ≤ (h.val : Int) ∧
    ((∃ x, s.thread.test = some x ∧ inSet x.heads h = true) ∨ (∃ x, s.func.test = some x ∧ inSet x.heads h = true))

/-! ### Moves that begin (R60, R62, R65) -/

/-- The frame as a move that begins finds it, be it of an operation, of a start or of a turn: a turn move that was still in progress has
completed, its steps emitted and its target reached (notes/assumptions/48.md). -/
def State.settledFrame (s : State) : Frame :=
  match s.frame.move with
  | some m =>
    if m.purpose = .turnMove then
      { s.frame with
        stepX := s.frame.stepX + m.leftX, stepY := s.frame.stepY + m.leftY, coord := m.target, move := none, late := none }
    else s.frame
  | none => s.frame

/-- Move m is the chunk that a move of this purpose makes from a frame coordinate toward a target: it goes to the end of the next
chunk, and its steps are those between the two (R61, R63). -/
abbrev State.LaysChunk (s : State) (p : Purpose) (c target : Pt) (m : Move) : Prop :=
  m.purpose = p ∧ m.target = target ∧ m.chunk = s.nextChunk c target ∧ (m.leftX, m.leftY) = s.stepsBetween c m.chunk

/-! ### What brings an EMERGENCY cause -/

/-- A command brings this EMERGENCY cause and leaves the inputs at these levels: E-STOP asserted, a stall timer that runs and expires,
or a change of the drive inputs that asserts DRIVE_FAULT or withdraws DRIVE_READY under a demand (R35, R91). -/
abbrev State.MeetsEmergency (s : State) (c : Instr) (cause : Cause) (pins : Pins) : Prop :=
  (c = .estop true ∧ cause = .estop ∧ pins = { s.pins with estop := true }) ∨
  (c = .stall ∧ cause = .stall ∧ pins = s.pins ∧ s.shaft.stall ≠ none) ∨
  (∃ ready fault : Bool, c = .driveLineChange ready fault ∧ cause = .drive ∧
    pins = { s.pins with driveReady := ready, driveFault := fault } ∧
    ((fault = true ∧ s.pins.driveFault = false) ∨ (ready = false ∧ s.pins.driveReady = true ∧ 0 < s.shaft.line)))

/-! ### Requests taken at once -/

/-- The part takes a request the moment its frame completes: the start-up store check has ended, no RESTART is under way, no
frame waits before it, and the reply queue has room (R183, R184, R194). -/
abbrev State.ready (s : State) : Prop :=
  s.store.check ≠ .running ∧ s.link.restart = .none ∧ s.link.buffer = [] ∧ s.link.replies.length < Config.replyLimit

/-- The part has ended its start-up store check, so it takes events (R193). -/
abbrev State.awake (s : State) : Prop := s.store.check ≠ .running

/-- A request of this kind and tag is answered with this status and payload: the reply joins the tail of the reply queue, and the
transmitter chooses (R184, R186). -/
def replied (kind tag : Byte) (status : Status) (payload : List Byte) (s : State) : State :=
  settle (enqueue ⟨kind + 128, tag, u8 status.value ++ payload, false⟩ s)

/-- The request as its frame carries it: a request read from the line says nothing of the levels on the inputs. -/
def offLine : Instr → Instr
  | .start t _ => .start t []
  | .home t _ => .home t none
  | .sensorTest t hs _ => .sensorTest t hs []
  | i => i

/-! ### The needle flag falls (R32) -/

/-- What a change of the needle flag to needle-down does to the work in progress, b being the state with the flag down and `leaves`
what holds of the state left: it marks a move to end its operation (R74, R80), takes MOVE_LATE in a first move (R66), ends a
stepwise operation in its dwell (R80), and ends a needle change with NEEDLE_DOWN (R133), by its purpose: a NEEDLE SELECT (R135), a
COLOUR change with its wait (R101, R134), a LANDING with its operation (R137), or a START with the cause NEEDLE_TIMEOUT (R136). The
layout of the OP_DONE details is the model's (notes/assumptions/33.md), and a late turn move is no move of the work in progress
(notes/assumptions/48.md). -/
abbrev State.FlagFalls (b : State) (leaves : State → Prop) : Prop :=
  (∀ m, b.frame.move = some m → m.purpose ≠ .turnMove → m.purpose ≠ .firstMove → b.needle.change = none →
    leaves { b with frame := { b.frame with move := some { m with abort := m.abort.or (some .needleDown) } } }) ∧
  (∀ m i, b.frame.move = some m → m.purpose = .firstMove → m.turn = some i → b.needle.change = none →
    leaves (takeCause .moveLate i b)) ∧
  (∀ d op, b.frame.ownMove = none → b.frame.dwell = some d → b.needle.change = none → b.run.slot = some op →
    leaves (raiseNotice srcOpDone b.store.cursor
      (u8 op.kind.value ++ u8 op.starter.value ++ [2, 0, 0, 0, 0, 0, 0, 0, 0, 0])
      { b with frame := { b.frame with dwell := none }, run := { b.run with slot := none } })) ∧
  (∀ ch op, b.frame.ownMove = none → b.frame.dwell = none → b.needle.change = some ch → ch.purpose = .select →
    b.run.slot = some op →
    leaves (raiseNotice srcOpDone b.store.cursor
      (u8 op.kind.value ++ u8 op.starter.value ++ [2] ++ u8 b.store.cursorColour ++ u8 ch.target
        ++ byteOrNone b.needle.settled ++ u32 (b.clock - ch.stamp).toNat ++ [1, 3])
      { b with needle := { b.needle with request := false, change := none }, run := { b.run with slot := none } })) ∧
  (∀ ch op, b.frame.ownMove = none → b.frame.dwell = none → b.needle.change = some ch → ch.purpose = .colour →
    b.run.slot = some op →
    leaves (raiseNotice srcOpDone b.store.cursor
      (u8 op.kind.value ++ u8 op.starter.value ++ [2] ++ u8 b.store.cursorColour ++ u8 ch.target
        ++ byteOrNone b.needle.settled ++ u32 (b.clock - ch.stamp).toNat ++ [1, 3])
      { b with
        needle := { b.needle with request := false, change := none }
        run := { b.run with slot := none, resume := none, colourTimer := .stopped } })) ∧
  (∀ ch op, b.frame.ownMove = none → b.frame.dwell = none → b.needle.change = some ch → ch.purpose = .landing →
    b.run.slot = some op →
    leaves (raiseNotice srcOpDone b.store.cursor
      (u8 op.kind.value ++ u8 op.starter.value ++ [2] ++ [1] ++ u8 ch.target
        ++ byteOrNone b.needle.settled ++ u32 (b.clock - ch.stamp).toNat ++ [1, 3])
      { b with needle := { b.needle with request := false, change := none }, run := { b.run with slot := none } })) ∧
  (∀ ch, b.frame.ownMove = none → b.frame.dwell = none → b.needle.change = some ch → ch.purpose = .start →
    b.run.state ≠ .stopping →
    let u := { b with needle := { b.needle with request := false, change := none }, run := { b.run with work := none } }
    leaves (if b.run.state = .running then takeCause .needleTimeout b.store.cursor u else u))

/-! ### An action item at its channel (R112, R117, R119, R120) -/

/-- A channel takes an action item at angle `at0`, none of its arrivals there still to come, with the heads captured and the common
mark: CLEAR makes it IDLE; an item that captures nothing leaves it; SET latches the union; PULSE makes a pulse with its two dues, or is
merged with the pulse held, the union of the heads, the earlier start and the later end, dues of one arrival being the held one. -/
abbrev Channel.Takes (at0 : Nat) (act : Act) (hs : HeadSet) (common : Bool) (old new : Channel) : Prop :=
  let far := fun d : Due => (d.angle + 719 - at0) % 360 + 360 * (d.toGo - 1)
  (act = .clear → new = { old with latch := none, pulse := none }) ∧
  (act ≠ .clear → hs = 0 → common = false → new = old) ∧
  (act = .set → hs ≠ 0 ∨ common = true → new = { old with
    latch := some (match old.latch with
      | some l => ⟨l.heads ||| hs, l.common || common⟩
      | none => ⟨hs, common⟩) }) ∧
  (∀ r a k e, act = .pulse r a k e → hs ≠ 0 ∨ common = true →
    let before := if (e + 719 - at0) % 360 ≤ (a + 719 - at0) % 360 then r + 1 else r
    let start : Due := ⟨a, r + 1⟩
    let stop : Due := ⟨e, before + k + 1⟩
    (old.pulse = none → new = { old with pulse := some ⟨false, hs, common, some start, some stop⟩ }) ∧
    (∀ p d, old.pulse = some p → p.stop = some d →
      let last := if far d < far stop then stop else d
      (p.active = true →
        new = { old with pulse := some ⟨true, p.heads ||| hs, p.common || common, none, some last⟩ }) ∧
      (∀ b, p.active = false → p.start = some b →
        let first := if far start < far b then start else b
        new = { old with pulse := some ⟨false, p.heads ||| hs, p.common || common, some first, some last⟩ })))

/-! ### A count that reaches the window-start mark (R28, R89) -/

/-- The next forward count brings a turning shaft to the window-start angle anew, no other mark stands there, and no overrun is
being counted. -/
abbrev State.NearsWindowStart (s : State) : Prop :=
  s.awake ∧ s.shaft.motion = .turning ∧ s.shaft.synced = true ∧ s.shaft.counting = false ∧
  -2 ≤ s.shaft.count + 1 ∧ s.shaft.count + 1 ≤ (s.nat .encCounts : Int) + 2 ∧
  angleOfCount (s.nat .encCounts) (s.shaft.count + 1) = s.nat .winStart ∧ s.angle ≠ some (s.nat .winStart) ∧
  ∀ t, s.takesAt (s.nat .winStart) t = true ↔ t ∈ [.overrun, .completion, .retention, .call]

/-- The state as that arrival is taken: the count noted, these levels on the tension inputs, and no turn outstanding any more
(R24, R89). -/
def State.arrived (tension : List (BitVec 10)) (s : State) : State :=
  { setTension tension s with
    shaft := { s.shaft with count := s.shaft.count + 1, quiet := 0, stall := s.shaft.stall.map fun _ => 0 }
    run := { s.run with outstanding := none } }

/-- The repair selection that a completion is judged by, empty outside repair (R174). -/
def State.judged (s : State) : HeadSet := if s.run.repair.active then s.run.repair.selection else 0

/-- The state once that arrival's completion of turn x has been taken, by the heads and then by retention (R18, R89). -/
def State.completed (tension : List (BitVec 10)) (x : Turn) (s : State) : State :=
  runRetention (completeAtHeads x s.judged allHeads (s.arrived tension))

end Sys2Proof.Machine
end

