-- ==== Sys2Proof/WellFormed.lean ====
section
/-! DEFINITION. The commands that the lines of the part can bring: the checks that the operands of a command must pass to stand
for something that happens on the link or on the machine lines. The meanings of the commands are total all the same. -/

namespace Sys2Proof

/-- The kind byte is one of the 36 request kinds (R200). -/
def isRequestKind (kind : Byte) : Bool := decide (1 ≤ kind.toNat) && decide (kind.toNat ≤ 36)

/-- A body fits a frame: LEN is 2..252 (R180). -/
def bodyFits (body : List Byte) : Bool := decide (body.length ≤ 250)

/-- Levels for at most twelve tension inputs. -/
def levelsFit (tension : List (BitVec 10)) : Bool := decide (tension.length ≤ 12)

/-- Every taker is named at most once. -/
def namedOnce : List Taker → Bool
  | [] => true
  | t :: ts => !ts.contains t && namedOnce ts

/-- The checks on the operands of a command: an axis table has sixteen points (R42, R200), the lists of a request fit its frame
(R180, R201), the bodies of received frames fit theirs, an unknown kind is none of the request kinds, and the levels and takers
of an event are no more than there are. -/
def Instr.wellFormed : Instr → Bool
  | .powerOn _ => true
  | .storeCheckDone _ => true
  | .restartReset => true
  | .frameComplete _ _ body _ => bodyFits body
  | .interByteTimeout => true
  | .unknownKindFrame kind _ body _ => bodyFits body && !isRequestKind kind
  | .transmitEnd => true
  | .queryState _ _ => true
  | .queryHead _ _ => true
  | .queryGaps _ _ => true
  | .setParam _ _ _ => true
  | .getParam _ _ => true
  | .loadTable _ _ points => decide (points.length = 16)
  | .loadNeedlePlan _ _ values => decide (values.length ≤ 248)
  | .loadMapEntry _ entry => decide (entry.items.length ≤ 30)
  | .swapMap _ => true
  | .setChannel _ _ _ _ => true
  | .designOpen _ _ _ => true
  | .load _ _ _ data => decide (data.length ≤ 246)
  | .designDiscard _ => true
  | .arm _ => true
  | .start _ tension => levelsFit tension
  | .stop _ => true
  | .speed _ _ => true
  | .inject _ _ => true
  | .backtrack _ _ => true
  | .repair _ _ => true
  | .repairAbandon _ => true
  | .frameOut _ _ _ => true
  | .frameReturn _ => true
  | .home _ _ => true
  | .needleUp _ => true
  | .needleSelect _ _ => true
  | .sensorTest _ _ tension => levelsFit tension
  | .channelTest _ _ _ _ => true
  | .headModeEnable _ _ => true
  | .headModeDisable _ _ => true
  | .headModeIsolate _ _ => true
  | .headModePolicyStop _ _ => true
  | .headModePolicyIsolate _ _ => true
  | .headClear _ _ => true
  | .gapDrop _ _ => true
  | .bobbinSet _ _ _ => true
  | .noticeMask _ _ => true
  | .noticeTake _ _ => true
  | .clear _ => true
  | .restart _ => true
  | .encoderCount _ tension order => levelsFit tension && namedOnce order
  | .encoderIndex _ _ tension order => levelsFit tension && namedOnce order
  | .stoppedDetection => true
  | .stall => true
  | .driveLineChange _ _ => true
  | .estop _ => true
  | .moveComplete => true
  | .chunkComplete tension => levelsFit tension
  | .homingStepComplete _ _ => true
  | .dwellExpiry => true
  | .automaticStart tension => levelsFit tension
  | .colourDelayExpiry => true
  | .channelTestExpiry => true
  | .needlePositionChange _ => true
  | .needleSettleExpiry => true
  | .needleTimeoutExpiry => true
  | .lostWatchExpiry => true
  | .threadPulse _ => true
  | .sensorTestExpiry tension => levelsFit tension
  | .byteReceived _ _ => true
  | .stepEmitted _ => true

end Sys2Proof
end

