-- ==== Sys2Proof/Certificates/Slice0/Obligations.lean ====
section
/-! DEFINITION. The statements for the provers. Each says in its docstring which rule of the handbook it formalises. A request's
statement speaks of a state that is ready to take it (`State.ready`), an event's of a state that is awake (`State.awake`); `hunt s`
is s with the receiver HUNTING again, as every complete frame leaves it (R182), and `replied` is the answering of a request
(R184). Each equation of a next state gives the whole of it, and so says what the command leaves unchanged. -/

open Sys2Proof Sys2Proof.Machine

/-! ### The machine -/

/-- A step takes the command at the front of the queue and carries it out on the state with the rest of the queue. -/
def Obligations.StepTakesTheFront : Prop :=
  ∀ (c : Instr) (rest : List Instr) (s : State), s.pending = c :: rest →
    step s = exec c { s with pending := rest }

/-- With no command waiting a step is a millisecond (the model's own choice, log entry 5): no queue, parameter, input, design,
head or notice changes, and the millisecond counter rises by one and wraps. -/
def Obligations.AnIdleStepIsAMillisecond : Prop :=
  ∀ s : State, s.pending = [] → ∃ t, step s = .next t ∧
    t.clock = s.clock + 1 ∧ t.pending = [] ∧ t.params = s.params ∧ t.pins = s.pins ∧ t.store = s.store ∧
    t.planner = s.planner ∧ t.table = s.table ∧ t.notices = s.notices ∧
    t.shaft.count = s.shaft.count ∧ t.shaft.line = s.shaft.line ∧ t.frame.move = s.frame.move ∧
    t.run.state = s.run.state ∧ t.link.replies = s.link.replies ∧ t.link.sending = s.link.sending ∧
    t.thread.monitors = s.thread.monitors ∧ t.func.channels = s.func.channels

/-- The state after reset meets every law that the steps keep. -/
def Obligations.ResetMeetsTheLaws : Prop :=
  State.reset.LimitLaw ∧ State.reset.GapLaw ∧ State.reset.RunLaw ∧ State.reset.ParamLaw ∧
  State.reset.func.Law ∧ State.reset.notices.Law ∧ State.reset.LinkLaw

/-! ### Laws that every step keeps -/

/-- Every step keeps the law of the ring (R2). -/
def Obligations.StepKeepsTheStoreLaw : Prop :=
  ∀ s t : State, s.store.Law → step s = .next t → t.store.Law

/-- Every step keeps the target of every record held within the soft limits (R5, R68). -/
def Obligations.StepKeepsTheLimitLaw : Prop :=
  ∀ s t : State, s.LimitLaw → step s = .next t → t.LimitLaw

/-- Every step keeps every head's gaps disjoint, in order, at most eight, and at or above retire (R165, R18). -/
def Obligations.StepKeepsTheGapLaw : Prop :=
  ∀ s t : State, s.GapLaw → step s = .next t → t.GapLaw

/-- Every step keeps the law of the run: phase, outstanding turn, demand and needle-engage outputs by the run state, the demand
at or below SPEED_SET, and no head engaged outside the sew set (R51, R83, R96, R163, R164). -/
def Obligations.StepKeepsTheRunLaw : Prop :=
  ∀ s t : State, s.RunLaw → s.ParamLaw → step s = .next t → t.RunLaw

/-- Every step keeps every parameter in its range and the ordered pairs in order (R57, R195, R205, R206). -/
def Obligations.StepKeepsTheParamLaw : Prop :=
  ∀ s t : State, s.ParamLaw → step s = .next t → t.ParamLaw

/-- Every step keeps the null entry for code 0 in both banks (R108). -/
def Obligations.StepKeepsTheNullEntry : Prop :=
  ∀ s t : State, s.func.Law → step s = .next t → t.func.Law

/-- Every step keeps the law of the notice queue and the source records (R188, R189). -/
def Obligations.StepKeepsTheNoticeLaw : Prop :=
  ∀ s t : State, s.notices.Law → step s = .next t → t.notices.Law

/-- Every step keeps the law of the link: the sizes of the buffer and of the reply queue, and a transmitter that does not stand
idle while something waits (R183, R184, R186). -/
def Obligations.StepKeepsTheLinkLaw : Prop :=
  ∀ s t : State, s.LinkLaw → step s = .next t → t.LinkLaw

/-- The active function map bank changes only while the shaft is stopped (R107, R110). -/
def Obligations.TheActiveBankChangesOnlyAtRest : Prop :=
  ∀ (c : Instr) (s t : State), exec c s = .next t → t.func.active ≠ s.func.active → t.shaft.motion = .stopped

/-! ### Resets -/

/-- POWER_ON (R193) leaves every block at its power-on value (R23, R41, R59, R82, R106, R126, R141, R160, R178, R193), whatever
stood before. That the levels on the inputs and the waiting commands stay is the model's choice (log entries 3 and 40), for the rules
name neither; so is the resume index 0 of the inactive repair context (log entry 12). -/
def Obligations.PowerOnLeavesThePowerOnValues : Prop :=
  ∀ (strap : Bool) (s : State), ∃ t, exec (.powerOn strap) s = .next t ∧
    t.params = Param.defaults ∧ t.pins = s.pins ∧ t.pending = s.pending ∧ t.clock = 0 ∧
    (t.store.records = [] ∧ t.store.retire = 0 ∧ t.store.cursor = 0 ∧ t.store.fill = 0 ∧ t.store.isOpen = false ∧
      t.store.origin = ⟨0, 0⟩ ∧ t.store.fillPos = ⟨0, 0⟩ ∧ t.store.cursorPos = ⟨0, 0⟩ ∧ t.store.fillColour = 0 ∧
      t.store.cursorColour = 0 ∧ t.store.endLoaded = false ∧ t.store.lowArmed = true ∧ t.store.check = .running) ∧
    (t.shaft.count = 0 ∧ t.shaft.synced = false ∧ t.angle = none ∧ t.shaft.motion = .stopped ∧ t.shaft.needleUp = false ∧
      t.shaft.speed = 0 ∧ t.shaft.revs = 0 ∧ t.shaft.timedRev = false ∧ t.shaft.line = 0 ∧ t.shaft.brake = true ∧
      t.shaft.waiting = none ∧ t.shaft.overrun = 0 ∧ t.shaft.stall = none) ∧
    (t.planner.tableX = none ∧ t.planner.tableY = none ∧ t.planner.lookahead = [] ∧ t.planner.caps = [] ∧
      t.planner.stopPoint = none ∧ t.planner.demand = 0 ∧ t.planner.held = false ∧ t.planner.prev = none) ∧
    (t.frame.ref = .unreferenced ∧ t.frame.stepX = 0 ∧ t.frame.stepY = 0 ∧ t.frame.offset = ⟨0, 0⟩ ∧ t.frame.move = none ∧
      t.frame.late = none ∧ t.frame.dwell = none) ∧
    (t.run.state = .idle ∧ t.run.phase = none ∧ t.run.kind = none ∧ t.run.outstanding = none ∧ t.run.armed = false ∧
      t.run.report = .empty ∧ t.run.slot = none ∧ t.run.resume = none ∧ t.run.colourTimer = .stopped ∧
      t.run.repair = ⟨false, 0, 0⟩ ∧ t.run.inject = none) ∧
    ((∀ c : Code, t.func.bankA[c] = .null ∧ t.func.bankB[c] = .null) ∧ t.func.active = .a ∧
      (∀ c : Chan, t.func.channels[c] = ⟨.common, .activeHigh, none, none⟩) ∧ t.func.test = none) ∧
    ((∀ k : Fin 256, t.needle.plan[k] = none) ∧ t.needle.settled = none ∧ t.needle.settle = none ∧ t.needle.target = 0 ∧
      t.needle.request = false ∧ t.needle.change = none ∧ t.needle.watch = none) ∧
    ((∀ h : Head, (t.monitor h).member = false ∧ (t.monitor h).gatherings = [] ∧ (t.monitor h).breakRun = 0 ∧
        (t.monitor h).window = [] ∧ (t.monitor h).stuckRun = 0 ∧ (t.monitor h).railRun = 0 ∧ (t.monitor h).holdCount = 0 ∧
        (t.monitor h).bobbin = none ∧ (t.monitor h).sensor = .notTested ∧ (t.monitor h).fault = none) ∧
      t.thread.testLoad = 0 ∧ t.thread.test = none) ∧
    ((∀ h : Head, t.head h = ⟨.disabled, .stop, false, none, [], false⟩) ∧ t.table.sewSet = 0 ∧ t.table.engage = 0) ∧
    ((∀ n : Source, t.notices.sources[n] = .clear) ∧ t.notices.queue = [] ∧ t.notices.seq = 0 ∧
      t.notices.mask = BitVec.allOnes 30) ∧
    t.link = ⟨strap, .hunting, none, [], [], none, .none⟩

/-- The store check that ends PASSED ends the power-on reset (R22, R193): STARTUP is raised with the part revision, the reset kind
and the result, the settle timer starts when the input reads a needle (R141), and with no lock cause standing nothing else
changes. The detail is laid out by R199 and R204, which list no value for the result: that PASSED is 0, and that a flag goes before
the failing slot, 0 here with two bytes of 0, is the model's choice (log entry 33). -/
def Obligations.APassedStoreCheckEndsTheReset : Prop :=
  ∀ s : State, s.store.check = .running → s.pins.estop = false → s.pins.driveFault = false →
    exec (.storeCheckDone none) s = .next (settle (raiseNotice srcStartup 0 [1, 0, 0, 0, 0, 0]
      { s with
        store := { s.store with check := .passed }
        needle := { s.needle with
          settle := if s.isNeedle s.pins.needle.toNat then some (s.nat .needleSettle) else none } }))

/-- A store check that ends FAILED in IDLE puts the part in LOCKED with the lowest failing slot kept, STORE as the primary cause,
and STARTUP raised first (R22, R94, R106, R193). In its detail (R199, R204) that FAILED is 1 and that a flag goes before the failing
slot is the model's choice (log entry 33). -/
def Obligations.AFailedStoreCheckLocks : Prop :=
  ∀ (slot : Half) (s : State), s.store.check = .running → s.run.state = .idle → s.pins.estop = false →
    s.pins.driveFault = false →
    ∃ t, exec (.storeCheckDone (some slot)) s = .next (settle t) ∧
      t.store = { s.store with check := .failed slot } ∧ t.run.state = .locked ∧
      t.run.report.primary = some ⟨.store, 0, s.clock⟩ ∧ t.run.report.secondary = [] ∧
      t.notices = (raiseNotice srcState s.store.cursor (stateDetail .idle .locked s.store.cursor none)
        (raiseNotice srcStartup 0 ([1, 0, 1, 1] ++ u16 slot.toNat) s)).notices ∧
      t.shaft = s.shaft ∧ t.func = s.func ∧ t.frame = s.frame ∧ t.table = s.table

/-- The reset that a RESTART asks for gives every block its RESTART value (R23, R41, R59, R82, R106, R126, R141, R160, R178, R193,
R194) and raises STARTUP with the kept result; shown with a passed check and no lock cause standing: a failed check and the lock causes
ESTOP and DRIVE are left out. The model's choices in it: the inputs and the waiting commands stay (log entries 3 and 40); the
quiet time and the direction lines are kept, and of what Monitor.reset gives, the first indices, the stuck reading and the holdoff's
from-index are 0, as Run.reset's resume index and starter are what they are (log entry 12); and a RESTART_RESET is taken while the marked reply is still
being sent, the reference being judged by the move that stands at the reset and not at the taking (R69, R82; log entry 31). In the
STARTUP detail (R199, R204) the value 0 of PASSED and the flag before the failing slot are the model's too (log entry 33). -/
def Obligations.RestartLeavesTheRestartValues : Prop :=
  ∀ s : State, s.restartDue = true → s.store.check = .passed → s.pins.estop = false → s.pins.driveFault = false →
    ∃ t, exec .restartReset s = .next (settle (raiseNotice srcStartup 0 [1, 1, 0, 0, 0, 0] t)) ∧
      t.params = s.params ∧ t.pins = s.pins ∧ t.pending = s.pending ∧ t.clock = 0 ∧
      t.store = .empty .passed ∧
      t.shaft = { Shaft.reset with
        count := s.shaft.count, synced := s.shaft.synced, needleUp := s.shaft.needleUp, quiet := s.shaft.quiet } ∧
      t.planner = { Planner.reset with tableX := s.planner.tableX, tableY := s.planner.tableY } ∧
      (t.frame.stepX = s.frame.stepX ∧ t.frame.stepY = s.frame.stepY ∧ t.frame.coord = s.frame.coord ∧
        t.frame.dirX = s.frame.dirX ∧ t.frame.dirY = s.frame.dirY ∧
        t.frame.ref = (if s.frame.move ≠ none ∧ s.frame.ref = .referenced then .unsure else s.frame.ref) ∧
        t.frame.offset = ⟨0, 0⟩ ∧ t.frame.move = none ∧ t.frame.late = none ∧ t.frame.dwell = none) ∧
      t.run = .reset ∧
      (t.func.bankA = s.func.bankA ∧ t.func.bankB = s.func.bankB ∧ t.func.active = s.func.active ∧ t.func.test = none ∧
        ∀ c : Chan, t.func.channels[c] = { s.func.channels[c] with latch := none, pulse := none }) ∧
      t.needle = { s.needle with request := false, change := none, watch := none } ∧
      ((∀ h : Head, t.monitor h =
          { Monitor.reset with bobbin := (s.monitor h).bobbin, sensor := (s.monitor h).sensor }) ∧
        t.thread.testLoad = 0 ∧ t.thread.test = none) ∧
      ((∀ h : Head, (t.head h).policy = (s.head h).policy ∧ (t.head h).faultHeld = false ∧ (t.head h).kept = none ∧
          (t.head h).gaps = [] ∧ (t.head h).closing = false ∧
          (t.head h).state = (if (s.head h).state = .disabled then .disabled else .active)) ∧
        t.table.sewSet = 0 ∧ t.table.engage = 0) ∧
      ((∀ n : Source, t.notices.sources[n] = .clear) ∧ t.notices.queue = [] ∧ t.notices.seq = 0 ∧
        t.notices.mask = s.notices.mask) ∧
      t.link = ⟨s.link.rateHigh, .hunting, none, [], [], none, .none⟩

/-- RESTART is refused STATE while the shaft is TURNING; else its DONE reply is queued and marked, the demand on the line falls to
0, and no frame waits any more (R194). That the reset becomes due as the transmitter ends that marked reply, with nothing sent
between the two, is the model's reading of R194 (log entry 31, DEDUCED): the mark set at the request is what makes it due, and no
reply without the mark does. -/
def Obligations.RestartIsTaken : Prop :=
  (∀ (tag : Byte) (s : State), s.ready → s.shaft.motion = .turning →
    exec (.restart tag) s = .next (replied 0x24 tag .state [] (hunt s))) ∧
  (∀ (tag : Byte) (s : State), s.ready → s.shaft.motion = .stopped →
    exec (.restart tag) s = .next (settle
      { hunt s with
        shaft := { s.shaft with line := 0, stall := none }
        link := { (hunt s).link with
          restart := .taken
          replies := s.link.replies ++ [⟨0xA4, tag, [0], true⟩] } })) ∧
  (∀ (s : State) (x : Sending), s.awake → s.link.sending = some x → x.restart = true →
    ∃ t, exec .transmitEnd s = .next t ∧ t.link.restart = .due ∧ t.link.sending = none) ∧
  (∀ (s : State) (x : Sending), s.awake → s.link.sending = some x → x.restart = false → s.link.restart ≠ .due →
    s.restartDue = false ∧ ∃ t, exec .transmitEnd s = .next t ∧ t.link.restart ≠ .due)

/-! ### The link -/

/-- A well-formed request is read back from the frame that carries it (R200 to R202), but for the levels on the inputs that a
command may bring, and its body fits a frame (R180). -/
def Obligations.RequestsAreReadBack : Prop :=
  ∀ (i : Instr) (kind tag : Byte) (body : List Byte), i.wellFormed = true → encodeRequest i = some (kind, tag, body) →
    decodeRequest kind tag body = some (offLine i) ∧ body.length ≤ 250 ∧ 1 ≤ kind.toNat ∧ kind.toNat ≤ 36

/-- A frame that is read as a request is the frame that carries it: no two frames are read as one request (R200 to R202). -/
def Obligations.AReadFrameIsItsRequest : Prop :=
  ∀ (i : Instr) (kind tag : Byte) (body : List Byte), decodeRequest kind tag body = some i →
    encodeRequest i = some (kind, tag, body)

/-- The check of R181 over the text 123456789 is 10,673; a frame is the start byte, LEN, KIND, TAG, the body and the check over LEN
to the end of the body, high byte first (R180, R198), so a frame takes LEN + 4 bytes. -/
def Obligations.FramesCarryTheirCheck : Prop :=
  crcOf [0x31, 0x32, 0x33, 0x34, 0x35, 0x36, 0x37, 0x38, 0x39] = 10673#16 ∧ crcOf [] = 0xFFFF#16 ∧
  ∀ (kind tag : Byte) (body : List Byte), ∃ c : Half,
    c = crcOf (BitVec.ofNat 8 (body.length + 2) :: kind :: tag :: body) ∧
    frameBytes kind tag body =
      [0xA5, BitVec.ofNat 8 (body.length + 2), kind, tag] ++ body ++ [c.extractLsb' 8 8, c.extractLsb' 0 8] ∧
    (frameBytes kind tag body).length = body.length + 6

/-- The bytes of a frame, received one after another by a HUNTING receiver, complete that frame (R182), which passes its check and
joins the receive buffer if there is room (R183); the receiver is HUNTING again. -/
def Obligations.AFrameIsReceivedByteByByte : Prop :=
  ∀ (kind tag : Byte) (body : List Byte) (s : State), body.length ≤ 250 → s.link.receiver = .hunting →
    ∃ f : RxFrame, f.kind = kind ∧ f.tag = tag ∧ f.body = body ∧ f.sound = true ∧
      (frameBytes kind tag body).foldl (fun s b => takeByte b s) s = completeFrame f s

/-- BYTE_RECEIVED by the receiver's state (R182): a byte with a bad stop bit counts as none (R179); HUNTING waits for the start
byte; LENGTH takes a value in 2..252 and examines any other as HUNTING does; COLLECTING stores it; INTER_BYTE_TIMEOUT abandons a
partial frame. That in HUNTING, where no timer runs, the timeout changes nothing is the model's choice (log entry 11). -/
def Obligations.EachByteMovesTheReceiver : Prop :=
  ∀ (b : Byte) (s : State), s.awake →
    exec (.byteReceived b false) s = .next (settle s) ∧
    (s.link.receiver = .hunting ∨ (s.link.receiver = .length ∧ (b.toNat < 2 ∨ 252 < b.toNat)) →
      exec (.byteReceived b true) s = .next (settle { s with link := { s.link with
        receiver := if b.toNat = 165 then .length else .hunting
        byteTimer := if b.toNat = 165 then some 2 else none } })) ∧
    (s.link.receiver = .length → 2 ≤ b.toNat → b.toNat ≤ 252 →
      exec (.byteReceived b true) s = .next (settle { s with link := { s.link with
        receiver := .collecting b.toNat [], byteTimer := some 2 } })) ∧
    (∀ (len : Nat) (got : List Byte), s.link.receiver = .collecting len got → got.length + 1 < len + 2 →
      exec (.byteReceived b true) s = .next (settle { s with link := { s.link with
        receiver := .collecting len (got ++ [b]), byteTimer := some 2 } })) ∧
    (∀ (len : Nat) (got : List Byte), s.link.receiver = .collecting len got → got.length + 1 = len + 2 →
      exec (.byteReceived b true) s = .next (settle (completeFrame (gatheredFrame (got ++ [b])) s))) ∧
    (s.link.receiver ≠ .hunting →
      exec .interByteTimeout s = .next (settle { s with link := { s.link with receiver := .hunting, byteTimer := none } })) ∧
    (s.link.receiver = .hunting → exec .interByteTimeout s = .next (settle s))

/-- The checks of a frame as it is taken (R184): a wrong check is answered FRAME, a kind that is none of the request kinds FORM, a
body that does not agree with its kind FORM, each with no payload and nothing else changed; the frame of a request is taken as the
request itself. `f` completes at a state that takes it at once. -/
def Obligations.AFrameIsCheckedAsItIsTaken : Prop :=
  ∀ (kind tag : Byte) (body : List Byte) (crc : Half) (s : State), s.ready → s.link.sending ≠ none →
    (crc ≠ crcOf (covered kind tag body) →
      exec (.frameComplete kind tag body crc) s = .next (replied kind tag .frame [] (hunt s)) ∧
      exec (.unknownKindFrame kind tag body crc) s = .next (replied kind tag .frame [] (hunt s))) ∧
    (crc = crcOf (covered kind tag body) → (kind.toNat < 1 ∨ 36 < kind.toNat) →
      exec (.frameComplete kind tag body crc) s = .next (replied kind tag .form [] (hunt s)) ∧
      exec (.unknownKindFrame kind tag body crc) s = .next (replied kind tag .form [] (hunt s))) ∧
    (crc = crcOf (covered kind tag body) → decodeRequest kind tag body = none →
      exec (.frameComplete kind tag body crc) s = .next (replied kind tag .form [] (hunt s))) ∧
    (∀ i : Instr, crc = crcOf (covered kind tag body) → decodeRequest kind tag body = some i →
      exec (.frameComplete kind tag body crc) s = exec i s)

/-- A frame that completes while the reply queue is full waits, and one that completes while two wait is discarded without a reply (R183,
R184). From the taking of a RESTART on every frame that completes is discarded, whatever room the reply queue has: the transmitter goes on
with the replies and notices that wait until the RESTART's own reply has been sent, and nothing else changes (R183, R194). -/
def Obligations.AFrameWaitsOrIsDiscarded : Prop :=
  ∀ (kind tag : Byte) (body : List Byte) (crc : Half) (s : State), s.awake →
    ∀ i ∈ [Instr.frameComplete kind tag body crc, .unknownKindFrame kind tag body crc],
      let dropped := { s with link := { s.link with receiver := .hunting, byteTimer := none } }
      (s.link.restart = .none → s.link.sending ≠ none → Config.replyLimit ≤ s.link.replies.length →
        (s.link.buffer.length < 2 → exec i s = .next { s with link := { s.link with
          receiver := .hunting, byteTimer := none, buffer := s.link.buffer ++ [⟨kind, tag, body, crc⟩] } }) ∧
        (2 ≤ s.link.buffer.length → exec i s = .next dropped)) ∧
      (s.link.restart ≠ .none → exec i s = .next (settle dropped) ∧
        (s.link.sending ≠ none ∨ s.link.restart = .due → exec i s = .next dropped) ∧
        (∀ (r : Reply) (rest : List Reply), s.link.sending = none → s.link.restart = .taken → s.link.replies = r :: rest →
          exec i s = .next { dropped with link := { dropped.link with
            replies := rest, sending := some ⟨frameBytes r.kind r.tag r.body, r.restart⟩ } }))

/-- The transmit arbiter (R186, R190): as a frame ends, the reply at the head is sent; with none waiting, the notice at the head,
whose record becomes clear, whose TAG is the sequence count and whose count rises; with neither, the transmitter is idle. -/
def Obligations.TheArbiterPrefersReplies : Prop :=
  ∀ (s : State) (x : Sending), s.awake → s.link.buffer = [] → s.link.restart = .none → s.link.sending = some x →
    x.restart = false →
    (∀ (r : Reply) (rest : List Reply), s.link.replies = r :: rest →
      exec .transmitEnd s = .next { s with link := { s.link with
        replies := rest, sending := some ⟨frameBytes r.kind r.tag r.body, r.restart⟩ } }) ∧
    (∀ (src : Source) (rest : List Source), s.link.replies = [] → s.notices.queue = src :: rest →
      exec .transmitEnd s = .next { s with
        notices := { s.notices with
          sources := s.notices.sources.set src .clear, queue := rest, seq := s.notices.seq + 1 }
        link := { s.link with
          sending := some ⟨frameBytes 0xFE s.notices.seq (u8 src.val ++ recordFields s.notices.sources[src]), false⟩ } }) ∧
    (s.link.replies = [] → s.notices.queue = [] →
      exec .transmitEnd s = .next { s with link := { s.link with sending := none } })

/-- An occurrence of a source (R188, R189): a source that is not pending becomes pending with a count of 1, both indices, the
stamp and the detail of the occurrence, and joins the tail of the queue when its flag is on; a pending one counts up to 255 and
takes the latest index and the detail. No other source changes. -/
def Obligations.AnOccurrenceFoldsIntoItsRecord : Prop :=
  ∀ (src : Source) (index : Nat) (detail : List Byte) (s : State),
    let r := s.notices.sources[src]
    let t := raiseNotice src index detail s
    (r.pending = false →
      t = { s with notices := { s.notices with
        sources := s.notices.sources.set src ⟨true, 1, index, index, s.clock, detail⟩
        queue := if s.notices.mask.getLsbD src.val then s.notices.queue ++ [src] else s.notices.queue } }) ∧
    (r.pending = true →
      t = { s with notices := { s.notices with
        sources := s.notices.sources.set src
          { r with count := min 255 (r.count + 1), latest := index, detail := detail } } })

/-- NOTICE MASK (R191): a value with a flag beyond the 30 is refused FORM; any other becomes the mask in every run state; the
sources turned on while pending and not queued join the tail in ascending order, those turned off leave, and no record changes; the
mask holds every flag on after power-on and is kept by RESTART. -/
def Obligations.NoticeMaskSetsTheMask : Prop :=
  (∀ (tag : Byte) (mask : Word) (s : State), s.ready →
    (2 ^ 30 ≤ mask.toNat → exec (.noticeMask tag mask) s = .next (replied 0x21 tag .form [] (hunt s))) ∧
    (mask.toNat < 2 ^ 30 → ∃ joining : List Source,
      (∀ src, src ∈ joining ↔ s.notices.sources[src].pending = true ∧ s.notices.mask.getLsbD src.val = false ∧
        mask.getLsbD src.val = true ∧ src ∉ s.notices.queue) ∧
      joining.Pairwise (· < ·) ∧
      exec (.noticeMask tag mask) s = .next (replied 0x21 tag .done (u32 mask.toNat)
        { hunt s with notices := { s.notices with
          mask := mask.setWidth 30
          queue := (s.notices.queue.filter fun src => mask.getLsbD src.val) ++ joining } }))) ∧
  State.reset.notices.mask = BitVec.allOnes 30 ∧ (∀ s : State, s.restarted.notices.mask = s.notices.mask)

/-- NOTICE TAKE (R192): a number above 29 is refused FORM; in every run state, whatever the mask holds, the reply is DONE with the
record as it stands and its pending flag, and a pending source's record becomes clear and the source leaves the queue; else nothing
changes. When the sending of the notice is taken first, the record is clear as the take finds it. -/
def Obligations.NoticeTakeTakesTheRecord : Prop :=
  (∀ (tag n : Byte) (s : State), s.ready →
    (29 < n.toNat → exec (.noticeTake tag n) s = .next (replied 0x22 tag .form [] (hunt s))) ∧
    (∀ src : Source, src.val = n.toNat →
      (s.notices.sources[src].pending = true →
        exec (.noticeTake tag n) s = .next (replied 0x22 tag .done ([1] ++ recordFields s.notices.sources[src])
          { hunt s with notices := { s.notices with
            sources := s.notices.sources.set src .clear
            queue := s.notices.queue.filter fun x => decide (x ≠ src) } })) ∧
      (s.notices.sources[src].pending = false →
        (s.notices.Law → s.notices.sources[src] = .clear) ∧
        exec (.noticeTake tag n) s =
          .next (replied 0x22 tag .done ([0] ++ recordFields s.notices.sources[src]) (hunt s))))) ∧
  (∀ (src : Source) (s : State), (sendNotice src s).notices.sources[src] = .clear)

/-- A request that does not find the part ready is not lost to it while the buffer has room: it waits as its frame (R183, R184), while two
wait, or from the taking of a RESTART on, it is discarded without a reply (R183, R194), and so it is while the start-up store check runs
(R183). A request that is taken at once is taken as its frame would be, one whose body disagrees with its kind among them (R184, R201).
That a command stands for its frame is the model's choice (log entry 10). -/
def Obligations.ARequestWaitsAsItsFrame : Prop :=
  ∀ (i : Instr) (kind tag : Byte) (body : List Byte) (s : State), encodeRequest (offLine i) = some (kind, tag, body) →
    offLine i = i →
    (s.store.check = .running → exec i s = .next s) ∧
    (s.awake → s.link.restart = .none → s.link.sending ≠ none → Config.replyLimit ≤ s.link.replies.length →
      (s.link.buffer.length < 2 → exec i s = .next { s with link := { s.link with
        receiver := .hunting, byteTimer := none
        buffer := s.link.buffer ++ [⟨kind, tag, body, crcOf (covered kind tag body)⟩] } }) ∧
      (2 ≤ s.link.buffer.length →
        exec i s = .next { s with link := { s.link with receiver := .hunting, byteTimer := none } })) ∧
    (s.awake → s.link.restart ≠ .none →
      exec i s = .next (settle { s with link := { s.link with receiver := .hunting, byteTimer := none } })) ∧
    (s.ready → s.link.sending ≠ none → exec i s = exec (.frameComplete kind tag body (crcOf (covered kind tag body))) s)

/-! ### Queries and parameters -/

/-- QUERY STATE, QUERY HEAD and QUERY GAPS (R204): each answers DONE with the fields of its rules (R40, R58, R81, R105, R125, R140,
R197; R159, R178; R169) and changes nothing; a page above 3, or a head outside 1..12, is refused FORM. A head above HEADS is answered
like any other. The sync state stands first on page 0, as a named value, SYNCED 0 (R199), and no stop point is the cause 255 and the
index 16,777,215 (R199, R204); a stop point, a fault record, a needle change and a slot that are none take the none values of their fields, and 0 in a
field that has none (R204; the 0 is the model's, log entry 33). -/
def Obligations.QueriesChangeNothing : Prop :=
  (∀ (tag b : Byte) (s : State), s.ready →
    exec (.queryState tag 0) s = .next (replied 0x01 tag .done (shaftFields s ++ plannerFields s ++ frameFields s) (hunt s)) ∧
    exec (.queryState tag 1) s = .next (replied 0x01 tag .done (runFields s) (hunt s)) ∧
    exec (.queryState tag 2) s = .next (replied 0x01 tag .done (functionFields s) (hunt s)) ∧
    exec (.queryState tag 3) s = .next (replied 0x01 tag .done (needleFields s ++ linkFields s) (hunt s)) ∧
    (3 < b.toNat → exec (.queryState tag b) s = .next (replied 0x01 tag .form [] (hunt s))) ∧
    (∀ h : Head, b.toNat = h.val + 1 →
      exec (.queryHead tag b) s =
        .next (replied 0x02 tag .done (monitorFields (s.monitor h) ++ headFields s h) (hunt s)) ∧
      exec (.queryGaps tag b) s = .next (replied 0x03 tag .done
        (listBytes (fun g : Gap => u24 g.start ++ indexOrNone g.stop) (s.head h).gaps
          ++ flagByte (s.head h).closing ++ u24 s.store.retire ++ u24 s.store.cursor) (hunt s))) ∧
    (b.toNat = 0 ∨ 12 < b.toNat →
      exec (.queryHead tag b) s = .next (replied 0x02 tag .form [] (hunt s)) ∧
      exec (.queryGaps tag b) s = .next (replied 0x03 tag .form [] (hunt s)))) ∧
  (∀ s : State, (shaftFields s).head? = some (if s.shaft.synced then 0 else 1)) ∧
  (∀ s : State, s.planner.stopPoint = none → (plannerFields s).extract 7 13 = [255, 0, 255, 255, 255, 0]) ∧
  (∀ m : Monitor, m.fault = none →
    ∃ l, monitorFields m = l ++ [255, 255, 255, 255, 255, 255, 255, 0, 0, 255]) ∧
  (∀ s : State, s.needle.change = none → (needleFields s).extract 4 10 = [255, 0, 0, 0, 0, 0]) ∧
  (∀ s : State, s.run.slot = none → ∃ l r, runFields s = l ++ [255, 255, 0, 0, 0, 0] ++ r ∧
    r.length = 12)

/-- GET PARAM (R196): an identifier outside 1..50 is refused FORM; any other is answered DONE with the value as it stands, in every
run state, and nothing changes. SPEED_SET reads back as it was clamped, by SPEED and SET PARAM and by a change of its bounds. -/
def Obligations.GetParamReadsTheValue : Prop :=
  (∀ (tag id : Byte) (s : State), s.ready →
    (id.toNat < 1 ∨ 50 < id.toNat → exec (.getParam tag id) s = .next (replied 0x05 tag .form [] (hunt s))) ∧
    (∀ p : Param, p.ident = id.toNat →
      exec (.getParam tag id) s = .next (replied 0x05 tag .done (id :: i32 (s.par p)) (hunt s)))) ∧
  (∀ (v : Nat) (s : State), (setSpeed v s).par .speedSet = s.clampSpeed v) ∧
  (∀ (v : Int) (s : State), 0 ≤ v → (writeParam .speedSet v s).par .speedSet = s.clampSpeed v.toNat) ∧
  (∀ (p : Param) (v : Int) (s : State), p = .speedMin ∨ p = .speedTop → v ≠ s.par p →
    (writeParam p v s).par .speedSet = (s.setPar p v).clampSpeed (s.nat .speedSet))

/-- The checks of SET PARAM in their order (R195): FORM for an unknown identifier or a value outside the range; then STATE for an
"idle" parameter outside IDLE and a "stopped" one in RUNNING or STOPPING, and for either while the shaft is TURNING; then the checks of
the parameter's own chapter: STATE for a soft limit while a design is open (R5; that this comes before R206 is the model's choice, log entry 46), FORM for a value that puts a pair out of order (R57,
R206), BUSY for a pitch or a reference with a frame operation in the slot (R69) and for a HEADS below a head under test (R161). The
parameter is unchanged. -/
def Obligations.SetParamIsChecked : Prop :=
  ∀ (tag id : Byte) (value : Word) (s : State), s.ready →
    (id.toNat < 1 ∨ 50 < id.toNat → exec (.setParam tag id value) s = .next (replied 0x04 tag .form [] (hunt s))) ∧
    (∀ p : Param, p.ident = id.toNat →
      (value.toInt < p.row.lo ∨ p.row.hi < value.toInt →
        exec (.setParam tag id value) s = .next (replied 0x04 tag .form [] (hunt s))) ∧
      (p.row.lo ≤ value.toInt → value.toInt ≤ p.row.hi →
        let barred := (p.row.change = .idle ∧ (s.run.state ≠ .idle ∨ s.shaft.motion = .turning)) ∨
          (p.row.change = .stopped ∧ (s.inRun = true ∨ s.shaft.motion = .turning))
        let limit := p ∈ [.limitXMin, .limitXMax, .limitYMin, .limitYMax]
        (barred → exec (.setParam tag id value) s = .next (replied 0x04 tag .state [] (hunt s))) ∧
        (¬ barred → limit → s.store.isOpen = true →
          exec (.setParam tag id value) s = .next (replied 0x04 tag .state [] (hunt s))) ∧
        (¬ barred → (limit → s.store.isOpen = false) → ¬ s.PairsKept p value.toInt →
          exec (.setParam tag id value) s = .next (replied 0x04 tag .form [] (hunt s))) ∧
        (¬ barred → p ∈ [.pitchX, .pitchY, .refX, .refY] → s.FrameBusy →
          exec (.setParam tag id value) s = .next (replied 0x04 tag .busy [] (hunt s))) ∧
        (¬ barred → p = .heads → value.toInt < s.par .heads → s.TestedAbove value.toInt →
          exec (.setParam tag id value) s = .next (replied 0x04 tag .busy [] (hunt s)))))

/-- SET PARAM writes a parameter that the catalogue lets change and that no chapter adds a check or an effect to: it takes the value,
the reply carries it, and nothing else changes (R195). -/
def Obligations.SetParamWritesAPlainParameter : Prop :=
  ∀ (tag id : Byte) (value : Word) (s : State) (p : Param), s.ready → p.ident = id.toNat →
    p ∈ [.restAngle, .restTol, .brakeLead, .speedStart, .rampUp, .rampDown, .speedRepair, .backDwell, .histDepth, .lowMark,
      .colourDelay, .colourTrim, .needleTimeout, .needleSettle, .sampleAngle, .gateStart, .gateEnd, .pulseMin, .breakRun,
      .tenCount, .tenLow, .tenHigh, .holdoff, .bobbinWarn, .sensorIdleMax] →
    p.row.lo ≤ value.toInt → value.toInt ≤ p.row.hi →
    (p.row.change = .stopped → s.inRun = false ∧ s.shaft.motion = .stopped) →
    exec (.setParam tag id value) s = .next (replied 0x04 tag .done (id :: i32 value.toInt)
      { hunt s with params := s.params.set p.place value.toInt })

/-- What a change of a parameter does to the blocks, once the checks of R195 pass: ENC_COUNTS loses the sync (R26) and reads needle-down
(R32); PITCH_X, PITCH_Y, REF_X, REF_Y lose the reference (R69); WIN_START and WIN_END carry the needle flag with them (R32); SPEED_MIN and
SPEED_TOP clamp SPEED_SET again (R57); these, JUMP_WIDTH and SPEED_STOPENTRY rebuild the lookahead (R47); a lowered TEN_WINDOW shortens
the windows (R148); AUTO_RESUME and COLOUR_RESTART turned off end their wait (R99, R101); a lowered NEEDLES empties what lies above it
(R128); a lowered HEADS disables the heads above it and takes them out of gaps, channel sets, test loads and monitors (R161); a soft limit
or another paired parameter is written alone; and a value already held has no effect. A needle flag that a change of ENC_COUNTS, WIN_START
or WIN_END turns down acts on the work in progress (R32, R74, R80, R133 to R135, R137); a first move or the change of a start is never
among it, for these parameters are refused in a run. SPEED_SET is written as SPEED writes it, clamped, and the reply carries the clamped
value (R51); that it lowers the previous demand with a held demand too is the model's choice (log entry 55). An automatic start that falls
due as an operation so ended empties the slot (R99, R101) is left to AUTOMATIC_START, which is the model's reading (log entry 13,
DEDUCED). The model's choices: a settle timer runs on when NEEDLES is lowered (log entry 42), a lowered HEADS leaves the sew set of the
last turn as it stood (log entry 51), a late turn move is no work in progress (log entry 48), and the layout of an OP_DONE detail (log
entry 33). -/
def Obligations.SetParamHasItsEffects : Prop :=
  (∀ (tag id : Byte) (value : Word) (s : State), s.ready → id.toNat = Param.speedSet.ident → 0 ≤ value.toInt →
    value.toInt ≤ 65535 →
    let v : Nat := max (s.nat .speedMin) (min value.toNat (s.nat .speedTop))
    let s' := { hunt s with params := s.params.set Param.speedSet.place (v : Int) }
    let answered := fun t : State => exec (.setParam tag id value) s = .next (replied 0x04 tag .done (id :: i32 v) t)
    ((v : Int) = s.par .speedSet → answered (hunt s)) ∧
    ((v : Int) ≠ s.par .speedSet → s.inRun = false ∨ s.planner.demand ≤ v → answered (rebuild s')) ∧
    ((v : Int) ≠ s.par .speedSet → s.inRun = true → v < s.planner.demand → answered (rebuild { s' with
      planner := { s.planner with demand := v, prev := some v }
      shaft := { s.shaft with line := min s.shaft.line v } }))) ∧
  ∀ (tag id : Byte) (value : Word) (s : State) (p : Param), s.ready → p.ident = id.toNat → p.row.lo ≤ value.toInt →
    value.toInt ≤ p.row.hi →
    (p.row.change = .idle → s.run.state = .idle) → (p.row.change = .stopped → s.inRun = false) →
    (p.row.change ≠ .any → s.shaft.motion = .stopped) →
    (p ∈ [.limitXMin, .limitXMax, .limitYMin, .limitYMax] → s.store.isOpen = false) → s.PairsKept p value.toInt →
    (p ∈ [.pitchX, .pitchY, .refX, .refY] → ¬ s.FrameBusy) →
    (p = .heads → value.toInt < s.par .heads → ¬ s.TestedAbove value.toInt) →
    p ≠ .speedSet →
    ∃ t, exec (.setParam tag id value) s = .next (replied 0x04 tag .done (id :: i32 value.toInt) t) ∧
      let v := value.toInt
      let w := { hunt s with params := s.params.set p.place v }
      let still := s.frame.move = none ∧ s.frame.dwell = none ∧ s.needle.change = none
      (v = s.par p → t = hunt s) ∧
      (v ≠ s.par p →
        (p ∈ [.limitXMin, .limitXMax, .limitYMin, .limitYMax, .sensorRefLo, .sensorRefHi, .stallTime, .stopQuiet] → t = w) ∧
        (p = .encCounts → s.shaft.needleUp = false ∨ still →
          t = { w with shaft := { s.shaft with count := 0, synced := false, timedRev := false, needleUp := false } }) ∧
        (p = .encCounts → s.shaft.needleUp = true →
          State.FlagFalls { w with shaft := { s.shaft with count := 0, synced := false, timedRev := false, needleUp := false } }
            fun u => t = u) ∧
        (p = .winStart ∨ p = .winEnd → s.shaft.needleUp = false ∨ w.flagNow = true ∨ still →
          t = { rebuild w with shaft := { s.shaft with needleUp := w.flagNow } }) ∧
        (p = .winStart ∨ p = .winEnd → s.shaft.needleUp = true → w.flagNow = false →
          State.FlagFalls { rebuild w with shaft := { s.shaft with needleUp := false } } fun u => t = u) ∧
        (p = .refX ∨ p = .refY → t = { w with frame := { s.frame with ref := .unreferenced } }) ∧
        (p = .pitchX ∨ p = .pitchY → t = rebuild { w with frame := { s.frame with ref := .unreferenced } }) ∧
        (p = .jumpWidth ∨ p = .speedStopEntry → t = rebuild w) ∧
        (p = .speedMin ∨ p = .speedTop →
          let clamped : Nat := max (w.nat .speedMin) (min (s.nat .speedSet) (w.nat .speedTop))
          t = rebuild { w with params := w.params.set Param.speedSet.place (clamped : Int) }) ∧
        (p = .tenWindow → t = { w with thread := t.thread } ∧ t.thread.testLoad = s.thread.testLoad ∧
          t.thread.test = s.thread.test ∧
          ∀ h : Head, t.monitor h = { s.monitor h with
            window := if v < s.par p then (s.monitor h).window.drop ((s.monitor h).window.length - v.toNat)
              else (s.monitor h).window }) ∧
        (p = .autoResume ∨ p = .colourRestart →
          t = if v = 0 ∧ s.run.resume = some (if p = .autoResume then .data else .colour)
            then { w with run := { s.run with resume := none, colourTimer := .stopped } } else w) ∧
        (p = .needles → s.par p < v → t = w) ∧
        (p = .needles → v < s.par p →
          t = { w with needle := { s.needle with plan := t.needle.plan, settled := t.needle.settled } } ∧
          (∀ k : Fin 256, t.needle.plan[k] =
            (s.needle.plan[k] : Option Nat).filter fun n : Nat => decide ((n : Int) ≤ v)) ∧
          t.needle.settled = s.needle.settled.filter fun n : Nat => decide ((n : Int) ≤ v)) ∧
        (p = .heads → s.par p < v → t = w) ∧
        (p = .heads → v < s.par p →
          let kept : HeadSet := BitVec.ofNat 12 (2 ^ v.toNat - 1)
          (∀ h : Head, (h.val : Int) < v → t.head h = s.head h ∧ t.monitor h = s.monitor h) ∧
          (∀ h : Head, v ≤ (h.val : Int) →
            t.head h = ⟨.disabled, (s.head h).policy, false, none, [], false⟩ ∧
            (t.monitor h).gatherings = [] ∧ (t.monitor h).breakRun = 0 ∧ (t.monitor h).window = [] ∧
            (t.monitor h).stuckRun = 0 ∧ (t.monitor h).railRun = 0 ∧ (t.monitor h).holdCount = 0 ∧
            (t.monitor h).fault = none ∧ (t.monitor h).bobbin = none ∧ (t.monitor h).sensor = (s.monitor h).sensor ∧
            (t.monitor h).member = (s.monitor h).member) ∧
          (∀ c : Chan, t.func.channels[c] = { s.func.channels[c] with
            latch := s.func.channels[c].latch.map fun l => { l with heads := l.heads &&& kept }
            pulse := s.func.channels[c].pulse.map fun q => { q with heads := q.heads &&& kept } }) ∧
          t.thread.testLoad = s.thread.testLoad &&& kept ∧ t.thread.test = s.thread.test ∧
          t.store = (runRetention { s with table := t.table }).store ∧
          t.params = w.params ∧ t.shaft = s.shaft ∧ t.planner = s.planner ∧ t.frame = s.frame ∧ t.run = s.run ∧
          t.needle = s.needle ∧ t.notices = s.notices ∧ t.table.sewSet = s.table.sewSet ∧ t.table.engage = s.table.engage))

/-- SPEED (R51): in every run state the value, clamped to SPEED_MIN..SPEED_TOP, becomes SPEED_SET and is answered; below the demand of a
run it brings the planner's demand, the previous demand and the line down at once; the lookahead is rebuilt (R47) at a change. That the
previous demand comes down with a held demand too, which R51 says of a demand on the line, is the model's choice (log entry 55). -/
def Obligations.SpeedSetsTheOperatorsSpeed : Prop :=
  ∀ (tag : Byte) (value : Half) (s : State), s.ready →
    let v := s.clampSpeed value.toNat
    let s' := { hunt s with params := s.params.set Param.speedSet.place (v : Int) }
    v = max (s.nat .speedMin) (min value.toNat (s.nat .speedTop)) ∧
    ((v : Int) = s.par .speedSet → exec (.speed tag value) s = .next (replied 0x11 tag .done (u16 v) (hunt s))) ∧
    ((v : Int) ≠ s.par .speedSet → s.inRun = false ∨ s.planner.demand ≤ v →
      exec (.speed tag value) s = .next (replied 0x11 tag .done (u16 v) (rebuild s'))) ∧
    ((v : Int) ≠ s.par .speedSet → s.inRun = true → v < s.planner.demand →
      exec (.speed tag value) s = .next (replied 0x11 tag .done (u16 v) (rebuild { s' with
        planner := { s.planner with demand := v, prev := some v }
        shaft := { s.shaft with line := min s.shaft.line v } })))

/-! ### Tables, plan, map and channels -/

/-- LOAD TABLE (R42): sixteen points from (0, 0), steps rising strictly, times not falling, within their bounds, replace the whole
table of the axis, and the lookahead is rebuilt; points that break this are refused FORM, a run STATE, an operation BUSY. A number of
points other than sixteen is a body of the wrong length, and FORM in every state (R184, R201). That BUSY comes before the FORM of the
points is the model's choice (log entry 47). -/
def Obligations.LoadTableReplacesTheTable : Prop :=
  (∀ (tag axis : Byte) (points : List RawPoint) (s : State), s.ready → points.length ≠ 16 →
    exec (.loadTable tag axis points) s = .next (replied 0x06 tag .form [] (hunt s))) ∧
  ∀ (tag axis : Byte) (points : List RawPoint) (s : State), s.ready → points.length = 16 → axis.toNat ≤ 1 →
    let good := points.head? = some ⟨0, 0⟩ ∧
      points.Pairwise (fun a b => a.steps.toNat < b.steps.toNat ∧ a.time.toNat ≤ b.time.toNat) ∧
      ∀ p ∈ points, p.steps.toNat ≤ 32767 ∧ p.time.toNat ≤ 2000000
    let table := some (points.map fun p => (⟨p.steps.toNat, p.time.toNat⟩ : TablePoint))
    (s.inRun = true → exec (.loadTable tag axis points) s = .next (replied 0x06 tag .state [] (hunt s))) ∧
    (s.inRun = false → s.run.slot ≠ none → exec (.loadTable tag axis points) s = .next (replied 0x06 tag .busy [] (hunt s))) ∧
    (s.inRun = false → s.run.slot = none → ¬ good →
      exec (.loadTable tag axis points) s = .next (replied 0x06 tag .form [] (hunt s))) ∧
    (s.inRun = false → s.run.slot = none → good →
      exec (.loadTable tag axis points) s = .next (replied 0x06 tag .done [] (rebuild { hunt s with
        planner := if axis = 0 then { s.planner with tableX := table } else { s.planner with tableY := table } })))

/-- LOAD NEEDLE PLAN (R128): after its checks, the entries from the first step on take the values in order, 0 as empty, and no other
entry changes; the reply carries the count. -/
def Obligations.LoadNeedlePlanWritesItsSteps : Prop :=
  ∀ (tag first : Byte) (values : List Byte) (s : State), s.ready → values.length ≤ 248 →
    let bad := values.length < 1 ∨ 128 < values.length ∨ 256 < first.toNat + values.length ∨
      ∃ v ∈ values, s.nat .needles < v.toNat
    let current := first.toNat ≤ s.store.cursorColour ∧ s.store.cursorColour < first.toNat + values.length
    (bad → exec (.loadNeedlePlan tag first values) s = .next (replied 0x07 tag .form [] (hunt s))) ∧
    (¬ bad → s.inRun = true → current →
      exec (.loadNeedlePlan tag first values) s = .next (replied 0x07 tag .state [] (hunt s))) ∧
    (¬ bad → ¬ (s.inRun = true ∧ current) → ∃ plan : Vector (Option Nat) 256,
      (∀ k : Fin 256, plan[k] =
        if first.toNat ≤ k.val ∧ k.val < first.toNat + values.length then
          (match (values[k.val - first.toNat]?).getD 0 with
           | 0 => none
           | v => some v.toNat)
        else s.needle.plan[k]) ∧
      exec (.loadNeedlePlan tag first values) s =
        .next (replied 0x07 tag .done [BitVec.ofNat 8 values.length]
          { hunt s with needle := { s.needle with plan := plan } }))

/-- LOAD MAP ENTRY (R109): in every run state, a well-formed entry is written into the standby bank alone, which the reply names; a
malformed one is refused FORM. The code is never 0, so the null entry for code 0 stays (R108). An entry is malformed exactly when one
item of R109's list holds, or the slack flag is neither 0 nor 1 (R199); the fields of any other are read as R202 lays them out, the
speed and the count for SLOW alone. -/
def Obligations.LoadMapEntryWritesTheStandbyBank : Prop :=
  (∀ raw : RawEntry,
    let bad := fun a : RawAction =>
      11 < a.chan.toNat ∨ 2 < a.action.toNat ∨
      (a.action = 0 ∧ (3 < a.startRevs.toNat ∨ 359 < a.startAngle.toNat ∨ 15 < a.endRevs.toNat ∨ 359 < a.endAngle.toNat)) ∨
      (a.action ≠ 0 ∧ (a.startRevs ≠ 0 ∨ a.startAngle ≠ 0 ∨ a.endRevs ≠ 0 ∨ a.endAngle ≠ 0))
    (entryOf raw = none ↔ raw.code = 0 ∨ 63 < raw.code.toNat ∨ 2 < raw.effect.toNat ∨
      (raw.effect = 1 ∧ (raw.speed.toNat < 1 ∨ 1500 < raw.speed.toNat ∨ raw.count = 0)) ∨
      4 < raw.items.length ∨ (∃ a ∈ raw.items, bad a) ∨ 2 < raw.scope.toNat ∨ 1 < raw.slack.toNat) ∧
    ∀ (c : Code) (e : MapEntry), entryOf raw = some (c, e) →
      (raw.effect = 0 → e.effect = .none) ∧ (raw.effect = 1 → e.effect = .slow raw.speed.toNat raw.count.toNat) ∧
      (raw.effect = 2 → e.effect = .stopAfter) ∧
      (raw.scope = 0 → e.scope = .sewing) ∧ (raw.scope = 1 → e.scope = .enabled) ∧ (raw.scope = 2 → e.scope = .common) ∧
      (e.slack = true ↔ raw.slack = 1) ∧
      ∀ (k : Nat) (a : RawAction), raw.items[k]? = some a → ∃ x, e.actions[k]? = some x ∧ x.chan.val = a.chan.toNat ∧
        (a.action = 0 →
          x.act = .pulse a.startRevs.toNat a.startAngle.toNat a.endRevs.toNat a.endAngle.toNat) ∧
        (a.action = 1 → x.act = .set) ∧ (a.action = 2 → x.act = .clear)) ∧
  ∀ (tag : Byte) (raw : RawEntry) (s : State), s.ready → raw.items.length ≤ 30 →
    (entryOf raw = none → exec (.loadMapEntry tag raw) s = .next (replied 0x08 tag .form [] (hunt s))) ∧
    (∀ (c : Code) (e : MapEntry), entryOf raw = some (c, e) →
      c.val = raw.code.toNat ∧ c ≠ 0 ∧ e.actions.length = raw.items.length ∧ raw.items.length ≤ 4 ∧
      exec (.loadMapEntry tag raw) s = .next (replied 0x08 tag .done [if s.func.active = .a then 1 else 0]
        { hunt s with func :=
          (if s.func.active = .a then { s.func with bankB := s.func.bankB.set c e }
           else { s.func with bankA := s.func.bankA.set c e }) }))

/-- SWAP MAP (R110): refused STATE in RUNNING, in STOPPING and while the shaft is TURNING; else the banks change roles, the channels
stay, and the lookahead is rebuilt. -/
def Obligations.SwapMapExchangesTheBanks : Prop :=
  ∀ (tag : Byte) (s : State), s.ready →
    (s.inRun = true ∨ s.shaft.motion = .turning →
      exec (.swapMap tag) s = .next (replied 0x09 tag .state [] (hunt s))) ∧
    (s.inRun = false → s.shaft.motion = .stopped →
      exec (.swapMap tag) s = .next (replied 0x09 tag .done [if s.func.active = .a then 1 else 0]
        (rebuild { hunt s with func := { s.func with active := if s.func.active = .a then .b else .a } })))

/-- SET CHANNEL (R115): a field out of range is refused FORM, a run or a turning shaft STATE, the channel under test BUSY; else the
channel becomes IDLE and takes the new setup, and no other channel changes. -/
def Obligations.SetChannelMakesTheChannelIdle : Prop :=
  ∀ (tag chan type polarity : Byte) (s : State), s.ready →
    (11 < chan.toNat ∨ 1 < type.toNat ∨ 1 < polarity.toNat →
      exec (.setChannel tag chan type polarity) s = .next (replied 0x0A tag .form [] (hunt s))) ∧
    (∀ c : Chan, c.val = chan.toNat → type.toNat ≤ 1 → polarity.toNat ≤ 1 →
      (s.inRun = true ∨ s.shaft.motion = .turning →
        exec (.setChannel tag chan type polarity) s = .next (replied 0x0A tag .state [] (hunt s))) ∧
      (s.inRun = false → s.shaft.motion = .stopped → (∃ x, s.func.test = some x ∧ x.chan = c) →
        exec (.setChannel tag chan type polarity) s = .next (replied 0x0A tag .busy [] (hunt s))) ∧
      (s.inRun = false → s.shaft.motion = .stopped → (∀ x, s.func.test = some x → x.chan ≠ c) →
        exec (.setChannel tag chan type polarity) s = .next (replied 0x0A tag .done []
          { hunt s with func := { s.func with
            channels := s.func.channels.set c ⟨if type = 0 then .common else .perHead,
              if polarity = 0 then .activeHigh else .activeLow, none, none⟩ } })))


/-! ### The Design Store -/

/-- DESIGN OPEN (R4) and DESIGN DISCARD (R6): their refusals in order, and the empty store that each leaves, with the frame-out
offset (R78), the repair context, the armed design, the wait for DATA (R99), a pending inject (R104), the cap profile (R45) and
the stop point (R54) as the rules say. That a DESIGN DISCARD also ends a wait for COLOUR
and stops its timer is the model's choice (log entry 41), and so is the resume index 0 of the repair context (log entry 12). -/
def Obligations.DesignOpenAndDiscardEmptyTheStore : Prop :=
  (∀ (tag : Byte) (x y : Half) (s : State), s.ready →
    let good := s.par .limitXMin ≤ x.toInt ∧ x.toInt ≤ s.par .limitXMax ∧
      s.par .limitYMin ≤ y.toInt ∧ y.toInt ≤ s.par .limitYMax
    (s.run.state ≠ .idle → exec (.designOpen tag x y) s = .next (replied 0x0B tag .state [] (hunt s))) ∧
    (s.run.state = .idle → ¬ good → exec (.designOpen tag x y) s = .next (replied 0x0B tag .limit [] (hunt s))) ∧
    (s.run.state = .idle → good → ∃ t, exec (.designOpen tag x y) s = .next (replied 0x0B tag .done [] t) ∧
      s.Emptied t ∧ t.store = { Store.empty s.store.check with isOpen := true, origin := ⟨x.toInt, y.toInt⟩ } ∧
      t.run = { s.run with armed := false } ∧ t.frame = s.frame ∧ t.needle = s.needle ∧ t.notices = s.notices)) ∧
  (∀ (tag : Byte) (s : State), s.ready →
    (s.inRun = true ∨ s.run.state = .locked →
      exec (.designDiscard tag) s = .next (replied 0x0D tag .state [] (hunt s))) ∧
    (s.inRun = false → s.run.state ≠ .locked → s.run.slot ≠ none →
      exec (.designDiscard tag) s = .next (replied 0x0D tag .busy [] (hunt s))) ∧
    (s.inRun = false → s.run.state ≠ .locked → s.run.slot = none →
      ∃ t, exec (.designDiscard tag) s = .next (replied 0x0D tag .done [] t) ∧
      s.Emptied t ∧ t.store = .empty s.store.check ∧
      t.run = { s.run with
        repair := ⟨false, 0, 0⟩, armed := false, inject := none, resume := none, colourTimer := .stopped, state := .idle } ∧
      t.frame = { s.frame with offset := ⟨0, 0⟩ } ∧
      (s.run.state = .idle → t.notices = s.notices) ∧
      (s.run.state ≠ .idle →
        t.notices = (raiseNotice srcState 0 (stateDetail s.run.state .idle 0 none) s).notices)))

/-- LOAD (R7 to R9): a body too long for a frame is refused FORM with no payload (R184, R201); a bad count is refused FORM and a start
index other than fill SEQUENCE, with no record taken; else the records are taken in order up to the first that fails a check of R8, whose
status the reply carries with the count taken and fill after it. The records taken stand at the tail of the ring, and the fill position,
the fill colour step and END loaded follow them. The bytes of a record (R201) are malformed exactly where FORM of R8 says so, and the
checks on it come in the order of R8's table: STATE, FORM, FULL, and LIMIT for a turn record alone (R68). That a LOAD which meets the
condition of R99 leaves the start of a wait DATA to AUTOMATIC_START is the model's reading (log entry 13, DEDUCED). -/
def Obligations.LoadTakesRecordsInOrder : Prop :=
  (∀ kind c1 c2 : Byte,
    (recordOf kind c1 c2 = none ↔ kind.toNat < 1 ∨ 5 < kind.toNat ∨
      ((kind = 1 ∨ kind = 2) ∧ (c1.toInt = -128 ∨ c2.toInt = -128)) ∨
      (kind = 3 ∧ (63 < c1.toNat ∨ c2 ≠ 0)) ∨ ((kind = 4 ∨ kind = 5) ∧ (c1 ≠ 0 ∨ c2 ≠ 0))) ∧
    ∀ r, recordOf kind c1 c2 = some r →
      (kind = 1 → r = .stitch c1.toInt c2.toInt) ∧ (kind = 2 → r = .jump c1.toInt c2.toInt) ∧
      (kind = 3 → ∃ c : Code, r = .function c ∧ c.val = c1.toNat) ∧ (kind = 4 → r = .colour) ∧ (kind = 5 → r = .endRec)) ∧
  (∀ (raw : Option Rec) (s : State),
    let takes := s.store.isOpen = true ∧ s.store.endLoaded = false
    let formed := fun r : Rec => raw = some r ∧ (r = .colour → s.store.fillColour ≠ 255)
    let full := 65536 ≤ s.store.fill - s.store.retire ∨ s.store.fill = 16777215
    let inside := fun d : Pt =>
      let x := s.store.origin.x + s.store.fillPos.x + d.x
      let y := s.store.origin.y + s.store.fillPos.y + d.y
      s.par .limitXMin ≤ x ∧ x ≤ s.par .limitXMax ∧ s.par .limitYMin ≤ y ∧ y ≤ s.par .limitYMax
    (¬ takes → s.intakeCheck raw = some .state) ∧
    (takes → (∀ r, ¬ formed r) → s.intakeCheck raw = some .form) ∧
    (∀ r, takes → formed r → full → s.intakeCheck raw = some .full) ∧
    (∀ r, takes → formed r → ¬ full →
      (r.move = none → s.intakeCheck raw = none) ∧
      (∀ d, r.move = some d → inside d → s.intakeCheck raw = none) ∧
      (∀ d, r.move = some d → ¬ inside d → s.intakeCheck raw = some .limit))) ∧
  ∀ (tag : Byte) (start : Index3) (count : Byte) (items : List (Byte × Byte × Byte)) (s : State), s.ready →
    let data := items.flatMap fun i => [i.1, i.2.1, i.2.2]
    let after := fun l : List Rec => { s with store := l.foldl (fun st r => st.accept r) s.store }
    (82 < items.length → exec (.load tag start count data) s = .next (replied 0x0C tag .form [] (hunt s))) ∧
    (items.length ≤ 82 → count.toNat < 1 ∨ 82 < count.toNat ∨ items.length ≠ count.toNat →
      exec (.load tag start count data) s = .next (replied 0x0C tag .form ([0] ++ u24 s.store.fill) (hunt s))) ∧
    (1 ≤ count.toNat → count.toNat ≤ 82 → items.length = count.toNat → start.toNat ≠ s.store.fill →
      exec (.load tag start count data) s = .next (replied 0x0C tag .sequence ([0] ++ u24 s.store.fill) (hunt s))) ∧
    (1 ≤ count.toNat → count.toNat ≤ 82 → items.length = count.toNat → start.toNat = s.store.fill →
      ∃ (taken : List Rec) (st : Status) (t : State),
        exec (.load tag start count data) s =
          .next (replied 0x0C tag st (u8 taken.length ++ u24 (s.store.fill + taken.length)) t) ∧
        taken.length ≤ items.length ∧
        (∀ (k : Nat) (r : Rec), taken[k]? = some r → ∃ i, items[k]? = some i ∧ recordOf i.1 i.2.1 i.2.2 = some r ∧
          (after (taken.take k)).intakeCheck (some r) = none) ∧
        (taken.length = items.length ∧ st = .done ∨
          ∃ i, items[taken.length]? = some i ∧ (after taken).intakeCheck (recordOf i.1 i.2.1 i.2.2) = some st) ∧
        t.store = { s.store with
          records := s.store.records ++ taken
          fill := s.store.fill + taken.length
          fillPos := s.store.fillPos.add (travel taken)
          fillColour := s.store.fillColour + (taken.filter fun r => decide (r = .colour)).length
          endLoaded := s.store.endLoaded || taken.contains .endRec
          lowArmed := s.store.lowArmed ||
            (!taken.isEmpty && decide (s.nat .lowMark ≤ s.store.fill + taken.length - s.store.cursor)) } ∧
        t.params = s.params ∧ t.pins = s.pins ∧ t.shaft = s.shaft ∧ t.frame = s.frame ∧ t.run = s.run ∧ t.func = s.func ∧
        t.needle = s.needle ∧ t.thread = s.thread ∧ t.table = s.table ∧ t.notices = s.notices)

/-! ### Arming, starting, calling -/

/-- ARM (R85): its checks in order, the arm check of R56 last; an accepted ARM makes the run state READY and clears the report. The
arm check passes exactly when every item of R56 holds. -/
def Obligations.ArmMakesReady : Prop :=
  (∀ (tag : Byte) (s : State), s.ready →
    let may := s.run.state = .idle ∧ s.store.isOpen = true ∧ 0 < s.store.fill
    (¬ may → exec (.arm tag) s = .next (replied 0x0E tag .state [] (hunt s))) ∧
    (may → s.run.slot ≠ none → exec (.arm tag) s = .next (replied 0x0E tag .busy [] (hunt s))) ∧
    (∀ (st : Status) (item : Nat), may → s.run.slot = none → s.armCheck = some (st, some item) →
      exec (.arm tag) s = .next (replied 0x0E tag st [BitVec.ofNat 8 item] (hunt s))) ∧
    (∀ st : Status, may → s.run.slot = none → s.armCheck = some (st, none) →
      exec (.arm tag) s = .next (replied 0x0E tag st [] (hunt s))) ∧
    (may → s.run.slot = none → s.armCheck = none →
      exec (.arm tag) s = .next (replied 0x0E tag .done []
        (raiseNotice srcState s.store.cursor (stateDetail .idle .ready s.store.cursor none)
          { hunt s with run := { s.run with state := .ready, armed := true, report := .empty } })))) ∧
  (∀ s : State, s.armCheck = none ↔
    let mx := 127 * s.nat .pitchX / 10 + 1
    let my := 127 * s.nat .pitchY / 10 + 1
    let t := max ((moveTimeOn s.planner.tableX mx).getD 0) ((moveTimeOn s.planner.tableY my).getD 0)
    (s.planner.tableX ≠ none ∧ s.planner.tableY ≠ none ∧ mx ≤ lastSteps s.planner.tableX ∧ my ≤ lastSteps s.planner.tableY) ∧
    (90 ≤ s.windowWidth ∧ s.windowWidth ≤ 300 ∧ s.inWindow (s.nat .restAngle) = true) ∧
    (s.nat .speedMin ≤ s.nat .speedStart ∧ s.nat .speedStart ≤ s.nat .speedTop) ∧
    (t = 0 ∨ s.nat .speedMin ≤ s.windowWidth * 500000 / (3 * t)) ∧
    (t = 0 ∨ s.nat .speedMin ≤ s.nat .jumpWidth * 500000 / (3 * t)) ∧
    s.nat .speedTop ≤ s.nat .speedStopEntry + 47 * s.nat .rampDown ∧
    s.nat .tenCount ≤ s.nat .tenWindow ∧
    s.frame.ref = .referenced)

/-- START and the automatic start (R86 to R88, R99 to R101, R127, R136, R155): with every check passed a run begins with the first
preparatory step that is needed, the return move, the sensor test or the needle change, and with none needed it makes its first call
at once. A start that fails a check is refused with the item or head named, and an automatic one leaves HALTED and raises STATE
(R100). The colour delay timer's expiry makes the automatic start of a wait that is still COLOUR (R97, R101). The eight checks of R86,
in their order: none fails exactly when each is passed, and the first that fails names its status and its head. The model's choices:
AUTOMATIC_START does nothing unless such a start is due (log entries 11 and 13), a refusal that names no item gives 0 in its notice
(log entry 36), a run that has not started one has the host as its starter (log entry 12), and a late turn move still in progress
completes before the return move begins (log entry 48). -/
def Obligations.StartTakesItsFirstStep : Prop :=
  let returns := fun s : State => s.frame.offset ≠ .zero ∧ s.settledFrame.coord ≠ s.designPoint
  let tests := fun s : State => s.frame.offset = .zero ∧ s.untested ≠ 0
  let changes := fun s : State =>
    s.frame.offset = .zero ∧ s.untested = 0 ∧ ∃ n, s.planNeedle = some n ∧ s.needle.settled ≠ some n
  let calls := fun s : State =>
    s.frame.offset = .zero ∧ s.untested = 0 ∧ ∀ n, s.planNeedle = some n → s.needle.settled = some n
  let begins := fun (who : Starter) (tension : List (BitVec 10)) (s t : State) =>
    s.Begun who t ∧ t.pins = (setTension tension s).pins ∧
    (returns s → t.run.work = some .returnMove ∧ t.thread.test = s.thread.test ∧ t.needle = s.needle ∧
      ∃ m, t.frame = s.settledFrame.lay m ∧
        s.LaysChunk .returnMove s.settledFrame.coord s.designPoint m ∧ m.turn = none ∧ m.abort = none) ∧
    (tests s → t.run.work = some .sensorTest ∧ t.frame = s.frame ∧ t.needle = s.needle ∧
      t.thread.testLoad = s.untested ∧ t.thread.test = some ⟨s.untested, t.pins.tension, 50⟩) ∧
    (changes s → t.run.work = some .needle ∧ t.frame = s.frame ∧ t.thread.test = s.thread.test ∧
      ∃ n, s.planNeedle = some n ∧ t.needle = { s.needle with
        target := n, request := true, watch := none
        change := some ⟨.start, n, who, s.nat .needleTimeout, s.nat .needleTimeout, s.clock⟩ }) ∧
    (calls s → t.run.work = none ∧ t.frame = s.frame ∧ t.needle = s.needle ∧ t.thread.test = s.thread.test)
  (∀ (tag : Byte) (tension : List (BitVec 10)) (s : State), s.ready →
    (∀ r, s.startCheck = some r →
      exec (.start tag tension) s = .next (replied 0x0F tag r.1 (r.2.elim [] fun n => [BitVec.ofNat 8 n])
        (hunt (setTension tension s)))) ∧
    (s.startCheck = none → returns s ∨ tests s ∨ changes s →
      ∃ t, exec (.start tag tension) s = .next (replied 0x0F tag .done [] t) ∧ begins .host tension s t) ∧
    (s.startCheck = none → calls s →
      ∃ t, begins .host tension s t ∧ exec (.start tag tension) s = .next (replied 0x0F tag .done [] (call .nothing t)))) ∧
  (∀ (tension : List (BitVec 10)) (s : State), s.awake →
    (s.startsItself = true → s.startCheck = none → returns s ∨ tests s ∨ changes s →
      ∃ t, exec (.automaticStart tension) s = .next (settle t) ∧ begins .part tension s t) ∧
    (s.startsItself = true → s.startCheck = none → calls s →
      ∃ t, begins .part tension s t ∧ exec (.automaticStart tension) s = .next (settle (call .nothing t))) ∧
    (∀ r, s.startsItself = true → s.startCheck = some r →
      exec (.automaticStart tension) s = .next (settle
        (raiseNotice srcState s.store.cursor
          (stateDetail s.run.state s.run.state s.store.cursor (some (r.1, r.2.getD 0)))
          { setTension tension s with run := { s.run with resume := none, colourTimer := .stopped } }))) ∧
    (s.startsItself = false → exec (.automaticStart tension) s = .next (settle (setTension tension s)))) ∧
  (∀ s : State, s.awake → ∀ ms, s.run.colourTimer = .running ms → s.run.resume = some .colour → s.run.slot = none →
    exec .colourDelayExpiry s =
      exec (.automaticStart []) { s with run := { s.run with colourTimer := .expired } }) ∧
  (∀ s : State,
    let state := s.run.state = .ready ∨ s.run.state = .halted
    let stands := s.shaft.motion = .stopped ∧ s.shaft.needleUp = true
    let goesOn := ¬ (s.store.endLoaded = true ∧ s.store.cursor = s.store.fill)
    let faulted := fun h : Head => s.fitted h = true ∧ (s.head h).state = .faulted
    let failed := fun h : Head => s.fitted h = true ∧ (s.head h).state = .active ∧ (s.monitor h).sensor = .failed
    let drive := s.pins.driveReady = true ∧ s.pins.driveFault = false
    let first := state ∧ s.run.slot = none ∧ stands ∧ goesOn
    (s.startCheck = none ↔
      first ∧ (∀ h, ¬ faulted h) ∧ (∀ h, ¬ failed h) ∧ drive ∧ s.armCheck = none) ∧
    (¬ state → s.startCheck = some (.state, none)) ∧
    (state → s.run.slot ≠ none → s.startCheck = some (.busy, none)) ∧
    (state → s.run.slot = none → ¬ stands ∨ ¬ goesOn → s.startCheck = some (.state, none)) ∧
    (∀ h : Head, first → faulted h → (∀ k : Head, k < h → ¬ faulted k) →
      s.startCheck = some (.faulted, some (h.val + 1))) ∧
    (∀ h : Head, first → (∀ k, ¬ faulted k) → failed h → (∀ k : Head, k < h → ¬ failed k) →
      s.startCheck = some (.faulted, some (h.val + 1))) ∧
    (first → (∀ h, ¬ faulted h) → (∀ h, ¬ failed h) → ¬ drive → s.startCheck = some (.faulted, some 0)) ∧
    (first → (∀ h, ¬ faulted h) → (∀ h, ¬ failed h) → drive → s.startCheck = s.armCheck))

/-- A call (R10, R11, R89, R90) and the ENCODER_COUNT that brings it. A turn is issued only on the plan's needle, below the stop point;
the cursor moves past the records issued, and STORE_LOW is raised once when fewer than LOW_MARK are left (R20). In SEWING a count that
reaches window-start alone completes the outstanding turn and calls, in the order given (R18, R28); the state after the completion is
`completed`. Retention raises retire to the least of the cursor less HIST_DEPTH, the lowest gap start and the cursor, frees the records
below, and changes nothing else (R18). A turn issued (R12) becomes outstanding, forms and engages its sew set (R163, R164, R173), opens
gatherings (R143), sets the demand (R49), ends a repair it goes past (R176), and has its functions carried out (R111, R112, R117, R119,
R120, R150). In SEWING the demand is on the line and the turn's move begins with its late watch (R64), with the shaft STOPPED too (log
entry 60); a turn move still in progress, after a reversal over the mark, completes first (log entry 48): both DESIGN CHOICE. At the first
call, in STARTING, the demand is held with SPEED_START as its ramp and the first move is laid out, after a late turn move (log entry 48)
(R50, R66, R87); a frame at the target already makes the phase SEWING at once, and needle-down is the cause MOVE_LATE (R88). There no
inject of effect STOP_AFTER waits and, in repair, no gap list is full. A stop answer names its cause and index (R10, R11; the index of END
at no record, and of DATA, are log entry 23) and ends the calls: BRAKING, no needle engaged, demand 0, a brake order at the brake mark
(R52, R90, R164); with a COLOUR record it trims the last turn's sew set (R114). The model's choices: an order that names no taker means
completion, retention, call (log entry 4), the heads complete a turn in ascending order (log entry 44), by the selection before the call
(log entry 58); an ended repair leaves the resume index 0 (log entry 12). -/
def Obligations.ACallAdvancesTheCursor : Prop :=
  (∀ (s : State) (records : List (Nat × Rec)) (i : Nat) (r : Rec), s.callOutcome = .turn records i r →
    records <+: s.store.pendingRecords ∧ (∃ n, s.planNeedle = some n ∧ s.needle.settled = some n) ∧
    s.planner.stopsAt i = false ∧ r.move.isSome = true ∧
    ∃ zero, records = zero ++ [(i, r)] ∧ ∀ p ∈ zero, p.2.move = none ∧ s.func.stopType p.2 = none) ∧
  (∀ (s : State) (records : List (Nat × Rec)) (c : Cause) (i : Nat) (again : Bool),
    s.callOutcome = .stop records c i again →
    records <+: s.store.pendingRecords ∧ (∀ p ∈ records, p.2.move = none) ∧
    (again = true → records = [] ∧ i = s.store.cursor ∧ s.planner.stopPoint.map StopPoint.cause = some c) ∧
    (again = false →
      (s.planNeedle = none ∧ records = [] ∧ c = .needlePlan ∧ i = s.store.cursor) ∨
      (s.planNeedle ≠ none ∧ s.planNeedle ≠ s.needle.settled ∧ records = [] ∧ c = .needleLost ∧ i = s.store.cursor) ∨
      (s.planNeedle ≠ none ∧ s.planNeedle = s.needle.settled ∧
        ∃ p, records.getLast? = some p ∧ s.func.stopType p.2 = some c ∧ i = p.1) ∨
      (s.planNeedle ≠ none ∧ s.planNeedle = s.needle.settled ∧ (∀ p ∈ records, s.func.stopType p.2 = none) ∧
        records = s.store.pendingRecords ∧ c = (if s.store.endLoaded then .endRec else .data) ∧
        i = (if s.store.endLoaded then s.store.fill - 1 else s.store.fill)))) ∧
  (∀ (come : StillToCome) (s : State), ∃ records : List (Nat × Rec),
    ((∃ i r, s.callOutcome = .turn records i r) ∨ (∃ c i again, s.callOutcome = .stop records c i again)) ∧
    let t := call come s
    (t.store.cursor = match records.getLast? with
      | some p => p.1 + 1
      | none => s.store.cursor) ∧
    t.store.cursorPos = s.store.cursorPos.add (travel (records.map Prod.snd)) ∧
    t.store.cursorColour = s.store.cursorColour + (records.filter fun p => decide (p.2 = .colour)).length ∧
    t.store.fill = s.store.fill ∧ t.store.fillPos = s.store.fillPos ∧ t.store.origin = s.store.origin ∧
    t.store.endLoaded = s.store.endLoaded ∧ t.store.isOpen = s.store.isOpen ∧
    let left := s.store.fill - t.store.cursor
    let low := s.store.isOpen = true ∧ s.store.endLoaded = false ∧ left < s.nat .lowMark ∧ s.store.lowArmed = true
    (low → t.store.lowArmed = false ∧ t.notices.sources[srcStoreLow] =
      (raiseNotice srcStoreLow t.store.cursor (u16 left) s).notices.sources[srcStoreLow]) ∧
    (¬ low → t.store.lowArmed = s.store.lowArmed ∧
      t.notices.sources[srcStoreLow] = s.notices.sources[srcStoreLow])) ∧
  (∀ s : State,
    let t := runRetention s
    let back := s.store.cursor - s.nat .histDepth
    t = { s with store := { s.store with
      retire := t.store.retire, records := s.store.records.drop (t.store.retire - s.store.retire) } } ∧
    s.store.retire ≤ t.store.retire ∧
    (t.store.retire = s.store.retire ∨
      (t.store.retire ≤ back ∧ ∀ h : Head, ∀ g ∈ (s.head h).gaps, t.store.retire ≤ g.start)) ∧
    (back ≤ t.store.retire ∨ ∃ h : Head, ∃ g ∈ (s.head h).gaps, g.start ≤ t.store.retire)) ∧
  (∀ (tension : List (BitVec 10)) (x : Turn) (s : State), s.NearsWindowStart → s.run.phase = some .sewing →
    s.run.outstanding = some x →
    exec (.encoderCount .forward tension []) s = .next (settle (call .nothing (s.completed tension x))) ∧
    exec (.encoderCount .forward tension [.overrun, .call]) s = .next (settle (runRetention
      (completeAtHeads x s.judged allHeads (call ⟨some x.index, []⟩ (s.arrived tension))))) ∧
    ((∀ (h : Head) (g : Gathering), g ∈ (s.monitor h).gatherings → g.turn ≠ x.index) → s.run.repair.active = false →
      s.completed tension x = runRetention (s.arrived tension))) ∧
  (∀ (come : StillToCome) (s : State) (records : List (Nat × Rec)) (i : Nat) (r : Rec) (d : Pt),
    let first := s.run.phase = some .starting ∧ s.run.state = .running ∧ s.run.work = none ∧
      (∀ c, s.run.inject = some c → (s.func.entry c).effect ≠ .stopAfter) ∧
      (s.run.repair.active = true → ∀ h : Head, (s.head h).gaps.length < 8)
    let goes := (s.inRun = true ∧ s.run.phase = some .sewing) ∨ (first ∧ s.shaft.needleUp = true)
    s.callOutcome = .turn records i r → r.move = some d →
    let t := call come s
    let codes := s.run.inject.toList ++ functionCodes records
    let repairs := s.run.repair.active = true ∧ ∀ p ∈ records, p.1 < s.run.repair.resume
    let target := s.designPoint.add d
    let l := s.stepsBetween s.settledFrame.coord target
    let m : Move := ⟨.turnMove, target, target, l.1, l.2, some i, r.isJump, none⟩
    (goes → t.run.outstanding = some ⟨i, r.isJump, t.table.sewSet⟩ ∧ t.run.inject = none ∧
    t.table.sewTurn = some i ∧ t.table.engage = t.table.sewSet ∧
    (r.isJump = true → t.table.sewSet = 0) ∧
    (r.isJump = false → s.run.repair.active = false → ∀ h : Head,
      (inSet t.table.sewSet h = true ↔ s.fitted h = true ∧ (s.head h).state = .active)) ∧
    (r.isJump = false → repairs → ∀ h : Head,
      (inSet t.table.sewSet h = true ↔ s.fitted h = true ∧ (s.head h).state = .active ∧
        inSet s.run.repair.selection h = true ∧ repairPoint s.store.held (s.head h).gaps come.turn = some i)) ∧
    (repairs → t.run.repair = s.run.repair) ∧
    (s.run.repair.active = true → ¬ repairs → t.run.repair = ⟨false, 0, 0⟩) ∧
    (∀ h : Head,
      (t.monitor h).member = (if r.isJump then (s.monitor h).member else inSet t.table.sewSet h) ∧
      (t.monitor h).gatherings = (s.monitor h).gatherings ++
        (if r.isJump = false ∧ inSet t.table.sewSet h = true then [⟨i, 0, .notYet, none⟩] else []) ∧
      (r.isJump = false → (s.monitor h).member = false → inSet t.table.sewSet h = true →
        (t.monitor h).holdCount = s.nat .holdoff ∧ (t.monitor h).holdFrom = i) ∧
      (r.isJump = false → (s.monitor h).member ≠ inSet t.table.sewSet h →
        (t.monitor h).breakRun = 0 ∧ (t.monitor h).window = [] ∧ (t.monitor h).stuckRun = 0 ∧ (t.monitor h).railRun = 0)) ∧
    (∀ a, repairs ∨ s.run.repair.active = false →
      allowedSpeed (s.nat .rampDown) (enterAll codes s).freshLookahead = some a →
      let ramp := if s.run.phase = some .starting then s.nat .speedStart
        else (s.planner.prev.map fun v => v + s.nat .rampUp).getD (s.nat .speedStart)
      t.planner.demand = min (min (s.nat .speedSet) (min a ramp))
        (if s.run.repair.active then s.nat .speedRepair else s.nat .speedSet) ∧
      t.planner.prev = some t.planner.demand) ∧
    t.planner.caps = (enterAll codes s).planner.caps.tail) ∧
    (s.inRun = true → s.run.phase = some .sewing → t.run.phase = some .sewing ∧ t.planner.held = false ∧
      (s.link.restart = .none → 0 < t.planner.demand → t.shaft.line = t.planner.demand) ∧
      (l = (0, 0) → t.frame = { s.settledFrame with coord := target, move := none, late := none }) ∧
      (l ≠ (0, 0) → t.frame = { s.settledFrame.lay m with late := some (if r.isJump then .jumpEnd else .windowEnd) })) ∧
    (first → s.shaft.needleUp = true → t.run.state = .running ∧
      (s.settledFrame.coord ≠ target → t.run.phase = some .starting ∧ t.run.work = some .firstMove ∧
        t.planner.held = true ∧ t.shaft = s.shaft ∧
        ∃ m, t.frame = s.settledFrame.lay m ∧ s.LaysChunk .firstMove s.settledFrame.coord target m ∧
          m.turn = some i ∧ m.abort = none) ∧
      (s.settledFrame.coord = target → t.run.phase = some .sewing ∧ t.run.work = none ∧ t.planner.held = false ∧
        t.frame = s.settledFrame ∧
        (s.link.restart = .none → 0 < t.planner.demand → s.shaft.line = 0 →
          t.shaft = { s.shaft with line := t.planner.demand, brake := false, stall := some 0 }))) ∧
    (first → s.shaft.needleUp = false → s.shaft.motion = .stopped → t.run.state = .halted ∧ t.run.phase = none ∧
      t.run.report.primary = some ⟨.moveLate, i, s.clock⟩ ∧ t.run.report.kind = some .quick ∧
      t.run.report.incomplete = some i ∧ t.run.outstanding = none ∧ t.planner.demand = 0 ∧ t.shaft.line = 0 ∧
      t.shaft.brake = true ∧ t.frame = s.frame)) ∧
  (∀ (turn : Option Nat) (s : State) (k : Nat) (code : Code) (i : Nat) (r : Rec) (c : Chan) (act : Act) (a0 : Nat) (hs : HeadSet)
    (common : Bool),
    s.inRun = true → s.run.phase = some .sewing → s.callOutcome = .turn [(k, .function code), (i, r)] i r →
    s.run.inject = none → (s.func.entry code).actions = [⟨c, act⟩] → s.angle = some a0 →
    let t := call ⟨turn, []⟩ s
    ((hs, common) = match (s.func.entry code).scope with
      | .sewing => (t.table.sewSet, false)
      | .enabled => (headsWhere fun h => s.fitted h && decide ((s.head h).state ≠ .disabled), false)
      | .common => (headsWhere s.fitted, true)) → s.run.repair.active = false →
    (∀ o : Chan, o ≠ c → t.func.channels[o] = s.func.channels[o]) ∧
    Channel.Takes a0 act hs common s.func.channels[c] t.func.channels[c] ∧
    ((s.func.entry code).slack = true → ∀ h : Head, inSet t.table.sewSet h = true →
      (t.monitor h).holdCount = s.nat .holdoff ∧ (t.monitor h).holdFrom = i)) ∧
  (∀ (turn : Option Nat) (s : State) (k i : Nat),
    s.inRun = true → s.run.phase = some .sewing → s.run.repair.active = false → s.shaft.motion = .turning →
    s.shaft.quiet < s.nat .stopQuiet → s.callOutcome = .stop [(k, .colour)] .colour i false →
    let t := call ⟨turn, []⟩ s
    t.planner.caps = s.planner.caps ∧ t.planner.stopPoint = s.planner.stopPoint ∧
    (s.nat .colourTrim = 0 → t.func = s.func ∧ t.thread = s.thread) ∧
    (∀ (code : Code) (c : Chan) (act : Act) (a0 : Nat) (hs : HeadSet) (common : Bool),
      s.nat .colourTrim = code.val → code ≠ 0 → (s.func.entry code).actions = [⟨c, act⟩] → s.angle = some a0 →
      ((hs, common) = match (s.func.entry code).scope with
        | .sewing => (s.table.sewSet, false)
        | .enabled => (headsWhere fun h => s.fitted h && decide ((s.head h).state ≠ .disabled), false)
        | .common => (headsWhere s.fitted, true)) →
      (∀ o : Chan, o ≠ c → t.func.channels[o] = s.func.channels[o]) ∧
      Channel.Takes a0 act hs common s.func.channels[c] t.func.channels[c] ∧
      ((s.func.entry code).slack = false → t.thread = s.thread) ∧
      (∀ j, (s.func.entry code).slack = true → s.table.sewTurn = some j → ∀ h : Head,
        if inSet s.table.sewSet h = true then
          (t.monitor h).holdCount = s.nat .holdoff ∧ (t.monitor h).holdFrom = j
        else t.monitor h = s.monitor h))) ∧
  (∀ (come : StillToCome) (s : State) (records : List (Nat × Rec)) (c : Cause) (i : Nat) (again : Bool),
    s.inRun = true → s.run.phase = some .sewing → s.run.repair.active = false → s.shaft.motion = .turning →
    s.shaft.quiet < s.nat .stopQuiet → s.callOutcome = .stop records c i again →
    let t := call come s
    t.run.phase = some .braking ∧ t.run.inject = none ∧ t.run.outstanding = s.run.outstanding ∧
    t.table.engage = 0 ∧ t.table.sewSet = s.table.sewSet ∧ t.planner.demand = 0 ∧
    t.shaft = { s.shaft with line := 0, stall := none, waiting := s.shaft.waiting.or (some .atBrakeMark) } ∧
    t.frame = s.frame ∧
    (again = true → t.planner.stopPoint = none ∧ t.run.report.primary = s.run.report.primary ∧
      t.run.report.secondary = s.run.report.secondary ∧ t.run.kind = s.run.kind) ∧
    (again = false → s.run.state = .running → t.run.state = .stopping ∧ t.run.kind = some c.kind ∧
      t.run.report.primary = some ⟨c, i, s.clock⟩))

/-! ### STOP, INJECT, CLEAR -/

/-- STOP (R97) by the run state: nothing in STOPPING and LOCKED; in IDLE, READY and HALTED the waits end and the operation in the slot
is aborted (R103): NEEDLE UP brakes and its end follows (R39), a move ends its operation when it completes (R74, R80), a dwell, a needle
change and a test end at once ABORTED, with the detail word STOPPED for a change (R80, R124, R133, R154). In RUNNING and SEWING the
cause OPERATOR is taken: STOPPING, CONTROLLED, the demand as it was, and a stop point (R53, R93): its last turn is the turn at position
p of the list, the last one of a shorter list, the turn issued last when the list is empty or a LOAD of the same millisecond ended an
empty list (R55; that millisecond is the model's, log entry 45); a standing stop point stays unless the new one is nearer. In RUNNING and
STARTING the start ends (R88): the brake order finds the shaft at rest, the work in progress goes on to its end, a return move with its
chunk, or with a needle change, which ends at once, the stop ends in HALTED (R96, R133, R136). A late turn move, which log entry 48 lets
stand in HALTED, is no move of the operation. INJECT (R104): its refusals, and the code as the pending inject. The layout of an OP_DONE detail is log entry 33, and the none values of an
aborted SENSOR TEST and the elapsed time of an aborted CHANNEL TEST in it are log entry 35. -/
def Obligations.StopAndInjectActByRunState : Prop :=
  (∀ (tag : Byte) (s : State), s.ready →
    (s.run.state = .stopping ∨ s.run.state = .locked → exec (.stop tag) s = .next (replied 0x10 tag .done [] (hunt s))) ∧
    (s.run.state = .idle ∨ s.run.state = .ready ∨ s.run.state = .halted → s.run.slot = none →
      exec (.stop tag) s = .next (replied 0x10 tag .done []
        { hunt s with run := { s.run with resume := none, colourTimer := .stopped } })) ∧
    (∀ op : Op, s.run.state = .idle ∨ s.run.state = .ready ∨ s.run.state = .halted → s.run.slot = some op →
      let q := { hunt s with run := { s.run with resume := none, colourTimer := .stopped } }
      let done := fun t : State => exec (.stop tag) s = .next (replied 0x10 tag .done [] t)
      let ended := fun (detail : List Byte) (t : State) =>
        raiseNotice srcOpDone s.store.cursor (u8 op.kind.value ++ u8 op.starter.value ++ [2] ++ detail)
          { t with run := { t.run with slot := none } }
      let stepwise := op.kind = .backtrack ∨ op.kind = .repair ∨ op.kind = .repairAbandon
      (op.kind = .needleUp → s.shaft.motion = .turning → s.shaft.quiet < s.nat .stopQuiet → s.shaft.brake = false →
        done { q with
          run := { q.run with slot := some { op with aborted := true } }
          shaft := { s.shaft with
            line := 0, stall := none, brake := true, waiting := none, counting := true, overrun := 0 } }) ∧
      (∀ m, op.kind = .home ∨ op.kind = .frameOut ∨ op.kind = .frameReturn ∨ (stepwise ∧ s.needle.change = none) →
        s.frame.move = some m → m.purpose ≠ .turnMove →
        done { q with frame := { s.frame with move := some { m with abort := m.abort.or (some .stop) } } }) ∧
      (stepwise → s.needle.change = none → s.frame.ownMove = none →
        done (ended [0, 0, 0, 0, 0, 0, 0, 0, 0] { q with frame := { s.frame with dwell := none } })) ∧
      (∀ c, s.needle.change = some c →
        let u := { q with needle := { s.needle with request := false, change := none } }
        let target := u8 c.target ++ byteOrNone s.needle.settled ++ u32 (s.clock - c.stamp).toNat
        (op.kind = .needleSelect ∧ c.purpose = .select ∨ op.kind = .colourChange ∧ c.purpose = .colour →
          done (ended (u8 s.store.cursorColour ++ target ++ [1, 1]) u)) ∧
        (stepwise → c.purpose = .landing → done (ended ([1] ++ target ++ [1, 1]) u))) ∧
      (∀ x, op.kind = .sensorTest → s.thread.test = some x →
        let listed := allHeads.filter fun h => inSet x.heads h
        done (ended (u8 listed.length ++ listed.flatMap fun h : Head => [255] ++ u16 x.idle[h].toNat ++ [255, 255])
          { q with thread := { s.thread with testLoad := 0, test := none } })) ∧
      (∀ x, op.kind = .channelTest → s.func.test = some x →
        done (ended (u8 x.chan.val ++ u16 x.heads.toNat ++ u32 (x.duration - x.left)) { q with
          func := { s.func with
            test := none
            channels := s.func.channels.set x.chan { s.func.channels[x.chan] with pulse := none } } }))) ∧
    (s.run.state = .running → s.run.phase = some .sewing →
      ∃ t, exec (.stop tag) s = .next (replied 0x10 tag .done [] t) ∧
        t.run = { s.run with
          state := .stopping, kind := some .controlled
          report := { s.run.report with primary := some ⟨.operator, s.store.cursor, s.clock⟩ } } ∧
        (∃ last : Option Nat,
          (s.planner.freshAt = some s.clock ∨ s.planner.lookahead = [] → last = s.table.sewTurn) ∧
          (s.planner.freshAt ≠ some s.clock → ∀ (p : Nat) (l : Entry), 0 < s.nat .rampDown →
            s.planner.demand ≤ s.nat .speedStopEntry + p * s.nat .rampDown →
            (0 < p → s.nat .speedStopEntry + (p - 1) * s.nat .rampDown < s.planner.demand) →
            s.planner.lookahead.getLast? = some l → last = some ((s.planner.lookahead[p]?).getD l).index) ∧
          (s.planner.stopPoint = none → t.planner.stopPoint = some ⟨.operator, last⟩) ∧
          (∀ old j k, s.planner.stopPoint = some old → old.last = some k → last = some j →
            t.planner.stopPoint = some (if j < k then ⟨.operator, some j⟩ else old))) ∧
        t.planner.demand = s.planner.demand ∧
        t.notices = (raiseNotice srcState s.store.cursor (stateDetail .running .stopping s.store.cursor none) s).notices ∧
        t.params = s.params ∧ t.store = s.store ∧ t.shaft = s.shaft ∧ t.frame = s.frame ∧ t.func = s.func ∧
        t.needle = s.needle ∧ t.thread = s.thread ∧ t.table = s.table) ∧
    (s.run.state = .running → s.run.phase = some .starting → s.shaft.motion = .stopped →
      let braked := { s.shaft with
        line := 0, stall := none, brake := true, waiting := none
        counting := s.shaft.brake && s.shaft.counting, overrun := if s.shaft.brake then s.shaft.overrun else 0 }
      let taken := { s.run.report with primary := some ⟨.operator, s.store.cursor, s.clock⟩ }
      let stands := fun t : State => t.shaft = braked ∧ t.planner.demand = 0 ∧ t.planner.held = false ∧
        (∀ k : Chan, t.func.channels[k] = { s.func.channels[k] with pulse := none }) ∧ t.params = s.params ∧
        t.store.cursor = s.store.cursor
      (∀ w, s.run.work = some w → w ≠ .needle →
        ∃ t, exec (.stop tag) s = .next (replied 0x10 tag .done [] t) ∧ stands t ∧
          t.run = { s.run with
            state := .stopping, kind := some .controlled, report := taken
            rested := some ⟨s.angle, s.verdictAt s.angle, s.shaft.needleUp, 0⟩ } ∧
          t.frame = (if w = .returnMove then { s.frame with
            move := s.frame.move.map fun m => { m with abort := m.abort.or (some .stop) } } else s.frame) ∧
          t.store = s.store ∧ t.needle = s.needle ∧ t.thread = s.thread ∧ t.table = s.table) ∧
      (s.run.work = some .needle → ∀ c, s.needle.change = some c → c.purpose = .start →
        ∃ t, exec (.stop tag) s = .next (replied 0x10 tag .done [] t) ∧ stands t ∧
          t.run.state = .halted ∧ t.run.phase = none ∧ t.run.work = none ∧ t.run.outstanding = none ∧ t.run.resume = none ∧
          t.run.report.primary = taken.primary ∧ t.run.report.secondary = s.run.report.secondary ∧
          t.run.report.kind = some .controlled ∧ t.run.report.angle = s.angle ∧
          t.run.report.verdict = some (s.verdictAt s.angle) ∧ t.run.report.overrun = 0 ∧
          t.notices.sources[srcStop].pending = true ∧ t.frame = s.frame ∧
          t.needle = { s.needle with request := false, change := none, watch := none }))) ∧
  (∀ (tag code : Byte) (s : State), s.ready →
    (63 < code.toNat → exec (.inject tag code) s = .next (replied 0x12 tag .form [] (hunt s))) ∧
    (∀ c : Code, c.val = code.toNat →
      (s.run.state ≠ .running → exec (.inject tag code) s = .next (replied 0x12 tag .state [] (hunt s))) ∧
      (s.run.state = .running → s.run.inject ≠ none →
        exec (.inject tag code) s = .next (replied 0x12 tag .busy [] (hunt s))) ∧
      (s.run.state = .running → s.run.inject = none →
        exec (.inject tag code) s = .next (replied 0x12 tag .done [] { hunt s with run := { s.run with inject := some c } }))))

/-- CLEAR (R98): its four checks in order, and the run state HALTED with a design armed, IDLE with none, that an accepted CLEAR
leaves. The report, BRAKE and the frame reference stay, and STATE is raised. -/
def Obligations.ClearEndsALock : Prop :=
  ∀ (tag : Byte) (s : State), s.ready →
    let store := (s.run.report.primary.toList ++ s.run.report.secondary).any fun r => decide (r.cause = .store)
    let ready := s.pins.estop = false ∧ s.pins.driveReady = true ∧ s.pins.driveFault = false
    let new := if s.run.armed then RunState.halted else .idle
    (s.run.state ≠ .locked → exec (.clear tag) s = .next (replied 0x23 tag .state [] (hunt s))) ∧
    (s.run.state = .locked → store = true ∨ ¬ ready →
      exec (.clear tag) s = .next (replied 0x23 tag .faulted [] (hunt s))) ∧
    (s.run.state = .locked → store = false → ready → s.shaft.motion = .turning →
      exec (.clear tag) s = .next (replied 0x23 tag .state [] (hunt s))) ∧
    (s.run.state = .locked → store = false → ready → s.shaft.motion = .stopped →
      exec (.clear tag) s = .next (replied 0x23 tag .done []
        (raiseNotice srcState s.store.cursor (stateDetail .locked new s.store.cursor none)
          { hunt s with run := { s.run with state := new }, needle := { s.needle with watch := none } })))

/-! ### Operations -/

/-- The checks that the requests of operations share (R102): outside the states that the operation is accepted in STATE, and with the
slot filled BUSY, before every other check but FORM. Then the checks of their own rules in order: REPAIR (R171) with the lowest head
that fails, BACKTRACK (R170) and REPAIR ABANDON (R177), FRAME OUT and FRAME RETURN (R75, R77), HOME (R71), and of all six the axis
tables (R63), CONFIG naming TABLE_X as 254 or TABLE_Y as 255 (R203). -/
def Obligations.OperationsShareTheirChecks : Prop :=
  (∀ s : State,
    let short := fun (t : Option (List TablePoint)) (pitch : Param) => lastSteps t < ceilDiv (s.nat pitch) 10
    s.shortTable = if short s.planner.tableX .pitchX then some 254
      else if short s.planner.tableY .pitchY then some 255 else none) ∧
  ∀ (tag : Byte) (s : State), s.ready →
    (∀ heads : Half,
      let sel := fun h : Head => heads.getLsbD h.val = true
      let good := heads.toNat < 4096 ∧ heads ≠ 0 ∧ ∀ h, sel h → s.fitted h = true
      let answered := fun (st : Status) (payload : List Byte) =>
        exec (.repair tag heads) s = .next (replied 0x14 tag st payload (hunt s))
      let accepts := good ∧ (s.run.state = .ready ∨ s.run.state = .halted) ∧ s.run.slot = none
      let stands := accepts ∧ s.run.repair.active = false ∧ s.restsUp = true ∧ s.frame.offset = .zero
      let first := fun (fails : Head → Bool) (h : Head) =>
        sel h ∧ fails h = true ∧ ∀ k : Head, k < h → sel k → fails k = false
      let sound := fun (fails : Head → Bool) => ∀ h, sel h → fails h = false
      let gapless := fun h : Head => (s.head h).gaps.isEmpty
      let disabled := fun h : Head => decide ((s.head h).state = .disabled)
      let faulted := fun h : Head => decide ((s.head h).state = .faulted)
      let failed := fun h : Head => decide ((s.monitor h).sensor = .failed)
      let latched := fun h : Head => (s.monitor h).fault.isSome
      (¬ good → answered .form []) ∧
      (good → s.run.state ≠ .ready → s.run.state ≠ .halted → answered .state []) ∧
      (good → s.run.state = .ready ∨ s.run.state = .halted → s.run.slot ≠ none → answered .busy []) ∧
      (accepts → s.run.repair.active = true ∨ s.restsUp = false ∨ s.frame.offset ≠ .zero → answered .state []) ∧
      (stands → s.frame.ref ≠ .referenced → answered .unref []) ∧
      (stands → s.frame.ref = .referenced →
        (∀ h, first gapless h → answered .state [BitVec.ofNat 8 (h.val + 1)]) ∧
        (∀ h, sound gapless → first disabled h → answered .state [BitVec.ofNat 8 (h.val + 1)]) ∧
        (∀ h, sound gapless → sound disabled → first faulted h → answered .faulted [BitVec.ofNat 8 (h.val + 1)]) ∧
        (∀ h, sound gapless → sound disabled → sound faulted → first failed h →
          answered .faulted [BitVec.ofNat 8 (h.val + 1)]) ∧
        (∀ h, sound gapless → sound disabled → sound faulted → sound failed → first latched h →
          answered .faulted [BitVec.ofNat 8 (h.val + 1)]) ∧
        (∀ i, sound gapless → sound disabled → sound faulted → sound failed → sound latched → s.shortTable = some i →
          answered .config [BitVec.ofNat 8 i]))) ∧
    (∀ (i : Instr) (kind : Byte) (n : Half), n ≠ 0 → s.run.slot = none →
      (i, kind) ∈ [(Instr.backtrack tag n, 0x13#8), (.repairAbandon tag, 0x15#8)] →
      (kind = 0x13#8 → s.run.state = .ready ∨ s.run.state = .halted) → (kind = 0x15#8 → s.run.state = .halted) →
      let answered := fun (st : Status) (payload : List Byte) => exec i s = .next (replied kind tag st payload (hunt s))
      let wrong := s.run.repair.active = decide (kind = 0x13#8)
      (wrong ∨ s.restsUp = false ∨ s.frame.offset ≠ .zero → answered .state []) ∧
      (¬ wrong → s.restsUp = true → s.frame.offset = .zero → s.frame.ref ≠ .referenced → answered .unref []) ∧
      (∀ k, ¬ wrong → s.restsUp = true → s.frame.offset = .zero → s.frame.ref = .referenced → s.shortTable = some k →
        answered .config [BitVec.ofNat 8 k])) ∧
    (∀ (i : Instr) (kind : Byte) (dx dy : Half), -32000 ≤ dx.toInt → dx.toInt ≤ 32000 → -32000 ≤ dy.toInt →
      dy.toInt ≤ 32000 → s.run.slot = none → s.run.state = .ready ∨ s.run.state = .halted →
      (i, kind) ∈ [(Instr.frameOut tag dx dy, 0x16#8), (.frameReturn tag, 0x17#8)] →
      let answered := fun (st : Status) (payload : List Byte) => exec i s = .next (replied kind tag st payload (hunt s))
      (s.restsUp = false → answered .state []) ∧
      (s.restsUp = true → s.frame.ref ≠ .referenced → answered .unref []) ∧
      (∀ k, s.restsUp = true → s.frame.ref = .referenced → s.shortTable = some k → answered .config [BitVec.ofNat 8 k])) ∧
    (∀ dx dy : Half, dx.toInt < -32000 ∨ 32000 < dx.toInt ∨ dy.toInt < -32000 ∨ 32000 < dy.toInt →
      exec (.frameOut tag dx dy) s = .next (replied 0x16 tag .form [] (hunt s))) ∧
    exec (.backtrack tag 0) s = .next (replied 0x13 tag .form [] (hunt s)) ∧
    (s.run.slot = none → s.inRun = false → s.run.state ≠ .locked →
      (s.restsUp = false → exec (.home tag none) s = .next (replied 0x18 tag .state [] (hunt s))) ∧
      (∀ k, s.restsUp = true → s.shortTable = some k →
        exec (.home tag none) s = .next (replied 0x18 tag .config [BitVec.ofNat 8 k] (hunt s)))) ∧
    (∀ (i : Instr) (kind : Byte),
      (i, kind) ∈ [(Instr.needleUp tag, 0x19#8), (.home tag none, 0x18#8)] →
      (s.inRun = true ∨ s.run.state = .locked → exec i s = .next (replied kind tag .state [] (hunt s))) ∧
      (s.inRun = false → s.run.state ≠ .locked → s.run.slot ≠ none →
        exec i s = .next (replied kind tag .busy [] (hunt s)))) ∧
    (∀ (i : Instr) (kind : Byte) (n dx dy : Half), n ≠ 0 → -32000 ≤ dx.toInt → dx.toInt ≤ 32000 → -32000 ≤ dy.toInt →
      dy.toInt ≤ 32000 →
      (i, kind) ∈ [(Instr.frameOut tag dx dy, 0x16#8), (.frameReturn tag, 0x17#8), (.backtrack tag n, 0x13#8)] →
      (s.run.state ≠ .ready ∧ s.run.state ≠ .halted → exec i s = .next (replied kind tag .state [] (hunt s))) ∧
      (s.run.state = .ready ∨ s.run.state = .halted → s.run.slot ≠ none →
        exec i s = .next (replied kind tag .busy [] (hunt s)))) ∧
    (s.run.state ≠ .halted → exec (.repairAbandon tag) s = .next (replied 0x15 tag .state [] (hunt s))) ∧
    (s.run.state = .halted → s.run.slot ≠ none →
      exec (.repairAbandon tag) s = .next (replied 0x15 tag .busy [] (hunt s)))

/-- BACKTRACK, REPAIR and REPAIR ABANDON begin (R15, R16, R79, R170 to R172, R177), shown where the record next to the cursor is a turn
and, for REPAIR, where the rewind has no step to take: the operation fills the slot with its kind, starter, stamp and goal, the cursor
crosses that record, and the step move over it begins. An accepted REPAIR closes the open gap of each selected ISOLATED head at the cursor
(R166) and makes its heads ACTIVE, keeps the selection, the resume index and the stop report, and makes the run state HALTED, with the
STATE notice when it was READY (R171). Its goal is the lowest first-gap start of its heads after those closings (R172); retention runs
where a closing removed a gap (R18, R166). With that start at the cursor no step is taken and the landing check follows, with no change
made OK and PLAN_EMPTY for an empty plan entry (R137, R172). The model's choices: a late turn move still in progress completes before the
first move begins (log entry 48), the bound of a rewind stands at retire where it lies below (log entry 29), and the layout of the OP_DONE
detail (log entry 33). An automatic start that falls due as a REPAIR complete at once empties the slot (R99, R101) is left to
AUTOMATIC_START, which is the model's reading (log entry 13, DEDUCED). -/
def Obligations.StepwiseOperationsBegin : Prop :=
  ∀ (tag : Byte) (s : State), s.ready → s.run.slot = none → s.restsUp = true → s.frame.offset = .zero →
    s.frame.ref = .referenced → s.shortTable = none →
    (∀ (count : Half) (r : Rec) (d : Pt), count ≠ 0 → s.run.state = .ready ∨ s.run.state = .halted →
      s.run.repair.active = false → s.store.retire < s.store.cursor →
      s.store.records[s.store.cursor - 1 - s.store.retire]? = some r → r.move = some d →
      s.settledFrame.coord ≠ s.designPoint.sub d →
      ∃ t, exec (.backtrack tag count) s =
          .next (replied 0x13 tag .started (u16 (min count.toNat s.store.historyTurns)) t) ∧
        t.store = { s.store with
          cursor := s.store.cursor - 1, cursorPos := s.store.cursorPos.sub d
          lowArmed := s.store.lowArmed || decide (s.nat .lowMark ≤ s.store.fill - (s.store.cursor - 1)) } ∧
        t.run = { s.run with
          slot := some ⟨.backtrack, .host, s.clock, some (.back (min count.toNat s.store.historyTurns - 1)), false⟩ } ∧
        (∃ m, t.frame = s.settledFrame.lay m ∧ m.abort = none ∧
          s.LaysChunk .stepMove s.settledFrame.coord (s.designPoint.sub d) m) ∧
        t.shaft = s.shaft ∧ t.table = s.table ∧ t.thread = s.thread ∧ t.func = s.func ∧ t.needle = s.needle) ∧
    (∀ heads : Half, heads.toNat < 4096 → heads ≠ 0 → s.run.state = .ready ∨ s.run.state = .halted →
      s.run.repair.active = false →
      (∀ h : Head, heads.getLsbD h.val = true → s.fitted h = true ∧ (s.head h).gaps ≠ [] ∧
        ((s.head h).state = .active ∨ (s.head h).state = .isolated) ∧ (s.monitor h).sensor ≠ .failed ∧
        (s.monitor h).fault = none) →
      ∃ t, exec (.repair tag heads) s = .next (replied 0x14 tag .started [] t) ∧
        t.run.state = .halted ∧ t.run.repair = ⟨true, heads.setWidth 12, s.store.cursor⟩ ∧ t.run.report = s.run.report ∧
        (∀ h : Head, heads.getLsbD h.val = true → (t.head h).state = .active ∧
          ((s.head h).state = .active → t.head h = s.head h) ∧
          (∀ l, (s.head h).state = .isolated → hasOpenGap l = false →
            ((s.head h).gaps = l → t.head h = { s.head h with state := .active }) ∧
            (∀ a, (s.head h).gaps = l ++ [⟨a, none⟩] → t.head h = { s.head h with
              state := .active, gaps := if a < s.store.cursor then l ++ [⟨a, some s.store.cursor⟩] else l }))) ∧
        (∀ h : Head, heads.getLsbD h.val = false → t.head h = s.head h) ∧
        t.store.cursor ≤ s.store.cursor ∧ t.store.fill = s.store.fill ∧
        t.shaft = s.shaft ∧ t.thread = s.thread ∧ t.func = s.func ∧
        ∀ g : Nat,
          (∀ h : Head, heads.getLsbD h.val = true → ∀ k, (t.head h).gaps.head? = some k → g ≤ k.start) →
          g = s.store.cursor ∨ (g < s.store.cursor ∧
            ∃ h : Head, heads.getLsbD h.val = true ∧ ∃ k, (t.head h).gaps.head? = some k ∧ k.start = g) →
          let slot : Op := ⟨.repair, .host, s.clock, some (.downTo g), false⟩
          (∀ (r : Rec) (d : Pt), g < s.store.cursor → s.store.retire < s.store.cursor →
            s.store.records[s.store.cursor - 1 - s.store.retire]? = some r → r.move = some d →
            s.settledFrame.coord ≠ s.designPoint.sub d →
            t.run = { s.run with
              state := .halted, repair := ⟨true, heads.setWidth 12, s.store.cursor⟩, slot := some slot } ∧
            s.store.retire ≤ t.store.retire ∧ t.store.retire ≤ max s.store.retire g ∧
            ((∀ h : Head, heads.getLsbD h.val = true → (t.head h).gaps.length = (s.head h).gaps.length) →
              t.store.retire = s.store.retire) ∧
            t.store = { s.store with
              retire := t.store.retire, records := s.store.records.drop (t.store.retire - s.store.retire)
              cursor := s.store.cursor - 1, cursorPos := s.store.cursorPos.sub d
              lowArmed := s.store.lowArmed || decide (s.nat .lowMark ≤ s.store.fill - (s.store.cursor - 1)) } ∧
            (∃ m, t.frame = s.settledFrame.lay m ∧ m.abort = none ∧
              s.LaysChunk .stepMove s.settledFrame.coord (s.designPoint.sub d) m) ∧
            t.planner.caps = [] ∧ t.planner.stopPoint = none ∧
            t.needle = (if s.run.state = .halted then s.needle else { s.needle with watch := none }) ∧
            t.notices = (if s.run.state = .halted then s.notices
              else (raiseNotice srcState s.store.cursor (stateDetail .ready .halted s.store.cursor none) s).notices)) ∧
          (g = s.store.cursor → t.store.cursor = s.store.cursor ∧ t.store.cursorPos = s.store.cursorPos ∧
            t.frame.move = s.frame.move ∧ t.frame.coord = s.frame.coord ∧
            (s.planNeedle = none ∨ s.planNeedle = s.needle.settled →
              t.run.slot = none ∧ t.needle.change = s.needle.change ∧ t.notices.sources[srcOpDone].pending = true ∧
              t.notices.sources[srcOpDone].detail =
                [9, 0, 0] ++ [0, 0, 0, 0, 0, 0, 0] ++ (if s.planNeedle = none then [1, 4] else [0, 0])) ∧
            (∀ n, s.planNeedle = some n → s.needle.settled ≠ some n →
              t.run.slot = some slot ∧ t.needle = { s.needle with
                target := n, request := true, watch := none
                change := some ⟨.landing, n, .host, s.nat .needleTimeout, s.nat .needleTimeout, s.clock⟩ }))) ∧
    (∀ (r : Rec) (d : Pt), s.run.state = .halted → s.run.repair.active = true → s.store.cursor < s.run.repair.resume →
      s.store.cursor < s.store.fill → s.store.records[s.store.cursor - s.store.retire]? = some r → r.move = some d →
      s.settledFrame.coord ≠ s.designPoint.add d →
      ∃ t, exec (.repairAbandon tag) s = .next (replied 0x15 tag .started [] t) ∧
        t.store = { s.store with cursor := s.store.cursor + 1, cursorPos := s.store.cursorPos.add d } ∧
        t.run = { s.run with
          slot := some ⟨.repairAbandon, .host, s.clock, some (.upTo s.run.repair.resume), false⟩ } ∧
        (∃ m, t.frame = s.settledFrame.lay m ∧ m.abort = none ∧
          s.LaysChunk .stepMove s.settledFrame.coord (s.designPoint.add d) m) ∧
        t.shaft = s.shaft ∧ t.table = s.table ∧ t.thread = s.thread ∧ t.func = s.func ∧ t.needle = s.needle)

/-- FRAME OUT, FRAME RETURN and HOME begin (R71, R72, R75, R77): the slot is filled and the first move of the operation begins. The offset
that FRAME OUT aims at is the accumulated request clamped to the soft limits, and its reply carries it. A chunk goes on each axis the
farthest toward the target whose steps do not exceed the steps of that axis's last table point, or the whole way when they fit (R63), and
the steps of the first chunk are those from where the frame stands. HOME begins with Y, by a search toward the switch. With the switch
closed already there is no search, a back-off step comes first, and the reference is lost at it all the same: that is the model's reading
(log entry 20). A move that begins sets the direction line of each axis that has steps to make to their sign (R62). That a late turn move
still in progress completes before it begins is the model's choice (log entry 48). The frame that a move finds is `settledFrame`, the
frame as it stands when no turn move is in progress. -/
def Obligations.FrameOperationsBegin : Prop :=
  (∀ (f : Frame) (m : Move), f.lay m = { f with
    move := some m
    dirX := if 0 < m.leftX then .plus else if m.leftX < 0 then .minus else f.dirX
    dirY := if 0 < m.leftY then .plus else if m.leftY < 0 then .minus else f.dirY }) ∧
  (∀ s : State, (∀ m, s.frame.move = some m → m.purpose ≠ .turnMove) → s.settledFrame = s.frame) ∧
  (∀ (s : State) (m : Move), s.frame.move = some m → m.purpose = .turnMove → s.settledFrame = { s.frame with
    stepX := s.frame.stepX + m.leftX, stepY := s.frame.stepY + m.leftY, coord := m.target, move := none, late := none }) ∧
  (∀ (pitch c g : Int) (m : Nat), 0 < pitch →
    let e := chunkEnd pitch c g m
    (c ≤ g → c ≤ e ∧ e ≤ g ∧ ∀ q, c ≤ q → q ≤ g → (q ≤ e ↔ stepTarget pitch q - stepTarget pitch c ≤ m)) ∧
    (g ≤ c → g ≤ e ∧ e ≤ c ∧ ∀ q, g ≤ q → q ≤ c → (e ≤ q ↔ stepTarget pitch c - stepTarget pitch q ≤ m))) ∧
  (∀ (s : State) (c g : Pt), s.nextChunk c g =
    ⟨chunkEnd (s.par .pitchX) c.x g.x (lastSteps s.planner.tableX),
      chunkEnd (s.par .pitchY) c.y g.y (lastSteps s.planner.tableY)⟩) ∧
  (∀ (t : List TablePoint) (p : TablePoint), lastSteps (some (t ++ [p])) = p.steps) ∧
  ∀ (tag : Byte) (s : State), s.ready → s.run.slot = none → s.restsUp = true → s.shortTable = none →
    let dp := s.designPoint
    (∀ dx dy : Half, s.run.state = .ready ∨ s.run.state = .halted → s.frame.ref = .referenced →
      -32000 ≤ dx.toInt → dx.toInt ≤ 32000 → -32000 ≤ dy.toInt → dy.toInt ≤ 32000 →
      let gx := max (s.par .limitXMin) (min (dp.x + s.frame.offset.x + dx.toInt) (s.par .limitXMax))
      let gy := max (s.par .limitYMin) (min (dp.y + s.frame.offset.y + dy.toInt) (s.par .limitYMax))
      s.settledFrame.coord ≠ ⟨gx, gy⟩ →
      ∃ m, exec (.frameOut tag dx dy) s = .next (replied 0x16 tag .started (i32 (gx - dp.x) ++ i32 (gy - dp.y))
          { hunt s with
            run := { s.run with slot := some ⟨.frameOut, .host, s.clock, none, false⟩ }
            frame := s.settledFrame.lay m }) ∧
        s.LaysChunk .frameOut s.settledFrame.coord ⟨gx, gy⟩ m ∧ m.abort = none) ∧
    (s.run.state = .ready ∨ s.run.state = .halted → s.frame.ref = .referenced → s.settledFrame.coord ≠ dp →
      ∃ m, exec (.frameReturn tag) s = .next (replied 0x17 tag .started []
          { hunt s with
            run := { s.run with slot := some ⟨.frameReturn, .host, s.clock, none, false⟩ }
            frame := s.settledFrame.lay m }) ∧
        s.LaysChunk .returnMove s.settledFrame.coord dp m ∧ m.abort = none) ∧
    (∀ switches : Option (Bool × Bool), s.run.state = .idle ∨ s.run.state = .ready ∨ s.run.state = .halted →
      let pins := (setSwitches switches s).pins
      (∀ l, switches = some l → pins = { s.pins with switchX := l.1, switchY := l.2 }) ∧
      (switches = none → pins = s.pins) ∧
      ∃ m h, exec (.home tag switches) s = .next (replied 0x18 tag .started []
          { hunt s with
            pins := pins
            run := { s.run with slot := some ⟨.home, .host, s.clock, none, false⟩ }
            frame := { s.settledFrame.lay m with ref := .unreferenced, homing := some h } }) ∧
        m.leftX = 0 ∧
        (pins.switchY = false → m.purpose = .homingSearch ∧ m.leftY = -(ceilDiv (s.par .pitchY).toNat 10 : Int)) ∧
        (pins.switchY = true → m.purpose = .homingBackOff ∧ m.leftY = 1) ∧
        h.axis = .y ∧ h.backOff = pins.switchY ∧ h.searchX = 0 ∧ h.searchY = 0 ∧ h.backX = 0 ∧ h.backY = 0 ∧
        (h.toDesign = true ↔ s.run.state ≠ .idle))

/-- Moves complete. MOVE_COMPLETE brings the frame to the target of a turn move (R62, R64); STEP_EMITTED moves one axis by a step (R62).
CHUNK_COMPLETE brings the frame to the chunk's end, with the next chunk after it (R63), also with an abort marked for a step move or a
first move; FRAME OUT and FRAME RETURN then end OK, or ABORTED at a marked abort, with the offset reached (R76, R77, R80), and a step move
ends its operation ABORTED at an abort (R80) and else starts the dwell (R79). The first move of a run makes the phase SEWING (R66, R87).
The return move of a START goes on at its target to the sensor test, the needle change or the first call (R78, R87), and cut short it is
the cause MOVE_LATE (R88). A first move or return that a stop waited for ends it (R88, R96). HOMING_STEP_COMPLETE searches on, turns to
the back-off, goes from Y to X, fails at a budget, ends ABORTED at an abort (R72, R74), or applies the reference, with the end move in
READY and HALTED (R73), whose last chunk ends HOME OK, or ABORTED with the offset where the frame stands (R73, R74). DWELL_EXPIRY takes
the next step of a stepwise operation (R15, R16), whose move begins, or ends it ABORTED with the needles down (R79); at its bound it
lands: OK, with PLAN_EMPTY, or by a LANDING change (R137), after REPAIR ABANDON ends the repair (R176, R177). The model's choices: a
completion emits the steps that are left (log entry 18), an event with nothing to act on changes nothing (log entry 11), a return marked
to go no further that reaches the design point is complete (log entry 19), a homing move leaves the frame UNREFERENCED (log entry 20), a
bound stands within retire and fill (log entry 29), HOME's offset is (0, 0) from the beginning of its end move (log entry 52), heads in
ascending order as repair ends (log entry 53), and the layout of an OP_DONE detail (log entry 33). A start that falls due as the end of an
operation empties the slot (R99, R101) is left to AUTOMATIC_START (log entry 13, DEDUCED). -/
def Obligations.MovesAreCompleted : Prop :=
  ∀ (s : State), s.awake →
    (∀ m, s.frame.move = some m →
      let there := fun c : Pt => { s.frame with
        stepX := s.frame.stepX + m.leftX, stepY := s.frame.stepY + m.leftY, coord := c, move := none, late := none }
      let moved := { there m.chunk with offset := m.chunk.sub s.designPoint }
      let returns := m.purpose = .returnMove ∧ s.run.work = some .returnMove
      let offsets := m.purpose = .frameOut ∨ (m.purpose = .returnMove ∧ s.run.work ≠ some .returnMove)
      let done := fun (op : Op) (result : Byte) (detail : List Byte) (t : State) =>
        raiseNotice srcOpDone s.store.cursor (u8 op.kind.value ++ u8 op.starter.value ++ [result] ++ detail)
          { t with run := { s.run with slot := none } }
      (m.purpose = .turnMove → exec .moveComplete s = .next (settle { s with frame := there m.target })) ∧
      exec (.stepEmitted .x) s = .next (settle { s with frame := { s.frame with
        stepX := s.frame.stepX + m.leftX.sign, move := some { m with leftX := m.leftX - m.leftX.sign } } }) ∧
      exec (.stepEmitted .y) s = .next (settle { s with frame := { s.frame with
        stepY := s.frame.stepY + m.leftY.sign, move := some { m with leftY := m.leftY - m.leftY.sign } } }) ∧
      (∀ tension, m.purpose ∈ [.frameOut, .returnMove, .homingEnd, .stepMove, .firstMove] → m.chunk ≠ m.target →
        m.abort = none ∨ m.purpose = .stepMove ∨ m.purpose = .firstMove →
        ∃ m', exec (.chunkComplete tension) s = .next (settle { setTension tension s with
            frame := Frame.lay m' (if m.purpose = .frameOut ∨ m.purpose = .returnMove then moved else there m.chunk) }) ∧
          s.LaysChunk m.purpose m.chunk m.target m' ∧ m'.turn = m.turn ∧ m'.abort = m.abort) ∧
      (∀ tension op, offsets → m.chunk = m.target ∨ m.abort ≠ none → s.run.slot = some op →
        exec (.chunkComplete tension) s = .next (settle (done op (if m.abort = none then 0 else 2)
          (i32 (m.chunk.sub s.designPoint).x ++ i32 (m.chunk.sub s.designPoint).y)
          { setTension tension s with frame := moved }))) ∧
      (∀ tension, m.purpose = .firstMove → m.chunk = m.target → s.run.state = .running → s.planner.held = true →
        s.link.restart = .none → s.shaft.line = 0 → 0 < s.planner.demand →
        exec (.chunkComplete tension) s = .next (settle { setTension tension s with
          frame := there m.chunk
          run := { s.run with work := none, phase := some .sewing }
          planner := { s.planner with held := false }
          shaft := { s.shaft with line := s.planner.demand, brake := false, stall := some 0 } })) ∧
      (∀ tension, returns → m.chunk = m.target → m.target = s.designPoint → s.run.state = .running →
        let u := { setTension tension s with
          frame := { there m.chunk with offset := .zero }, run := { s.run with work := none } }
        (s.untested ≠ 0 → exec (.chunkComplete tension) s = .next (settle { u with
          run := { s.run with work := some .sensorTest }
          thread := { s.thread with testLoad := s.untested, test := some ⟨s.untested, u.pins.tension, 50⟩ } })) ∧
        (∀ n, s.untested = 0 → s.planNeedle = some n → s.needle.settled ≠ some n → s.restsUp = true →
          exec (.chunkComplete tension) s = .next (settle { u with
            run := { s.run with work := some .needle }
            needle := { s.needle with
              target := n, request := true, watch := none
              change := some ⟨.start, n, s.run.starter, s.nat .needleTimeout, s.nat .needleTimeout, s.clock⟩ } })) ∧
        (s.untested = 0 → (∀ n, s.planNeedle = some n → s.needle.settled = some n) →
          exec (.chunkComplete tension) s = .next (settle (call .nothing u)))) ∧
      (∀ tension, returns → m.abort ≠ none → m.chunk ≠ m.target → m.chunk ≠ s.designPoint → s.run.state = .running →
        s.run.phase = some .starting → s.shaft.motion = .stopped →
        ∃ t, exec (.chunkComplete tension) s = .next (settle t) ∧ t.frame = moved ∧
          t.run.state = .halted ∧ t.run.phase = none ∧ t.run.work = none ∧
          t.run.report.primary = some ⟨.moveLate, s.store.cursor, s.clock⟩ ∧ t.run.report.kind = some .quick ∧
          t.run.report.secondary = s.run.report.secondary ∧ t.run.report.angle = s.angle ∧ t.run.report.overrun = 0 ∧
          t.planner.demand = 0 ∧ t.shaft.line = 0 ∧ t.shaft.brake = true ∧
          t.notices.sources[srcStop].pending = true ∧ t.store.cursor = s.store.cursor) ∧
      (∀ tension r,
        (m.purpose = .firstMove ∧ m.chunk = m.target) ∨ (returns ∧ (m.chunk = m.target ∨ m.abort ≠ none) ∧
          (m.abort = some .needleDown → m.chunk = s.designPoint)) →
        s.run.state = .stopping → s.run.phase = some .starting →
        s.run.rested = some r → s.run.kind ≠ some .emergency → s.run.report.primary.map Recorded.cause ≠ some .colour →
        ∃ t, exec (.chunkComplete tension) s = .next (settle t) ∧
          t.frame = (if m.purpose = .firstMove then there m.chunk else moved) ∧
          t.run.state = .halted ∧ t.run.phase = none ∧ t.run.work = none ∧ t.run.outstanding = none ∧
          t.run.report.primary = s.run.report.primary ∧ t.run.report.kind = s.run.kind ∧ t.run.report.angle = r.angle ∧
          t.run.report.verdict = some r.verdict ∧ t.run.report.overrun = r.overrun ∧
          t.run.report.incomplete = s.run.outstanding.map Turn.index ∧
          t.notices.sources[srcStop].pending = true ∧ t.shaft = s.shaft ∧ t.store.cursor = s.store.cursor) ∧
      (∀ tension, m.purpose = .stepMove → m.chunk = m.target → m.abort = none → 0 < s.nat .backDwell →
        exec (.chunkComplete tension) s = .next (settle { setTension tension s with
          frame := { there m.chunk with dwell := some (s.nat .backDwell) } })) ∧
      (∀ tension, m.purpose = .stepMove → m.chunk = m.target → m.abort = none → s.nat .backDwell = 0 → s.frame.dwell = none →
        exec (.chunkComplete tension) s =
          exec .dwellExpiry { setTension tension s with frame := { there m.chunk with dwell := some 0 } }) ∧
      (∀ tension op, m.purpose = .stepMove → m.chunk = m.target → m.abort ≠ none → s.run.slot = some op →
        exec (.chunkComplete tension) s = .next (settle (done op 2 [0, 0, 0, 0, 0, 0, 0, 0, 0]
          { setTension tension s with frame := { there m.chunk with dwell := none } }))) ∧
      (∀ tension h op, s.frame.homing = some h → h.atEnd = true → m.purpose = .homingEnd →
        m.chunk = m.target ∨ m.abort ≠ none → s.run.slot = some op →
        exec (.chunkComplete tension) s = .next (settle (done op (if m.abort = none then 0 else 2)
          (u32 h.searchX ++ u32 h.backX ++ u32 h.searchY ++ u32 h.backY ++ [0, 0, 0]
            ++ (if m.abort = none then [0, 0] else [1, 2]))
          { setTension tension s with
            frame := { (if m.abort = none then there m.chunk else moved) with homing := none } }))) ∧
      (∀ h x y, s.frame.homing = some h → h.atEnd = false → m.purpose = .homingSearch ∨ m.purpose = .homingBackOff →
        let unit := fun a : Axis => match a with
          | .x => ceilDiv (s.par .pitchX).toNat 10
          | .y => ceilDiv (s.par .pitchY).toNat 10
        let closed := match h.axis with
          | .x => x
          | .y => y
        let count := fun (a : Axis) (back : Bool) (n : Nat) =>
          if h.axis = a ∧ h.backOff = back then n + (if back then 1 else unit a) else n
        let k := { h with
          searchX := count .x false h.searchX, searchY := count .y false h.searchY
          backX := count .x true h.backX, backY := count .y true h.backY }
        let spent := match h.axis, h.backOff with
          | .x, false => h.budgetX ≤ k.searchX
          | .y, false => h.budgetY ≤ k.searchY
          | .x, true => h.backLimitX ≤ k.backX
          | .y, true => h.backLimitY ≤ k.backY
        let steps := u32 k.searchX ++ u32 k.backX ++ u32 k.searchY ++ u32 k.backY
        let part : Byte := if h.backOff then 1 else 0
        let u := { s with pins := { s.pins with switchX := x, switchY := y } }
        let stood := { there s.frame.coord with homing := none }
        let goesOn := fun j : Homing => ∃ m', exec (.homingStepComplete x y) s = .next (settle { u with
            frame := { Frame.lay m' (there s.frame.coord) with ref := .unreferenced, homing := some j } }) ∧
          let n : Int := if j.backOff then 1 else -(unit j.axis : Int)
          m'.purpose = (if j.backOff then .homingBackOff else .homingSearch) ∧ m'.abort = none ∧
          m'.leftX = (if j.axis = .x then n else 0) ∧ m'.leftY = (if j.axis = .y then n else 0)
        (∀ op, m.abort ≠ none → s.run.slot = some op →
          exec (.homingStepComplete x y) s =
            .next (settle (done op 2 (steps ++ [0, 0, 0, 1, part]) { u with frame := stood }))) ∧
        (m.abort = none →
          (∀ op, closed = h.backOff → spent → s.run.slot = some op →
            exec (.homingStepComplete x y) s = .next (settle (done op 1
              (steps ++ [1, if h.axis = .x then 0 else 1, part, 0, 0]) { u with frame := stood }))) ∧
          (closed = h.backOff → ¬ spent → goesOn k) ∧
          (closed = true → h.backOff = false → goesOn { k with backOff := true }) ∧
          (closed = false → h.backOff = true → h.axis = .y → goesOn { k with axis := .x, backOff := x }) ∧
          (closed = false → h.backOff = true → h.axis = .x →
            let found := { there ⟨s.par .refX, s.par .refY⟩ with
              stepX := stepTarget (s.par .pitchX) (s.par .refX), stepY := stepTarget (s.par .pitchY) (s.par .refY)
              ref := .referenced, homing := none }
            (∀ op, h.toDesign = false → s.run.slot = some op →
              exec (.homingStepComplete x y) s =
                .next (settle (done op 0 (steps ++ [0, 0, 0, 0, 0]) { u with frame := found }))) ∧
            (∀ op, h.toDesign = true → s.designPoint = ⟨s.par .refX, s.par .refY⟩ → s.run.slot = some op →
              exec (.homingStepComplete x y) s = .next (settle (done op 0 (steps ++ [0, 0, 0, 0, 0])
                { u with frame := { found with offset := .zero } }))) ∧
            (h.toDesign = true → s.designPoint ≠ ⟨s.par .refX, s.par .refY⟩ →
              ∃ m', exec (.homingStepComplete x y) s = .next (settle { u with
                  frame := Frame.lay m' { found with offset := .zero, homing := some { k with atEnd := true } } }) ∧
                s.LaysChunk .homingEnd ⟨s.par .refX, s.par .refY⟩ s.designPoint m' ∧ m'.abort = none))))) ∧
    (s.frame.move = none →
      exec .moveComplete s = .next (settle s) ∧ ∀ a, exec (.stepEmitted a) s = .next (settle s)) ∧
    (s.frame.dwell = none → exec .dwellExpiry s = .next (settle s)) ∧
    (∀ left op g, s.frame.dwell = some left → s.run.slot = some op → op.goal = some g →
      let leaves := fun t : State => exec .dwellExpiry s = .next (settle t)
      let idle := { s with frame := { s.frame with dwell := none } }
      let k := s.store.cursor
      let wants := fun h : Head => s.fitted h && decide ((s.head h).state = .isolated) && !hasOpenGap (s.head h).gaps
      let opened := fun h : Head => openGapAt (max s.run.repair.resume s.store.retire) (s.head h).gaps
      let full := allHeads.filter fun h => wants h && (opened h).isNone
      let causes := (full.take (8 - s.run.report.secondary.length)).map
        fun h => (⟨.headFault h, s.run.repair.resume, s.clock⟩ : Recorded)
      let ends := fun (detail : List Byte) (v : State) => leaves (raiseNotice srcOpDone v.store.cursor
        (u8 op.kind.value ++ u8 op.starter.value ++ detail) { v with run := { v.run with slot := none } })
      let checked := fun v : State =>
        (v.planNeedle = none → ends [0, 0, 0, 0, 0, 0, 0, 0, 1, 4] v) ∧
        (∀ n, v.planNeedle = some n → s.needle.settled = some n → ends [0, 0, 0, 0, 0, 0, 0, 0, 0, 0] v) ∧
        (∀ n, v.planNeedle = some n → s.needle.settled ≠ some n → leaves { v with needle := { s.needle with
          target := n, request := true, watch := none
          change := some ⟨.landing, n, op.starter, s.nat .needleTimeout, s.nat .needleTimeout, s.clock⟩ } })
      let lands := fun v : State =>
        (op.kind ≠ .repairAbandon → checked v) ∧
        (op.kind = .repairAbandon → full = [] ∨ s.run.state = .halted →
          ∃ u : State, checked u ∧
            u = { v with
              run := { s.run with
                repair := ⟨false, 0, 0⟩
                resume := if full = [] then s.run.resume else none
                colourTimer := if full = [] then s.run.colourTimer else .stopped
                report := { s.run.report with secondary := s.run.report.secondary ++ causes } }
              table := { s.table with heads := u.table.heads } } ∧
            ∀ h : Head, u.head h = if wants h then (match opened h with
              | some gaps => { s.head h with gaps := gaps }
              | none => { s.head h with state := .faulted, kept := some s.run.repair.resume }) else s.head h)
      let colours := fun l : List Rec => (l.filter fun r => decide (r = .colour)).length
      let crossed := fun a b : Nat => (s.store.records.take (b - s.store.retire)).drop (a - s.store.retire)
      let rearmed := fun i : Nat => s.store.lowArmed || decide (s.nat .lowMark ≤ s.store.fill - i)
      let stepped := fun (st : Store) (look : List Entry) => { idle with
        store := st, planner := { s.planner with caps := [], stopPoint := none, lookahead := look } }
      let moves := fun (st : Store) (goal : Goal) =>
        let target := st.origin.add st.cursorPos
        let slot := some { op with goal := some goal }
        ∃ look, let v := stepped st look
          (s.shaft.needleUp = false → ends [2, 0, 0, 0, 0, 0, 0, 0, 0, 0] v) ∧
          (s.shaft.needleUp = true → s.settledFrame.coord ≠ target → ∃ m, m.abort = none ∧
            s.LaysChunk .stepMove s.settledFrame.coord target m ∧
            leaves { v with run := { s.run with slot := slot }, frame := Frame.lay m { s.settledFrame with dwell := none } }) ∧
          (s.shaft.needleUp = true → s.settledFrame.coord = target → 0 < s.nat .backDwell →
            leaves { v with
              run := { s.run with slot := slot }, frame := { s.settledFrame with dwell := some (s.nat .backDwell) } })
      let back := fun (bound : Nat) (goal : Goal) =>
        (k ≤ bound → lands idle) ∧
        (∀ i r d, bound ≤ i → i < k → s.store.records[i - s.store.retire]? = some r → r.move = some d →
          (∀ x ∈ crossed (i + 1) k, x.move = none) →
          moves { s.store with
            cursor := i, cursorPos := s.store.cursorPos.sub d
            cursorColour := s.store.cursorColour - colours (crossed (i + 1) k), lowArmed := rearmed i } goal) ∧
        (bound < k → (∀ x ∈ crossed bound k, x.move = none) →
          ∃ look, lands (stepped { s.store with
            cursor := bound, cursorColour := s.store.cursorColour - colours (crossed bound k), lowArmed := rearmed bound } look))
      (g = .back 0 → lands idle) ∧
      (∀ n, g = .back (n + 1) → back s.store.retire (.back n)) ∧
      (∀ b, g = .downTo b → back (max b s.store.retire) g) ∧
      (∀ e, g = .upTo e → s.store.retire ≤ k →
        let bound := min e s.store.fill
        (bound ≤ k → lands idle) ∧
        (∀ i r d, k ≤ i → i < bound → s.store.records[i - s.store.retire]? = some r → r.move = some d →
          (∀ x ∈ crossed k i, x.move = none) →
          moves { s.store with
            cursor := i + 1, cursorPos := s.store.cursorPos.add d
            cursorColour := s.store.cursorColour + colours (crossed k i) } g) ∧
        (k < bound → (∀ x ∈ crossed k bound, x.move = none) →
          ∃ look, lands (stepped { s.store with
            cursor := bound, cursorColour := s.store.cursorColour + colours (crossed k bound) } look))))

/-! ### The needle bar -/

/-- NEEDLE UP (R38) and NEEDLE SELECT (R135): their refusals, the operation that is complete as it begins, and the demand SPEED_MIN
on the line or the REQUEST for the needle (R131) that else begin. Of an operation complete as it begins, the layout of its detail is log
entry 33, the angle, verdict and overrun count of a NEEDLE UP without motion log entry 50, and the 0 milliseconds of a change without
REQUEST log entry 43, each the model's choice. -/
def Obligations.NeedleOperationsBegin : Prop :=
  (∀ (tag : Byte) (s : State), s.ready → s.run.slot = none → s.run.state = .idle ∨ s.run.state = .ready ∨ s.run.state = .halted →
    (s.driveIsReady = false → exec (.needleUp tag) s = .next (replied 0x19 tag .faulted [] (hunt s))) ∧
    (s.driveIsReady = true → s.restsUp = true →
      exec (.needleUp tag) s = .next (replied 0x19 tag .started [] (raiseNotice srcOpDone s.store.cursor
        ([0, 0, 0] ++ halfOrNone s.angle ++ u8 (s.verdictAt s.angle).value ++ [0, 0, 0, 0, 1]) (hunt s)))) ∧
    (s.driveIsReady = true → s.restsUp = false → s.shaft.line = 0 → 0 < s.nat .speedMin →
      exec (.needleUp tag) s = .next (replied 0x19 tag .started [] { hunt s with
        run := { s.run with slot := some ⟨.needleUp, .host, s.clock, none, false⟩ }
        shaft := { s.shaft with line := s.nat .speedMin, brake := false, stall := some 0 } }))) ∧
  (∀ (tag needle : Byte) (s : State), s.ready →
    (needle.toNat < 1 ∨ s.nat .needles < needle.toNat →
      exec (.needleSelect tag needle) s = .next (replied 0x1A tag .form [] (hunt s))) ∧
    (1 ≤ needle.toNat → needle.toNat ≤ s.nat .needles →
      (s.inRun = true ∨ s.run.state = .locked →
        exec (.needleSelect tag needle) s = .next (replied 0x1A tag .state [] (hunt s))) ∧
      (s.inRun = false → s.run.state ≠ .locked → s.run.slot ≠ none →
        exec (.needleSelect tag needle) s = .next (replied 0x1A tag .busy [] (hunt s))) ∧
      (s.inRun = false → s.run.state ≠ .locked → s.run.slot = none →
        (s.restsUp = false → exec (.needleSelect tag needle) s = .next (replied 0x1A tag .state [] (hunt s))) ∧
        (s.restsUp = true → s.needle.settled = some needle.toNat →
          exec (.needleSelect tag needle) s = .next (replied 0x1A tag .started [] (raiseNotice srcOpDone s.store.cursor
            ([4, 0, 0] ++ u8 s.store.cursorColour ++ [needle, needle, 0, 0, 0, 0, 0, 0])
            { hunt s with needle := { s.needle with target := needle.toNat, watch := none } }))) ∧
        (s.restsUp = true → s.needle.settled ≠ some needle.toNat →
          exec (.needleSelect tag needle) s = .next (replied 0x1A tag .started [] { hunt s with
            run := { s.run with slot := some ⟨.needleSelect, .host, s.clock, none, false⟩ }
            needle := { s.needle with
              target := needle.toNat, request := true, watch := none
              change := some ⟨.select, needle.toNat, .host, s.nat .needleTimeout, s.nat .needleTimeout, s.clock⟩ } })))))

/-- The needle bar's input and timers: a changed reading takes the settled needle away and starts the settle timer on a needle (R129,
R139); the settle timer's end sets the settled needle and completes a change that waits for it, and the timeout ends a change FAILED
(R129, R132). Where a change goes is by its purpose: a NEEDLE SELECT to its OP_DONE (R135); a COLOUR change to its OP_DONE with the colour
delay timer, or with no wait and the secondary cause NEEDLE_TIMEOUT (R101, R134); a LANDING to the end of its operation (R137); a START to
the first call, or to the cause NEEDLE_TIMEOUT, which ends the start with the shaft at rest (R88, R96, R136). The away timer's end raises
NEEDLE_LOST, a QUICK stop in SEWING (R93, R139). R134 says plainly that a COLOUR change ending OK starts the colour delay timer; that it
leaves the timer as it was when the resume wait is not COLOUR is the model's reading of R101 beside it (log entry 14, DEDUCED). With
COLOUR_DELAY 0 that timer stands expired as it starts, as R101 says; that the start due then, with the wait COLOUR and the slot empty, is
not part of the event but left to AUTOMATIC_START, as is a start that falls due as the slot empties (R99, R101), is the model's reading
too (log entry 13, DEDUCED). That a reading reported again and an expiry with no timer running change nothing is the model's choice (log
entry 11), as is the layout of the OP_DONE details (log entry 33). A settle expiry with the reading outside 1..NEEDLES (log entry 42) is
left out. -/
def Obligations.TheNeedleBarFollowsItsInput : Prop :=
  ∀ s : State, s.awake →
    (∀ v : BitVec 4,
      (v = s.pins.needle → exec (.needlePositionChange v) s = .next (settle s)) ∧
      (v ≠ s.pins.needle → ∃ watch, exec (.needlePositionChange v) s = .next (settle { s with
          pins := { s.pins with needle := v }
          needle := { s.needle with
            settled := none
            settle := if 1 ≤ v.toNat ∧ v.toNat ≤ s.nat .needles then some (s.nat .needleSettle) else none
            watch := watch } }) ∧
        (s.needle.watch = none → watch = none) ∧
        (∀ w, s.needle.watch = some w →
          (s.pins.needle.toNat = w.needle → watch = some ⟨w.needle, some (s.nat .needleSettle)⟩) ∧
          (v.toNat = w.needle → watch = some ⟨w.needle, none⟩) ∧
          (s.pins.needle.toNat ≠ w.needle → v.toNat ≠ w.needle → watch = some w)))) ∧
    (s.needle.settle = none → exec .needleSettleExpiry s = .next (settle s)) ∧
    (s.needle.settle ≠ none → 1 ≤ s.pins.needle.toNat → s.pins.needle.toNat ≤ s.nat .needles →
      (s.needle.change = none → exec .needleSettleExpiry s = .next (settle { s with
        needle := { s.needle with settled := some s.pins.needle.toNat, settle := none } })) ∧
      (∀ c op, s.needle.change = some c → c.purpose = .select → c.target = s.pins.needle.toNat → s.run.slot = some op →
        exec .needleSettleExpiry s = .next (settle (raiseNotice srcOpDone s.store.cursor
          (u8 op.kind.value ++ u8 op.starter.value ++ [0] ++ u8 s.store.cursorColour ++ u8 c.target ++ u8 c.target
            ++ u32 (s.clock - c.stamp).toNat ++ [0, 0])
          { s with
            run := { s.run with slot := none }
            needle := { s.needle with
              settled := some s.pins.needle.toNat, settle := none, request := false, change := none } })))) ∧
    (∀ c op, s.needle.change = some c → c.purpose = .select → s.run.slot = some op →
      exec .needleTimeoutExpiry s = .next (settle (raiseNotice srcOpDone s.store.cursor
        (u8 op.kind.value ++ u8 op.starter.value ++ [1] ++ u8 s.store.cursorColour ++ u8 c.target
          ++ byteOrNone s.needle.settled ++ u32 c.limit ++ [1, 0])
        { s with
          run := { s.run with slot := none }
          needle := { s.needle with request := false, change := none } }))) ∧
    (s.needle.settle ≠ none → 1 ≤ s.pins.needle.toNat → s.pins.needle.toNat ≤ s.nat .needles →
      ∀ c, s.needle.change = some c →
      let placed := { s.needle with
        settled := some s.pins.needle.toNat, settle := none, request := false, change := none }
      (c.target ≠ s.pins.needle.toNat → exec .needleSettleExpiry s = .next (settle { s with
        needle := { s.needle with settled := some s.pins.needle.toNat, settle := none } })) ∧
      (∀ op, c.purpose = .colour → c.target = s.pins.needle.toNat → s.run.slot = some op →
        exec .needleSettleExpiry s = .next (settle (raiseNotice srcOpDone s.store.cursor
          (u8 op.kind.value ++ u8 op.starter.value ++ [0] ++ u8 s.store.cursorColour ++ u8 c.target ++ u8 c.target
            ++ u32 (s.clock - c.stamp).toNat ++ [0, 0])
          { s with
            run := { s.run with
              slot := none
              colourTimer := if s.run.resume ≠ some .colour then s.run.colourTimer
                else if s.nat .colourDelay = 0 then .expired else .running (s.nat .colourDelay) }
            needle := placed }))) ∧
      (∀ op, c.purpose = .landing → c.target = s.pins.needle.toNat → s.run.slot = some op →
        exec .needleSettleExpiry s = .next (settle (raiseNotice srcOpDone s.store.cursor
          (u8 op.kind.value ++ u8 op.starter.value ++ [0, 1] ++ u8 c.target ++ u8 c.target
            ++ u32 (s.clock - c.stamp).toNat ++ [0, 0])
          { s with run := { s.run with slot := none }, needle := placed }))) ∧
      (c.purpose = .start → c.target = s.pins.needle.toNat → s.run.state = .running →
        exec .needleSettleExpiry s = .next (settle (call .nothing
          { s with run := { s.run with work := none }, needle := placed })))) ∧
    (∀ c, s.needle.change = some c →
      let freed := { s.needle with request := false, change := none }
      let target := u8 c.target ++ byteOrNone s.needle.settled ++ u32 c.limit ++ [1, 0]
      (∀ op, c.purpose = .colour → s.run.slot = some op →
        exec .needleTimeoutExpiry s = .next (settle (raiseNotice srcOpDone s.store.cursor
          (u8 op.kind.value ++ u8 op.starter.value ++ [1] ++ u8 s.store.cursorColour ++ target)
          { s with
            needle := freed
            run := { s.run with
              slot := none, resume := none, colourTimer := .stopped
              report := if s.run.state = .halted ∧ s.run.report.secondary.length < 8 then { s.run.report with
                  secondary := s.run.report.secondary ++ [⟨.needleTimeout, s.store.cursor, s.clock⟩] }
                else s.run.report } }))) ∧
      (∀ op, c.purpose = .landing → s.run.slot = some op →
        exec .needleTimeoutExpiry s = .next (settle (raiseNotice srcOpDone s.store.cursor
          (u8 op.kind.value ++ u8 op.starter.value ++ [1, 1] ++ target)
          { s with run := { s.run with slot := none }, needle := freed }))) ∧
      (c.purpose = .start → s.run.state = .running → s.run.phase = some .starting → s.shaft.motion = .stopped →
        ∃ t, exec .needleTimeoutExpiry s = .next (settle t) ∧
          t.run.state = .halted ∧ t.run.phase = none ∧ t.run.work = none ∧ t.run.outstanding = none ∧ t.run.resume = none ∧
          t.run.report.primary = some ⟨.needleTimeout, s.store.cursor, s.clock⟩ ∧
          t.run.report.secondary = s.run.report.secondary ∧ t.run.report.kind = some .controlled ∧
          t.run.report.angle = s.angle ∧ t.run.report.verdict = some (s.verdictAt s.angle) ∧
          t.run.report.overrun = 0 ∧ t.planner.demand = 0 ∧ t.shaft.line = 0 ∧ t.shaft.brake = true ∧
          t.notices.sources[srcStop].pending = true ∧ t.needle = { freed with watch := none } ∧
          t.frame = s.frame ∧ t.store.cursor = s.store.cursor)) ∧
    (s.needle.change = none → exec .needleTimeoutExpiry s = .next (settle s)) ∧
    (∀ w ms, s.needle.watch = some w → w.away = some ms → s.run.state = .running → s.run.phase = some .sewing →
      s.shaft.motion = .turning → s.shaft.waiting = none → s.shaft.quiet < s.nat .stopQuiet →
      ∃ t, exec .lostWatchExpiry s = .next (settle t) ∧
        t.needle = { s.needle with watch := none } ∧
        t.run.state = .stopping ∧ t.run.phase = some .braking ∧ t.run.kind = some .quick ∧
        t.run.report.primary = some ⟨.needleLost, s.store.cursor, s.clock⟩ ∧
        t.planner.demand = 0 ∧ t.shaft = { s.shaft with line := 0, stall := none, waiting := some .atBrakeMark } ∧
        t.store = s.store ∧ t.frame = s.frame ∧ t.func = s.func ∧ t.thread = s.thread ∧ t.table = s.table) ∧
    (s.needle.watch.bind LostWatch.away = none → exec .lostWatchExpiry s = .next (settle s))

/-! ### Tests -/

/-- SENSOR TEST (R153, R154) and CHANNEL TEST (R123): the refusals in order (R102), the test that begins, and what its expiry leaves: the
loads or lines released, the slot empty, OP_DONE raised, and of a SENSOR TEST a verdict on each tested head, its status changed by it,
with the result OK when all are PASSED and else FAILED, and in the detail the count of the heads and, in ascending head order, the
verdict, the idle reading and the reference reading of each (R153, R154, R204). The test of a start (R155) has no slot: with every tested
head PASSED the start goes on to the needle change (R136) or to the first call (R87); each head that fails latches a SENSOR record of the
source START_TEST, is FAULTED with the cursor kept, and raises HEAD_FAULT (R158, R167), and the causes HEAD_FAULT(h), in ascending head
order, end the start in HALTED with the lowest failing head as the primary cause (R88, R92, R96). The model's choices: an expiry with no
test in progress changes nothing but the levels it brings (log entry 11), the time in the OP_DONE of a channel test that ran its course is
its duration (log entry 35), the notices of all failing heads come before the first cause (log entry 21), and the layout of a HEAD_FAULT
detail (log entry 33). An automatic start that falls due as the end of a test empties the slot (R99, R101) is left to AUTOMATIC_START,
which is the model's reading (log entry 13, DEDUCED). -/
def Obligations.TestsRunAndEnd : Prop :=
  (∀ (tag : Byte) (heads : Half) (tension : List (BitVec 10)) (s : State), s.ready →
    let good := heads.toNat < 4096 ∧ heads ≠ 0 ∧ ∀ h : Head, heads.getLsbD h.val = true → s.fitted h = true
    let u := setTension tension s
    (¬ good → exec (.sensorTest tag heads tension) s = .next (replied 0x1B tag .form [] (hunt u))) ∧
    (good → s.inRun = true ∨ s.run.state = .locked →
      exec (.sensorTest tag heads tension) s = .next (replied 0x1B tag .state [] (hunt u))) ∧
    (good → s.inRun = false → s.run.state ≠ .locked → s.run.slot ≠ none →
      exec (.sensorTest tag heads tension) s = .next (replied 0x1B tag .busy [] (hunt u))) ∧
    (good → s.inRun = false → s.run.state ≠ .locked → s.run.slot = none →
      (s.shaft.motion = .turning →
        exec (.sensorTest tag heads tension) s = .next (replied 0x1B tag .state [] (hunt u))) ∧
      (s.shaft.motion = .stopped →
        exec (.sensorTest tag heads tension) s = .next (replied 0x1B tag .started [] { hunt u with
          run := { s.run with slot := some ⟨.sensorTest, .host, s.clock, none, false⟩ }
          thread := { s.thread with
            testLoad := heads.setWidth 12, test := some ⟨heads.setWidth 12, u.pins.tension, 50⟩ } })))) ∧
  (∀ (tension : List (BitVec 10)) (s : State) (x : SensorTest) (op : Op), s.awake → s.thread.test = some x →
    s.run.work ≠ some .sensorTest → s.run.slot = some op →
    let levels := (setTension tension s).pins.tension
    let idles := fun h : Head => decide (x.idle[h].toNat ≤ s.nat .sensorIdleMax)
    let refers := fun h : Head => decide (s.nat .sensorRefLo ≤ levels[h].toNat) && decide (levels[h].toNat ≤ s.nat .sensorRefHi)
    let listed := allHeads.filter (inSet x.heads)
    let verdict := fun h : Head => if idles h then (if refers h then 0 else 2) else (if refers h then 1 else 3)
    ∃ t, exec (.sensorTestExpiry tension) s = .next (settle t) ∧ t.pins = (setTension tension s).pins ∧
      t.thread.testLoad = 0 ∧ t.thread.test = none ∧ t.run = { s.run with slot := none } ∧
      t.notices = (raiseNotice srcOpDone s.store.cursor
        (u8 op.kind.value ++ u8 op.starter.value ++ [if listed.all (fun h => idles h && refers h) then 0 else 1]
          ++ u8 listed.length ++ listed.flatMap fun h => [verdict h] ++ u16 x.idle[h].toNat ++ u16 levels[h].toNat) s).notices ∧
      (∀ h : Head, inSet x.heads h = true → t.monitor h = { s.monitor h with
        sensor := if idles h && refers h then .passed else .failed }) ∧
      (∀ h : Head, inSet x.heads h = false → t.monitor h = s.monitor h) ∧
      t.store = s.store ∧ t.shaft = s.shaft ∧ t.frame = s.frame ∧ t.table = s.table ∧ t.func = s.func) ∧
  (∀ (tension : List (BitVec 10)) (s : State) (x : SensorTest), s.awake → s.thread.test = some x →
    s.run.work = some .sensorTest → s.run.state = .running → s.run.phase = some .starting →
    let levels := (setTension tension s).pins.tension
    let idles := fun h : Head => decide (x.idle[h].toNat ≤ s.nat .sensorIdleMax)
    let passes := fun h : Head => idles h && decide (s.nat .sensorRefLo ≤ levels[h].toNat) &&
      decide (levels[h].toNat ≤ s.nat .sensorRefHi)
    let fails := allHeads.filter fun h => inSet x.heads h && !passes h
    (fails = [] → ∃ u : State,
      u = { setTension tension s with run := { s.run with work := none }, thread := u.thread } ∧
      u.thread.testLoad = 0 ∧ u.thread.test = none ∧
      (∀ h : Head, u.monitor h = if inSet x.heads h then { s.monitor h with sensor := .passed } else s.monitor h) ∧
      ((∀ n, s.planNeedle = some n → s.needle.settled = some n) →
        exec (.sensorTestExpiry tension) s = .next (settle (call .nothing u))) ∧
      (∀ n, s.planNeedle = some n → s.needle.settled ≠ some n → s.restsUp = true →
        exec (.sensorTestExpiry tension) s = .next (settle { u with
          run := { s.run with work := some .needle }
          needle := { s.needle with
            target := n, request := true, watch := none
            change := some ⟨.start, n, s.run.starter, s.nat .needleTimeout, s.nat .needleTimeout, s.clock⟩ } }))) ∧
    (∀ (first : Head) (more : List Head), fails = first :: more → s.shaft.motion = .stopped →
      ∃ t, exec (.sensorTestExpiry tension) s = .next (settle t) ∧ t.pins = (setTension tension s).pins ∧
        t.thread.testLoad = 0 ∧ t.thread.test = none ∧
        t.run.state = .halted ∧ t.run.phase = none ∧ t.run.work = none ∧
        t.run.report.primary = some ⟨.headFault first, s.store.cursor, s.clock⟩ ∧
        t.run.report.secondary = s.run.report.secondary ++
          (more.take (8 - s.run.report.secondary.length)).map (fun h => ⟨.headFault h, s.store.cursor, s.clock⟩) ∧
        t.run.report.kind = some .controlled ∧ t.run.report.angle = s.angle ∧ t.run.report.overrun = 0 ∧
        t.run.report.incomplete = s.run.outstanding.map Turn.index ∧ t.notices.sources[srcStop].pending = true ∧
        t.planner.demand = 0 ∧ t.shaft.line = 0 ∧ t.shaft.brake = true ∧ t.frame = s.frame ∧
        t.store.cursor = s.store.cursor ∧
        (∀ h : Head, h ∈ fails →
          t.notices.sources[srcHeadFault h].pending = true ∧
          t.notices.sources[srcHeadFault h].detail =
            [3] ++ u24 s.store.cursor ++ u24 s.store.cursor ++ u16 (if idles h then levels[h].toNat else x.idle[h].toNat) ++
              [1, 3, 0, 0, 0, 0] ∧
          (t.head h).state = .faulted ∧ (t.head h).kept = some s.store.cursor ∧ (t.head h).faultHeld = false ∧
          (t.monitor h).sensor = .failed ∧ (t.monitor h).fault = some ⟨.sensor, s.store.cursor, s.store.cursor,
            if idles h then levels[h].toNat else x.idle[h].toNat, .startTest⟩ ∧
          (t.monitor h).breakRun = 0 ∧ (t.monitor h).window = [] ∧ (t.monitor h).stuckRun = 0 ∧ (t.monitor h).railRun = 0) ∧
        (∀ h : Head, h ∉ fails →
          (t.head h).state = (if (s.head h).faultHeld then .faulted else (s.head h).state) ∧
          (t.head h).kept = (s.head h).kept ∧
          t.monitor h = { s.monitor h with
            gatherings := [], sensor := if inSet x.heads h then .passed else (s.monitor h).sensor }))) ∧
  (∀ (tag chan : Byte) (heads duration : Half) (s : State), s.ready → 11 < chan.toNat →
    exec (.channelTest tag chan heads duration) s = .next (replied 0x1C tag .form [] (hunt s))) ∧
  (∀ (tag chan : Byte) (heads duration : Half) (s : State) (c : Chan), s.ready → c.val = chan.toNat →
    let good := heads.toNat < 4096 ∧ (∀ h : Head, heads.getLsbD h.val = true → s.fitted h = true) ∧
      1 ≤ duration.toNat ∧ duration.toNat ≤ 2000 ∧ (s.func.channels[c].type = .perHead → heads ≠ 0)
    (¬ good → exec (.channelTest tag chan heads duration) s = .next (replied 0x1C tag .form [] (hunt s))) ∧
    (good → s.inRun = true ∨ s.run.state = .locked →
      exec (.channelTest tag chan heads duration) s = .next (replied 0x1C tag .state [] (hunt s))) ∧
    (good → s.inRun = false → s.run.state ≠ .locked → s.run.slot ≠ none →
      exec (.channelTest tag chan heads duration) s = .next (replied 0x1C tag .busy [] (hunt s))) ∧
    (good → s.inRun = false → s.run.state ≠ .locked → s.run.slot = none → s.shaft.motion = .turning →
      exec (.channelTest tag chan heads duration) s = .next (replied 0x1C tag .state [] (hunt s))) ∧
    (good → s.inRun = false → s.run.state ≠ .locked → s.run.slot = none → s.shaft.motion = .stopped →
      exec (.channelTest tag chan heads duration) s = .next (replied 0x1C tag .started [] { hunt s with
        run := { s.run with slot := some ⟨.channelTest, .host, s.clock, none, false⟩ }
        func := { s.func with
          test := some ⟨c, heads.setWidth 12, duration.toNat, duration.toNat⟩
          channels := s.func.channels.set c { s.func.channels[c] with
            pulse := some ⟨true, heads.setWidth 12, decide (s.func.channels[c].type = .common), none, none⟩ } } }))) ∧
  (∀ (s : State) (x : ChanTest) (op : Op), s.awake → s.func.test = some x → s.run.slot = some op →
    exec .channelTestExpiry s = .next (settle (raiseNotice srcOpDone s.store.cursor
      (u8 op.kind.value ++ u8 op.starter.value ++ [0] ++ u8 x.chan.val ++ u16 x.heads.toNat ++ u32 x.duration)
      { s with
        run := { s.run with slot := none }
        func := { s.func with
          test := none
          channels := s.func.channels.set x.chan { s.func.channels[x.chan] with pulse := none } } }))) ∧
  (∀ (s : State), s.awake → s.func.test = none → exec .channelTestExpiry s = .next (settle s)) ∧
  (∀ (tension : List (BitVec 10)) (s : State), s.awake → s.thread.test = none →
    exec (.sensorTestExpiry tension) s = .next (settle (setTension tension s)))

/-! ### Heads -/

/-- HEAD MODE (R162) action by action; a head outside 1..HEADS is refused FORM. DISABLE and ISOLATE that leave no ACTIVE head in a run
outside repair raise ALL_ISOLATED, a stop of the stop-point family (R91, R162); ISOLATE in repair opens no gap (R162). An opened gap
absorbs what it meets and fails on a list of eight (R165). The model's readings: a STATE or FAULTED refusal names the head, and an ISOLATE
of an ISOLATED head changes and raises nothing (log entry 27); ISOLATE in repair clears fault held, the kept start and the pending
closing as outside repair (log entry 26). -/
def Obligations.HeadModeChangesTheHead : Prop :=
  ∀ (tag b : Byte) (s : State), s.ready →
    ((∀ h : Head, b.toNat = h.val + 1 → s.fitted h = false) → ∀ i ∈ [Instr.headModeEnable tag b, .headModeDisable tag b,
      .headModeIsolate tag b, .headModePolicyStop tag b, .headModePolicyIsolate tag b],
      exec i s = .next (replied 0x1D tag .form [] (hunt s))) ∧
    (∀ h : Head, b.toNat = h.val + 1 → s.fitted h = true →
      let with' := fun e : HeadEntry => { hunt s with table := { s.table with heads := s.table.heads.set h e } }
      let sewsOn := ∃ k : Head, k ≠ h ∧ s.fitted k = true ∧ (s.head k).state = .active
      let stopsAll := fun t : State =>
        t.run.state = .stopping ∧ t.run.phase = some .sewing ∧ t.run.kind = some .controlled ∧
        t.run.report.primary = some ⟨.allIsolated, s.store.cursor, s.clock⟩ ∧ t.planner.stopPoint.isSome = true ∧
        t.shaft = s.shaft ∧ t.frame = s.frame ∧ t.store = s.store ∧ t.thread = s.thread ∧ t.func = s.func
      (exec (.headModePolicyStop tag b) s = .next (replied 0x1D tag .done [] (with' { s.head h with policy := .stop }))) ∧
      (exec (.headModePolicyIsolate tag b) s =
        .next (replied 0x1D tag .done [] (with' { s.head h with policy := .isolate }))) ∧
      ((s.head h).state = .active → exec (.headModeEnable tag b) s = .next (replied 0x1D tag .done [] (hunt s))) ∧
      ((s.head h).state = .isolated ∨ (s.head h).state = .faulted →
        exec (.headModeEnable tag b) s = .next (replied 0x1D tag .state [b] (hunt s))) ∧
      ((s.head h).state = .disabled →
        (s.shaft.motion = .turning → exec (.headModeEnable tag b) s = .next (replied 0x1D tag .state [b] (hunt s))) ∧
        (s.shaft.motion = .stopped → (s.monitor h).sensor = .failed ∨ (s.monitor h).fault ≠ none →
          exec (.headModeEnable tag b) s = .next (replied 0x1D tag .faulted [b] (hunt s))) ∧
        (s.shaft.motion = .stopped → (s.monitor h).sensor ≠ .failed → (s.monitor h).fault = none →
          exec (.headModeEnable tag b) s = .next (replied 0x1D tag .done [] (with' { s.head h with state := .active })))) ∧
      (∀ l c, hasOpenGap l = false →
        (s.head h).gaps = l ∧ c = l ∨
          (∃ a, a < s.store.cursor ∧ (s.head h).gaps = l ++ [⟨a, none⟩] ∧ c = l ++ [⟨a, some s.store.cursor⟩]) →
        let disabled : State := { with' ⟨.disabled, (s.head h).policy, false, none, c, false⟩ with
          run := { s.run with repair := { s.run.repair with
            selection := s.run.repair.selection &&& ~~~(BitVec.ofNat 12 (2 ^ h.val)) } } }
        (s.inRun = false ∨ s.run.repair.active = true ∨ sewsOn →
          exec (.headModeDisable tag b) s = .next (replied 0x1D tag .done [] disabled)) ∧
        (s.run.state = .running → s.run.phase = some .sewing → s.run.repair.active = false → ¬ sewsOn →
          ∃ t, exec (.headModeDisable tag b) s = .next (replied 0x1D tag .done [] t) ∧ t.table = disabled.table ∧
            stopsAll t)) ∧
      ((s.head h).state = .disabled → exec (.headModeIsolate tag b) s = .next (replied 0x1D tag .state [b] (hunt s))) ∧
      ((s.head h).state = .isolated → exec (.headModeIsolate tag b) s = .next (replied 0x1D tag .done [] (hunt s))) ∧
      ((s.head h).state = .active ∨ (s.head h).state = .faulted → s.run.repair.active = false →
        let a := max ((s.head h).kept.getD s.store.cursor) s.store.retire
        (openGapAt a (s.head h).gaps = none →
          exec (.headModeIsolate tag b) s = .next (replied 0x1D tag .state [255] (hunt s))) ∧
        (∀ gaps, openGapAt a (s.head h).gaps = some gaps →
          let isolated := with' ⟨.isolated, (s.head h).policy, false, none, gaps, false⟩
          (s.inRun = false ∨ sewsOn →
            exec (.headModeIsolate tag b) s = .next (replied 0x1D tag .done [] isolated)) ∧
          (s.run.state = .running → s.run.phase = some .sewing → ¬ sewsOn →
            ∃ t, exec (.headModeIsolate tag b) s = .next (replied 0x1D tag .done [] t) ∧ t.table = isolated.table ∧
              stopsAll t))) ∧
      ((s.head h).state = .active ∨ (s.head h).state = .faulted → s.run.repair.active = true →
        exec (.headModeIsolate tag b) s = .next (replied 0x1D tag .done []
          { with' ⟨.isolated, (s.head h).policy, false, none, (s.head h).gaps, false⟩ with
            run := { s.run with repair := { s.run.repair with
              selection := s.run.repair.selection &&& ~~~(BitVec.ofNat 12 (2 ^ h.val)) } } }))) ∧
    (∀ (a : Nat) (l : List Gap), (∀ g ∈ l, ∃ e, g.stop = some e ∧ e < a) →
      openGapAt a l = (if l.length < 8 then some (l ++ [⟨a, none⟩]) else none) ∧
      ∀ (start : Nat) (stop : Option Nat), (∀ e, stop = some e → a ≤ e) →
        openGapAt a (l ++ [⟨start, stop⟩]) = some (l ++ [⟨min a start, none⟩]))

/-- HEAD CLEAR (R168), GAP DROP (R169), BOBBIN SET (R156) and a thread pulse (R144) at one head: what each clears, writes or counts, and
that no other head or monitor changes. HEAD CLEAR sets the closing of an ISOLATED head pending in a run even when it holds no open gap, as
R168 says word for word (log entry 25). Then the completion of a turn through ENCODER_COUNT in BRAKING: the monitor that gathered the turn
evaluates it, in the order of R146 (bobbin R157, a latched fault R158, sensor health R151, holdoff R150, thread motion R147, tension R148
and R149, bobbin empty); its warning raises BOBBIN with the count left (R157), and its fault HEAD_FAULT with the record, the outcome and
the start of a gap opened (R158), and the fault goes by the head's policy (R167): held under STOP or with a full gap list, ISOLATED with
an open gap otherwise, with the cause ALL_ISOLATED when no head is left ACTIVE. In repair a completed turn takes what was sewn out of the
gaps of a selected head (R174), and a fault of a selected head lowers the start of its first gap to the detection start, brought up to
retire, and takes it out of the selection as ISOLATED, or under STOP is held with the cause HEAD_FAULT(h) (R175); nothing sewn in that
turn is then taken out of the gaps. The model's choices: the order operand names no taker, so the completion is taken before retention,
which decides the retire at which a gap is opened (log entry 4); a fault follows the policy whatever the head's state, and an ISOLATE
outcome keeps a pending closing (log entry 26); the layout of a HEAD_FAULT detail, the start of the gap that ISOLATED opens among it, is
log entry 33. -/
def Obligations.HeadsAreClearedAndCounted : Prop :=
  (∀ (tag b : Byte) (value : Word) (s : State), s.ready →
    ((∀ h : Head, b.toNat = h.val + 1 → s.fitted h = false) →
      exec (.headClear tag b) s = .next (replied 0x1E tag .form [] (hunt s)) ∧
      exec (.gapDrop tag b) s = .next (replied 0x1F tag .form [] (hunt s)) ∧
      exec (.bobbinSet tag b value) s = .next (replied 0x20 tag .form [] (hunt s))) ∧
    (∀ h : Head, b.toNat = h.val + 1 → s.fitted h = true →
      let sensorBars := (∃ f, (s.monitor h).fault = some f ∧ f.kind = .sensor) ∧ (s.monitor h).sensor ≠ .passed
      let cleared := fun e : HeadEntry => { hunt s with
        table := { s.table with heads := s.table.heads.set h e }
        thread := { s.thread with monitors := s.thread.monitors.set h { s.monitor h with fault := none } } }
      (sensorBars → exec (.headClear tag b) s = .next (replied 0x1E tag .faulted [] (hunt s))) ∧
      (¬ sensorBars →
        ((s.head h).state = .faulted → s.shaft.motion = .turning →
          exec (.headClear tag b) s = .next (replied 0x1E tag .state [] (hunt s))) ∧
        ((s.head h).state = .faulted → s.shaft.motion = .stopped →
          exec (.headClear tag b) s = .next (replied 0x1E tag .done []
            (cleared { s.head h with kept := none, state := .active }))) ∧
        ((s.head h).state = .isolated → s.inRun = true →
          exec (.headClear tag b) s = .next (replied 0x1E tag .done []
            (cleared { s.head h with kept := none, state := .active, closing := true }))) ∧
        (∀ l c, (s.head h).state = .isolated → s.inRun = false → hasOpenGap l = false →
          (s.head h).gaps = l ∧ c = l ∨
            (∃ a, a < s.store.cursor ∧ (s.head h).gaps = l ++ [⟨a, none⟩] ∧ c = l ++ [⟨a, some s.store.cursor⟩]) →
          exec (.headClear tag b) s = .next (replied 0x1E tag .done []
            (cleared { s.head h with kept := none, state := .active, gaps := c }))) ∧
        ((s.head h).state = .active → (s.head h).faultHeld = true →
          exec (.headClear tag b) s = .next (replied 0x1E tag .state [] (hunt s))) ∧
        ((s.head h).state = .disabled ∨ ((s.head h).state = .active ∧ (s.head h).faultHeld = false) →
          exec (.headClear tag b) s = .next (replied 0x1E tag .done [] (cleared { s.head h with kept := none })))) ∧
      (∃ t, exec (.gapDrop tag b) s = .next (replied 0x1F tag .done [] t) ∧
        t.head h = { s.head h with
          closing := false
          gaps := if (s.head h).state = .isolated ∧ s.run.repair.active = false
            then [⟨max s.store.cursor s.store.retire, none⟩] else [] } ∧
        (∀ k : Head, k ≠ h → t.head k = s.head k) ∧
        t.store = (runRetention { s with table := t.table }).store ∧
        t.params = s.params ∧ t.shaft = s.shaft ∧ t.frame = s.frame ∧ t.run = s.run ∧ t.thread = s.thread ∧
        t.func = s.func ∧ t.needle = s.needle ∧ t.notices = s.notices) ∧
      (1000000 < value.toNat → value ≠ 0xFFFFFFFF#32 →
        exec (.bobbinSet tag b value) s = .next (replied 0x20 tag .form [] (hunt s))) ∧
      (value.toNat ≤ 1000000 ∨ value = 0xFFFFFFFF#32 →
        exec (.bobbinSet tag b value) s = .next (replied 0x20 tag .done [] { hunt s with
          thread := { s.thread with monitors := s.thread.monitors.set h { s.monitor h with
            bobbin := if value = 0xFFFFFFFF#32 then none else some value.toNat } } })))) ∧
  (∀ (h : Head) (s : State), s.awake →
    exec (.threadPulse h) s = .next (settle { s with thread := { s.thread with
      monitors := s.thread.monitors.set h { s.monitor h with
        gatherings := (s.monitor h).gatherings.map fun g =>
          if g.gate = .opened then { g with pulses := min 255 (g.pulses + 1) } else g } } })) ∧
  (∀ (tension : List (BitVec 10)) (x : Turn) (s : State), s.NearsWindowStart → s.run.state = .stopping →
    s.run.phase = some .braking → s.run.outstanding = some x →
    let rest := fun (h : Head) (t : State) =>
      (∀ k : Head, k ≠ h → t.head k = s.head k ∧ t.monitor k = s.monitor k) ∧ t.pins = (setTension tension s).pins ∧
      t.params = s.params ∧ t.shaft = (s.arrived tension).shaft ∧ t.frame = s.frame ∧ t.func = s.func ∧
      t.needle = s.needle ∧ t.planner = s.planner ∧ t.store.cursor = s.store.cursor ∧ t.store.fill = s.store.fill ∧
      t.run.state = .stopping ∧ t.run.phase = some .braking ∧ t.run.outstanding = none
    let sewn := fun g : Gap =>
      if g.stop.any (fun e => decide (e ≤ x.index + 1)) then none
      else some (⟨if g.start ≤ x.index then x.index + 1 else g.start, g.stop⟩ : Gap)
    let advanced := fun h : Head =>
      let left := s.store.held.any fun p => decide (p.1 < x.index) && p.2.isStitch && (s.head h).gaps.any (·.covers p.1)
      { s.head h with gaps := if left then (s.head h).gaps else (s.head h).gaps.filterMap sewn }
    (∀ (h : Head) (g : Gathering), s.run.repair.active = false → (s.monitor h).gatherings = [g] → g.turn = x.index →
      (∀ k : Head, k ≠ h → ∀ y ∈ (s.monitor k).gatherings, y.turn ≠ x.index) →
      let e := s.evaluate x.index g (s.monitor h)
      ∃ t, exec (.encoderCount .forward tension []) s = .next (settle t) ∧ rest h t ∧ t.monitor h = e.1 ∧
        (e.2.2 = true → t.notices.sources[srcBobbin h].pending = true ∧
          t.notices.sources[srcBobbin h].latest = x.index ∧
          t.notices.sources[srcBobbin h].detail = u32 (e.1.bobbin.getD 0)) ∧
        (e.2.1 = none → t.head h = s.head h ∧ t.run = { s.run with outstanding := none }) ∧
        (∀ f, e.2.1 = some f → t.notices.sources[srcHeadFault h].pending = true ∧
          t.notices.sources[srcHeadFault h].latest = x.index ∧
          let a := max f.start s.store.retire
          ((s.head h).policy = .stop ∨ openGapAt a (s.head h).gaps = none →
            t.head h = { s.head h with faultHeld := true, kept := some f.start } ∧
            t.notices.sources[srcHeadFault h].detail =
              faultBytes f ++ [if (s.head h).policy = .stop then 1 else 2] ++ whenBytes none 3 ∧
            t.run.report.secondary = s.run.report.secondary ++
              (if s.run.report.secondary.length < 8 then [⟨.headFault h, f.index, s.clock⟩] else [])) ∧
          (∀ gaps, (s.head h).policy = .isolate → openGapAt a (s.head h).gaps = some gaps →
            t.head h = { s.head h with state := .isolated, gaps := gaps } ∧
            t.notices.sources[srcHeadFault h].detail =
              faultBytes f ++ [0] ++ whenBytes (gaps.getLast?.map fun y => u24 y.start) 3 ∧
            ((∃ k : Head, k ≠ h ∧ s.fitted k = true ∧ (s.head k).state = .active) →
              t.run = { s.run with outstanding := none }) ∧
            ((∀ k : Head, k ≠ h → s.fitted k = true → (s.head k).state ≠ .active) →
              t.run.report.secondary = s.run.report.secondary ++
                (if s.run.report.secondary.length < 8 then [⟨.allIsolated, s.store.cursor, s.clock⟩] else []))))) ∧
    (∀ h : Head, s.run.repair.active = true → s.run.repair.selection = BitVec.ofNat 12 (2 ^ h.val) →
      (∀ k : Head, ∀ y ∈ (s.monitor k).gatherings, y.turn ≠ x.index) →
      s.fitted h = true → (s.head h).state = .active → (s.head h).faultHeld = false →
      ∃ t, exec (.encoderCount .forward tension []) s = .next (settle t) ∧ rest h t ∧ t.monitor h = s.monitor h ∧
        t.head h = advanced h) ∧
    (∀ (h : Head) (g : Gathering), s.run.repair.active = true → s.run.repair.selection = BitVec.ofNat 12 (2 ^ h.val) →
      (s.monitor h).gatherings = [g] → g.turn = x.index →
      (∀ k : Head, k ≠ h → ∀ y ∈ (s.monitor k).gatherings, y.turn ≠ x.index) →
      let e := s.evaluate x.index g (s.monitor h)
      ∃ t, exec (.encoderCount .forward tension []) s = .next (settle t) ∧ rest h t ∧ t.monitor h = e.1 ∧
        (e.2.2 = true → t.notices.sources[srcBobbin h].pending = true ∧
          t.notices.sources[srcBobbin h].latest = x.index ∧
          t.notices.sources[srcBobbin h].detail = u32 (e.1.bobbin.getD 0)) ∧
        (e.2.1 = none → s.fitted h = true → (s.head h).state = .active → (s.head h).faultHeld = false →
          t.run = { s.run with outstanding := none } ∧
          t.head h = advanced h) ∧
        (∀ f, e.2.1 = some f →
          let lowered := match (s.head h).gaps with
            | [] => []
            | y :: ys => { y with start := min y.start (max f.start s.store.retire) } :: ys
          let gap := whenBytes (lowered.head?.map fun y => u24 y.start) 3
          t.notices.sources[srcHeadFault h].pending = true ∧ t.notices.sources[srcHeadFault h].latest = x.index ∧
          ((s.head h).policy = .isolate → t.head h = { s.head h with state := .isolated, gaps := lowered } ∧
            t.run = { s.run with outstanding := none, repair := { s.run.repair with selection := 0 } } ∧
            t.notices.sources[srcHeadFault h].detail = faultBytes f ++ [4] ++ gap) ∧
          ((s.head h).policy = .stop →
            t.head h = { s.head h with gaps := lowered, faultHeld := true, kept := some f.start } ∧
            t.run.repair = s.run.repair ∧ t.notices.sources[srcHeadFault h].detail = faultBytes f ++ [5] ++ gap ∧
            t.run.report.secondary = s.run.report.secondary ++
              (if s.run.report.secondary.length < 8 then [⟨.headFault h, f.index, s.clock⟩] else []))))) ∧
  (∀ (t : Nat) (g : Gathering) (m : Monitor) (s : State),
    let e := s.evaluate t g m
    let stuck := if m.stuckRun ≠ 0 ∧ g.reading = some m.stuckReading then m.stuckRun + 1 else 1
    let stuckFirst := if m.stuckRun ≠ 0 ∧ g.reading = some m.stuckReading then m.stuckFirst else t
    let railed := g.reading = some 0 ∨ g.reading = some 1023
    let low := g.gate ≠ .notYet ∧ g.pulses < s.nat .pulseMin
    let breaks := low ∧ s.nat .breakRun ≤ m.breakRun + 1
    let held := 0 < m.holdCount ∧ m.holdFrom ≤ t
    let sound := m.fault = none ∧ (g.reading ≠ none → stuck < 64 ∧ (railed → m.railRun + 1 < 8))
    let verdict := fun r : BitVec 10 =>
      if r.toNat < s.nat .tenLow then Tension.low else if s.nat .tenHigh < r.toNat then .high else .inside
    let window := match g.reading with
      | some r => (m.window ++ [(⟨verdict r, t⟩ : WindowEntry)]).drop (m.window.length + 1 - s.nat .tenWindow)
      | none => m.window
    let ofKind := fun v : Tension => window.filter fun w => decide (w.verdict = v)
    let reaches := fun v : Tension => g.reading ≠ none ∧ ofKind v ≠ [] ∧ s.nat .tenCount ≤ (ofKind v).length
    let judged := sound ∧ ¬ held ∧ ¬ breaks
    e.1.bobbin = m.bobbin.map (fun n => n - 1) ∧ e.1.member = m.member ∧ e.1.holdFrom = m.holdFrom ∧
    e.1.gatherings = m.gatherings.filter (fun y => decide (y.turn ≠ t)) ∧
    (e.2.2 = true ↔ m.bobbin = some (s.nat .bobbinWarn + 1)) ∧
    (m.fault ≠ none → e.2.1 = none ∧ e.1.fault = m.fault ∧ e.1.breakRun = m.breakRun ∧ e.1.window = m.window) ∧
    (∀ f, e.2.1 = some f → f.index = t ∧ f.source = .run ∧ e.1.fault = some f ∧ e.1.breakRun = 0 ∧ e.1.window = [] ∧
      e.1.stuckRun = 0 ∧ e.1.railRun = 0 ∧ e.1.sensor = (if f.kind = .sensor then .failed else m.sensor)) ∧
    (∀ r, m.fault = none → g.reading = some r → railed → 8 ≤ m.railRun + 1 →
      e.2.1 = some ⟨.sensor, if m.railRun = 0 then t else m.railFirst, t, r.toNat, .run⟩) ∧
    (∀ r, m.fault = none → g.reading = some r → ¬ (railed ∧ 8 ≤ m.railRun + 1) → 64 ≤ stuck →
      e.2.1 = some ⟨.sensor, stuckFirst, t, r.toNat, .run⟩) ∧
    (∀ r, e.2.1 = none → m.fault = none → g.reading = some r → e.1.stuckRun = stuck ∧ e.1.stuckReading = r ∧
      e.1.stuckFirst = stuckFirst ∧ e.1.railRun = (if railed then m.railRun + 1 else 0)) ∧
    (sound → held → e.2.1 = none ∧ e.1.holdCount = m.holdCount - 1 ∧ e.1.breakRun = m.breakRun ∧ e.1.window = m.window) ∧
    (sound → ¬ held → breaks →
      e.2.1 = some ⟨.breakFault, if m.breakRun = 0 then t else m.breakFirst, t, g.pulses, .run⟩) ∧
    (judged → reaches .low →
      e.2.1 = some ⟨.lowTension, ((ofKind .low).head?.map WindowEntry.turn).getD 0, t, (ofKind .low).length, .run⟩) ∧
    (judged → ¬ reaches .low → reaches .high →
      e.2.1 = some ⟨.highTension, ((ofKind .high).head?.map WindowEntry.turn).getD 0, t, (ofKind .high).length, .run⟩) ∧
    (judged → ¬ reaches .low → ¬ reaches .high → e.1.bobbin = some 0 → e.2.1 = some ⟨.bobbin, t, t, 0, .run⟩) ∧
    (judged → ¬ reaches .low → ¬ reaches .high → e.1.bobbin ≠ some 0 → e.2.1 = none ∧ e.1.window = window ∧
      e.1.holdCount = m.holdCount ∧
      e.1.breakRun = (if low then m.breakRun + 1 else if g.gate = .notYet then m.breakRun else 0)))

/-! ### The shaft -/

/-- Counts and the index (R24 to R26, R28): a count that reaches no mark moves the counter by one and restarts the quiet time and the
stall timer, and a shaft that stood under a demand is TURNING (R31); with no demand the needle flag of a STOPPED shaft follows the angle,
needle-down while UNSYNCED, and a change to needle-down marks a move to end its operation (R32, R74, R80), ends a needle change with
NEEDLE_DOWN (R133 to R137), or takes MOVE_LATE in a first move (R66). A count that reaches the brake mark carries out the order that waits
for it (R34, R37), one at the gate or sample marks changes the newest gathering (R144, R145), one at a channel's mark counts a due off,
begins the pulse or ends it (R29, R118), one at the window end or jump-window end takes MOVE_LATE for a move still watched (R65), one at
the rest mark brakes a NEEDLE UP (R38), and one at window start counts an overrun, STOP_FAIL at the third (R37). The first index after the
sync was lost sets the counter and makes the part SYNCED, and a later one times the revolution, one that fails its check too (R25, R27);
the angle is the count times 360 over ENC_COUNTS; a missed index raises ENCODER with the counter 0, the sync lost and needle-down. Log
entry 28 holds the model's choices: an index restarts the quiet time and the stall timer and raises no mark as it syncs, a revolution of 0
microseconds gives 65,535, a failed index check raises ENCODER before the counter is set, and a flag that lost its sync stays needle-down
while the shaft turns on; the layout of the OP_DONE details is log entry 33, and a late turn move counts as no move of the work in
progress (log entry 48). An automatic start that falls due as an operation so ended empties the slot (R99, R101) is left to
AUTOMATIC_START, which is the model's reading (log entry 13, DEDUCED). -/
def Obligations.TheShaftCounts : Prop :=
  (∀ (dir : Dir) (tension : List (BitVec 10)) (order : List Taker) (s : State), s.awake → s.shaft.motion = .turning →
    let c := s.shaft.count + (match dir with
      | .forward => 1
      | .reverse => -1)
    let noted := { s.shaft with quiet := 0, stall := s.shaft.stall.map fun _ => 0 }
    let u := takeCause .encoder s.store.cursor { setTension tension s with shaft := noted }
    let passes := (if s.shaft.synced then -2 else -(s.nat .encCounts + 2 : Int)) ≤ c ∧ c ≤ s.nat .encCounts + 2
    let anew := dir = .forward ∧ s.shaft.synced = true ∧ passes ∧ s.angle ≠ some (angleOfCount (s.nat .encCounts) c)
    let newest := fun (f : Gathering → Gathering) => exec (.encoderCount dir tension order) s =
      .next (settle { setTension tension s with
        shaft := { noted with count := c }
        thread := { s.thread with monitors := s.thread.monitors.map fun m => { m with
          gatherings := m.gatherings.dropLast ++ m.gatherings.getLast?.toList.map f } } })
    ((if s.shaft.synced then -2 else -(s.nat .encCounts + 2 : Int)) ≤ c → c ≤ s.nat .encCounts + 2 →
      (dir = .reverse ∨ s.shaft.synced = false ∨
        (∀ t, s.takesAt (angleOfCount (s.nat .encCounts) c) t = false)) →
      exec (.encoderCount dir tension order) s = .next (settle { setTension tension s with
        shaft := { noted with count := c, timedRev := s.shaft.timedRev && decide (dir = .forward) } })) ∧
    (s.nat .encCounts + 2 < c ∨ c < (if s.shaft.synced then -2 else -(s.nat .encCounts + 2 : Int)) → 0 < s.nat .stopQuiet →
      exec (.encoderCount dir tension order) s = .next (settle (takeCause .encoder s.store.cursor
        { setTension tension s with
          shaft := { noted with count := 0, synced := false, timedRev := false, needleUp := false } }))) ∧
    (∀ us : Word, dir = .reverse → s.shaft.synced = true → s.shaft.count < -2 ∨ 2 < s.shaft.count → 0 < s.nat .stopQuiet →
      exec (.encoderIndex dir us tension order) s = .next (settle
        { u with shaft := { u.shaft with count := s.nat .encCounts, synced := true, timedRev := false } })) ∧
    (∀ us : Word, dir = .forward → s.shaft.synced = true →
      s.shaft.count < (s.nat .encCounts : Int) - 2 ∨ (s.nat .encCounts : Int) + 2 < s.shaft.count →
      (∀ t, s.takesAt 0 t = true → ∃ k, t = .channel k) → 0 < s.nat .stopQuiet →
      exec (.encoderIndex dir us tension order) s = .next (settle { u with shaft := { u.shaft with
        count := 0, revs := s.shaft.revs + 1, timedRev := true
        speed := if s.shaft.timedRev then (if us = 0 then 65535 else min 65535 (60000000 / us.toNat))
          else s.shaft.speed } })) ∧
    (anew → (∀ t, s.takesAt (angleOfCount (s.nat .encCounts) c) t = true ↔ t = .gateStart) →
      newest fun g => { g with gate := if g.gate = .notYet then .opened else g.gate }) ∧
    (anew → (∀ t, s.takesAt (angleOfCount (s.nat .encCounts) c) t = true ↔ t = .gateEnd) →
      newest fun g => { g with gate := if g.gate = .opened then .closed else g.gate }) ∧
    (anew → (∀ t, s.takesAt (angleOfCount (s.nat .encCounts) c) t = true ↔ t = .sample) →
      (∀ h : Head, tension[h.val]? = none) → ∃ t, exec (.encoderCount dir tension order) s = .next (settle t) ∧
      t.shaft = { noted with count := c } ∧ ∀ h : Head, t.monitor h = { s.monitor h with
        gatherings := (s.monitor h).gatherings.dropLast ++ (s.monitor h).gatherings.getLast?.toList.map fun g =>
          { g with reading := g.reading.or (some s.pins.tension[h]) } }) ∧
    (∀ us : Word, s.shaft.synced = false →
      exec (.encoderIndex dir us tension order) s = .next (settle { setTension tension s with
        shaft := { noted with
          count := match dir with
            | .forward => 0
            | .reverse => s.nat .encCounts
          synced := true, timedRev := false } })) ∧
    (∀ us : Word, dir = .reverse → s.shaft.synced = true → -2 ≤ s.shaft.count → s.shaft.count ≤ 2 →
      exec (.encoderIndex dir us tension order) s = .next (settle { setTension tension s with
        shaft := { noted with count := s.nat .encCounts, timedRev := false } })) ∧
    (∀ us : Word, dir = .forward → s.shaft.synced = true → s.angle = some 359 →
      (s.nat .encCounts : Int) - 2 ≤ s.shaft.count → s.shaft.count ≤ s.nat .encCounts + 2 →
      (∀ t, s.takesAt 0 t = false) →
      exec (.encoderIndex dir us tension order) s = .next (settle { setTension tension s with
        shaft := { noted with
          count := 0, revs := s.shaft.revs + 1, timedRev := true
          speed := if s.shaft.timedRev then (if us = 0 then 65535 else min 65535 (60000000 / us.toNat))
            else s.shaft.speed } })) ∧
    (dir = .forward → s.shaft.synced = true → c ≤ s.nat .encCounts + 2 → -2 ≤ c →
      s.angle ≠ some (angleOfCount (s.nat .encCounts) c) →
      (∀ t, s.takesAt (angleOfCount (s.nat .encCounts) c) t = true ↔ t = .brake) →
      s.shaft.waiting = some .atBrakeMark → s.shaft.brake = false →
      exec (.encoderCount dir tension order) s = .next (settle { setTension tension s with
        shaft := { noted with count := c, brake := true, waiting := none, counting := true, overrun := 0 } })) ∧
    (∀ (k : Chan) (p : Pulse), anew →
      (∀ t, s.takesAt (angleOfCount (s.nat .encCounts) c) t = true ↔ t = .channel k) →
      s.func.channels[k].pulse = some p →
      let a := angleOfCount (s.nat .encCounts) c
      let off := fun d : Due => if d.angle = a then { d with toGo := d.toGo - 1 } else d
      let leaves := fun q : Option Pulse => exec (.encoderCount dir tension order) s = .next (settle { setTension tension s with
        shaft := { noted with count := c }
        func := { s.func with channels := s.func.channels.set k { s.func.channels[k] with pulse := q } } })
      (∀ d, p.stop = some d → d.angle = a → d.toGo = 1 → (∀ b, p.start = some b → b.angle ≠ a ∨ 1 < b.toGo) →
        leaves none) ∧
      (∀ b, p.start = some b → b.angle = a → b.toGo = 1 →
        (∀ d, p.stop = some d → 0 < d.toGo ∧ (d.angle = a → 1 < d.toGo)) →
        leaves (some { p with active := true, start := none, stop := p.stop.map off })) ∧
      ((∀ d, p.start = some d ∨ p.stop = some d → 0 < d.toGo ∧ (d.angle = a → 1 < d.toGo)) →
        leaves (some { p with start := p.start.map off, stop := p.stop.map off }))) ∧
    (∀ (w : LateWatch) (taker : Taker), (w, taker) ∈ [(LateWatch.windowEnd, Taker.windowEnd), (.jumpEnd, .jumpEnd)] → anew →
      (∀ t, s.takesAt (angleOfCount (s.nat .encCounts) c) t = true ↔ t = taker) →
      (s.frame.late ≠ some w → exec (.encoderCount dir tension order) s =
        .next (settle { setTension tension s with shaft := { noted with count := c } })) ∧
      (∀ m i, s.frame.late = some w → s.frame.move = some m → m.turn = some i → s.run.state = .running →
        s.run.phase = some .sewing → 0 < s.nat .stopQuiet →
        ∃ t, exec (.encoderCount dir tension order) s = .next (settle t) ∧ t.run.state = .stopping ∧
          t.run.phase = some .braking ∧ t.run.kind = some .quick ∧
          t.run.report.primary = some ⟨.moveLate, i, s.clock⟩ ∧ t.run.inject = none ∧
          t.run.outstanding = s.run.outstanding ∧ t.planner.demand = 0 ∧ t.frame = { s.frame with late := none } ∧
          t.shaft = { noted with
            count := c, line := 0, stall := none, waiting := s.shaft.waiting.or (some .atBrakeMark) } ∧
          t.store = s.store ∧ t.thread = s.thread ∧ t.table = s.table ∧ t.func = s.func)) ∧
    (∀ op, anew → (∀ t, s.takesAt (angleOfCount (s.nat .encCounts) c) t = true ↔ t = .rest) →
      s.run.slot = some op → op.kind = .needleUp → 0 < s.shaft.line → s.shaft.brake = false →
      exec (.encoderCount dir tension order) s = .next (settle { setTension tension s with
        shaft := { noted with
          count := c, line := 0, stall := none, brake := true, waiting := none, counting := true, overrun := 0 } })) ∧
    (anew → (∀ t, s.takesAt (angleOfCount (s.nat .encCounts) c) t = true ↔ t ∈ [.overrun, .completion, .retention, .call]) →
      s.shaft.counting = true →
      s.run.phase = none ∨ (s.run.phase = some .braking ∧ s.run.outstanding = none) →
      (s.shaft.overrun ≠ 2 → exec (.encoderCount dir tension order) s = .next (settle { setTension tension s with
        shaft := { noted with count := c, overrun := s.shaft.overrun + 1 } })) ∧
      (s.shaft.overrun = 2 → s.run.state = .stopping → s.run.phase = some .braking → s.run.slot = none → s.run.work = none →
        s.shaft.brake = true → 0 < s.nat .stopQuiet →
        ∃ t, exec (.encoderCount dir tension order) s = .next (settle t) ∧ t.run.state = .stopping ∧
          t.run.phase = some .braking ∧ t.run.kind = some .emergency ∧ t.run.report.primary = s.run.report.primary ∧
          t.run.report.secondary = s.run.report.secondary ++
            (if s.run.report.secondary.length < 8 then [⟨.stopFail, s.store.cursor, s.clock⟩] else []) ∧
          t.shaft = { noted with count := c, overrun := 3, line := 0, stall := none, waiting := none } ∧
          t.planner.demand = 0 ∧ t.frame.move = none ∧ t.table.engage = 0 ∧
          (∀ k : Chan, t.func.channels[k] = { s.func.channels[k] with latch := none, pulse := none })))) ∧
  (∀ (dir : Dir) (tension : List (BitVec 10)) (order : List Taker) (s : State), s.awake → s.shaft.motion = .stopped →
    let c := s.shaft.count + (match dir with
      | .forward => 1
      | .reverse => -1)
    let at' := fun (n : Int) (synced timed : Bool) => { setTension tension s with shaft := { s.shaft with
      count := n, synced := synced, timedRev := timed, quiet := 0, stall := s.shaft.stall.map fun _ => 0 } }
    let turning := fun t : State => { t with shaft := { t.shaft with motion := .turning } }
    let follows := fun t : State => { t with shaft := { t.shaft with needleUp := t.flagNow } }
    let still := s.frame.move = none ∧ s.frame.dwell = none ∧ s.needle.change = none
    let q := at' c s.shaft.synced (s.shaft.timedRev && decide (dir = .forward))
    (∀ us : Word, s.shaft.synced = false →
      let q := at' (match dir with
        | .forward => 0
        | .reverse => s.nat .encCounts) true false
      (0 < s.shaft.line → exec (.encoderIndex dir us tension order) s = .next (settle (turning q))) ∧
      (s.shaft.line = 0 → s.shaft.needleUp = false →
        exec (.encoderIndex dir us tension order) s = .next (settle (follows q)))) ∧
    ((if s.shaft.synced then -2 else -(s.nat .encCounts + 2 : Int)) ≤ c → c ≤ s.nat .encCounts + 2 →
      (dir = .reverse ∨ s.shaft.synced = false ∨
        (∀ t, s.takesAt (angleOfCount (s.nat .encCounts) c) t = false)) →
      (0 < s.shaft.line → exec (.encoderCount dir tension order) s = .next (settle (turning q))) ∧
      (s.shaft.line = 0 → s.shaft.needleUp = false ∨ q.flagNow = true ∨ still →
        exec (.encoderCount dir tension order) s = .next (settle (follows q))) ∧
      (s.shaft.line = 0 → s.shaft.needleUp = true → q.flagNow = false →
        (follows q).FlagFalls fun u => exec (.encoderCount dir tension order) s = .next (settle u)))) ∧
  (∀ s : State, s.flagNow = s.angle.any fun a =>
    decide (((a : Int) - s.par .winStart) % 360 ≤ (s.par .winEnd - s.par .winStart) % 360)) ∧
  (∀ s : State, s.angle = if s.shaft.synced then some (
      if s.shaft.count < 0 then 0
      else if (s.nat .encCounts : Int) ≤ s.shaft.count then 359
      else s.shaft.count.toNat * 360 / s.nat .encCounts) else none) ∧
  (∀ (e : Nat) (c : Int), 360 ≤ e → angleOfCount e c ≤ 359)

/-- How the shaft comes to rest and what stops it at once. Stopped detection (R27, R31) leaves the shaft STOPPED with its needle flag by
the angle; a NEEDLE UP then ends with its detail (R38, R39). A stop then ends (R96), LOCKED under kind EMERGENCY with no colour stop, else
HALTED with the wait for DATA that R99 sets: the report filled (R36, R37, R92), the pulses ended (R121), gatherings dropped (R143), no
needle engaged (R164), held faults FAULTED (R167), closings carried out (R168), demand and stop point gone (R52, R54). After a COLOUR stop
(R134, R138) the COLOUR notice is raised and the change begins, ends at once, or is not made, with the wait as R101 says. A start that is
due at once (R99, R101) is left to AUTOMATIC_START (log entry 13, DEDUCED). E-STOP, DRIVE and STALL are EMERGENCY causes in every run
state (R35, R91, R93 to R95): waits, inject and work ended, channels IDLE (R122), no needle engaged, the move ended (R67), demand and line
0, BRAKE on. In RUNNING the cause is primary, in STOPPING secondary and the stop becomes EMERGENCY; both end LOCKED, at once with the
shaft at rest (R88, R96). IDLE and READY, with a report of the cause alone, and HALTED, with the cause secondary, become LOCKED at once
(R94), the slot full or empty; an operation ends ABORTED (R103), a NEEDLE UP of a turning shaft at the stopped detection that follows
(R39). The colour delay timer expires (R101); a line that brings no fault changes the inputs alone. The model's choices: stopped detection
as a command brings the quiet time up to STOP_QUIET, as STALL does to STALL_TIME (log entry 15), an event that finds nothing to act on
changes nothing (log entry 11), the layout of OP_DONE details (log entry 33), one DRIVE for both inputs in one command (log entry 34), the
0 milliseconds of a change that never asserts REQUEST (log entry 43), the target lines as they were after one ended by needle-down (log
entry 57), and the colour stop reported in the event that ends the stop (log entry 49). -/
def Obligations.TheShaftComesToRest : Prop :=
  ∀ s : State, s.awake →
    let rested := { s.shaft with
      motion := .stopped, speed := 0, timedRev := false, needleUp := s.flagNow, counting := false, waiting := none
      brake := s.shaft.brake || s.shaft.waiting.isSome
      overrun := if s.shaft.counting then s.shaft.overrun else 0
      quiet := max s.shaft.quiet (s.nat .stopQuiet) }
    (s.shaft.motion = .turning → s.shaft.line = 0 → s.run.state ≠ .stopping → s.run.slot = none →
      ∃ t, exec .stoppedDetection s = .next (settle t) ∧ t.shaft = rested ∧
        (∀ c : Chan, t.func.channels[c] = { s.func.channels[c] with pulse := none }) ∧
        t.run = s.run ∧ t.store = s.store ∧ t.frame = s.frame ∧ t.planner = s.planner ∧ t.thread = s.thread ∧
        t.table = s.table ∧ t.notices = s.notices) ∧
    (∀ op, s.shaft.motion = .turning → s.shaft.line = 0 → s.run.state ≠ .stopping → s.run.slot = some op → op.kind = .needleUp →
      ∃ t, exec .stoppedDetection s = .next (settle t) ∧ t.shaft = rested ∧ t.run = { s.run with slot := none } ∧
        (∀ c : Chan, t.func.channels[c] = { s.func.channels[c] with pulse := none }) ∧
        t.notices = (raiseNotice srcOpDone s.store.cursor
          ([0] ++ u8 op.starter.value ++ [if op.aborted then 2 else if s.flagNow then 0 else 1]
            ++ halfOrNone s.angle ++ u8 (s.verdictAt s.angle).value ++ u32 rested.overrun ++ [0]) s).notices ∧
        t.store = s.store ∧ t.frame = s.frame ∧ t.planner = s.planner ∧ t.thread = s.thread ∧ t.table = s.table) ∧
    (s.shaft.motion = .stopped ∨ 0 < s.shaft.line → exec .stoppedDetection s = .next (settle s)) ∧
    (s.shaft.motion = .turning → s.shaft.line = 0 → s.run.state = .stopping → s.run.phase = some .braking →
      s.run.kind = some .emergency ∨ s.run.report.primary.map Recorded.cause ≠ some .colour →
      ∃ t, exec .stoppedDetection s = .next (settle t) ∧ t.shaft = rested ∧
        t.run.state = (if s.run.kind = some .emergency then .locked else .halted) ∧
        t.run.resume = (if s.run.kind = some .emergency then s.run.resume
          else if s.run.report.primary.map Recorded.cause = some .data ∧ s.run.report.secondary = [] ∧
            s.nat .autoResume = 1 then some .data
          else none) ∧
        t.run.slot = s.run.slot ∧ t.run.report.secondary = s.run.report.secondary ∧
        t.notices.sources[srcColour] = s.notices.sources[srcColour] ∧
        t.run.phase = none ∧ t.run.outstanding = none ∧
        t.run.report.primary = s.run.report.primary ∧ t.run.report.kind = s.run.kind ∧
        t.run.report.angle = s.angle ∧ t.run.report.verdict = some (s.verdictAt s.angle) ∧
        t.run.report.incomplete = s.run.outstanding.map Turn.index ∧
        t.planner.demand = 0 ∧ t.planner.stopPoint = none ∧ t.table.engage = 0 ∧
        (∀ h : Head, (t.monitor h).gatherings = [] ∧ (t.head h).faultHeld = false ∧ (t.head h).closing = false ∧
          ((s.head h).faultHeld = true → (t.head h).state = .faulted)) ∧
        t.notices.sources[srcStop].pending = true ∧ t.store.cursor = s.store.cursor) ∧
    (s.shaft.motion = .turning → s.shaft.line = 0 → s.run.state = .stopping → s.run.phase = some .braking →
      s.run.kind ≠ some .emergency → s.run.report.primary.map Recorded.cause = some .colour →
      ∃ t, exec .stoppedDetection s = .next (settle t) ∧ t.shaft = rested ∧ t.run.state = .halted ∧ t.run.phase = none ∧
        t.run.report.primary = s.run.report.primary ∧ t.notices.sources[srcColour].pending = true ∧
        (let waits := s.run.report.secondary = [] ∧ s.nat .colourRestart = 1
         let unwatched := { s.needle with watch := none }
         let same := t.run.report.secondary = s.run.report.secondary
         let changed := u8 s.store.cursorColour ++ u8 (s.planNeedle.getD 0) ++ byteOrNone s.needle.settled ++ u32 0
         (s.planNeedle = none → t.run.slot = s.run.slot ∧ t.needle = unwatched ∧ t.run.resume = none ∧
           t.run.report.secondary = s.run.report.secondary ++
             (if s.run.report.secondary.length < 8 then [⟨.needlePlan, s.store.cursor, s.clock⟩] else [])) ∧
         (s.planNeedle ≠ none → s.run.slot ≠ none →
           t.run.slot = s.run.slot ∧ t.needle = unwatched ∧ t.run.resume = none ∧ same) ∧
         (∀ n, s.planNeedle = some n → s.run.slot = none →
           (s.flagNow = false → t.run.slot = none ∧ t.needle = unwatched ∧ t.run.resume = none ∧ same ∧
             t.notices.sources[srcOpDone].pending = true ∧
             t.notices.sources[srcOpDone].detail = [5, 1, 2] ++ changed ++ [1, 3]) ∧
           (s.flagNow = true → s.needle.settled = some n → t.run.slot = none ∧ same ∧
             t.needle = { s.needle with target := n, watch := none } ∧
             t.run.resume = (if waits then some .colour else none) ∧
             (waits → t.run.colourTimer =
               (if s.nat .colourDelay = 0 then .expired else .running (s.nat .colourDelay))) ∧
             t.notices.sources[srcOpDone].pending = true ∧
             t.notices.sources[srcOpDone].detail = [5, 1, 0] ++ changed ++ [0, 0]) ∧
           (s.flagNow = true → s.needle.settled ≠ some n → same ∧
             t.run.slot = some ⟨.colourChange, .part, s.clock, none, false⟩ ∧
             t.run.resume = (if waits then some .colour else none) ∧
             t.needle = { s.needle with
               target := n, request := true, watch := none
               change := some ⟨.colour, n, .part, s.nat .needleTimeout, s.nat .needleTimeout, s.clock⟩ }))) ∧
        t.store.cursor = s.store.cursor) ∧
    (∀ (c : Instr) (cause : Cause) (pins : Pins), s.MeetsEmergency c cause pins →
      let quiet := if cause = .stall then max s.shaft.quiet (s.nat .stallTime) else s.shaft.quiet
      let rests := s.shaft.motion = .stopped ∨ s.nat .stopQuiet ≤ quiet
      let noted := s.run.report.secondary ++
        (if s.run.report.secondary.length < 8 then [⟨cause, s.store.cursor, s.clock⟩] else [])
      ∃ t, exec c s = .next (settle t) ∧ t.pins = pins ∧
        (s.run.work = none ∨ s.run.slot = none →
          t.run.kind = some .emergency ∧ t.run.inject = none ∧ t.run.resume = none ∧ t.run.colourTimer = .stopped ∧
          t.run.work = none ∧ t.run.armed = s.run.armed ∧ t.run.repair = s.run.repair ∧
          t.planner.demand = 0 ∧ t.shaft.line = 0 ∧ t.shaft.brake = true ∧ t.shaft.stall = none ∧
          (rests → t.shaft.motion = .stopped) ∧ (¬ rests → t.shaft.motion = s.shaft.motion) ∧
          t.frame.move = none ∧ t.frame.stepX = s.frame.stepX ∧ t.frame.stepY = s.frame.stepY ∧
          t.frame.ref = (if s.frame.move ≠ none ∧ s.frame.ref = .referenced then .unsure else s.frame.ref) ∧
          (∀ k : Chan, t.func.channels[k] = { s.func.channels[k] with latch := none, pulse := none }) ∧
          t.table.engage = 0 ∧ t.store.cursor = s.store.cursor ∧ t.params = s.params) ∧
        (s.run.state = .running ∨ s.run.state = .stopping → s.run.slot = none →
          (s.run.state = .running → t.run.report.secondary = s.run.report.secondary ∧
            t.run.report.primary = some ⟨cause, s.store.cursor, s.clock⟩) ∧
          (s.run.state = .stopping → t.run.report.primary = s.run.report.primary ∧ t.run.report.secondary = noted) ∧
          (¬ rests → t.run.state = .stopping ∧ t.run.phase = some .braking) ∧
          (rests → t.run.state = .locked ∧ t.run.phase = none ∧ t.run.report.kind = some .emergency ∧
            t.run.report.angle = s.angle ∧ t.run.report.verdict = some (s.verdictAt s.angle) ∧
            t.run.report.incomplete = s.run.outstanding.map Turn.index ∧ t.notices.sources[srcStop].pending = true)) ∧
        (s.run.state ≠ .running → s.run.state ≠ .stopping → s.run.work = none →
          t.run.state = .locked ∧ t.run.phase = s.run.phase ∧ t.store = s.store ∧ t.table = { s.table with engage := 0 } ∧
          (s.run.state = .idle ∨ s.run.state = .ready →
            t.run.report.primary = some ⟨cause, s.store.cursor, s.clock⟩ ∧ t.run.report.secondary = []) ∧
          (s.run.state = .halted ∨ s.run.state = .locked →
            t.run.report.primary = s.run.report.primary ∧ t.run.report.secondary = noted) ∧
          (s.run.state ≠ .locked → t.notices.sources[srcState].pending = true ∧
            t.notices.sources[srcState].detail = stateDetail s.run.state .locked s.store.cursor none) ∧
          (s.run.slot = none → t.run.slot = none ∧ t.notices.sources[srcOpDone] = s.notices.sources[srcOpDone]) ∧
          (∀ op : Op, s.run.slot = some op → (∀ e, s.needle.change = some e → e.purpose ≠ .start) →
            (op.kind = .needleSelect ∨ op.kind = .colourChange → s.needle.change ≠ none) →
            (op.kind ≠ .needleUp ∨ rests →
              t.run.slot = none ∧ t.notices.sources[srcOpDone].pending = true ∧
              t.notices.sources[srcOpDone].detail.take 3 = u8 op.kind.value ++ u8 op.starter.value ++ [2]) ∧
            (op.kind = .needleUp → ¬ rests → t.run.slot = some { op with aborted := true }) ∧
            (op.kind = .needleSelect ∨ op.kind = .colourChange → t.needle.change = none ∧ t.needle.request = false) ∧
            (op.kind = .home → t.frame.homing = none) ∧
            (op.kind = .sensorTest → t.thread.test = none ∧ (s.thread.test ≠ none → t.thread.testLoad = 0)) ∧
            (op.kind = .channelTest → t.func.test = none) ∧
            (op.kind = .backtrack ∨ op.kind = .repair ∨ op.kind = .repairAbandon →
              (s.needle.change = none → t.frame.dwell = none) ∧ t.needle.change = none)))) ∧
    (s.shaft.stall = none → exec .stall s = .next (settle s)) ∧
    exec (.estop false) s = .next (settle { s with pins := { s.pins with estop := false } }) ∧
    (∀ ready fault : Bool, (fault = true → s.pins.driveFault = true) →
      (ready = false → s.pins.driveReady = false ∨ s.shaft.line = 0) →
      exec (.driveLineChange ready fault) s =
        .next (settle { s with pins := { s.pins with driveReady := ready, driveFault := fault } })) ∧
    (∀ ms, s.run.colourTimer = .running ms → s.run.resume ≠ some .colour ∨ s.run.slot ≠ none →
      exec .colourDelayExpiry s = .next (settle { s with run := { s.run with colourTimer := .expired } })) ∧
    ((∀ ms, s.run.colourTimer ≠ .running ms) → exec .colourDelayExpiry s = .next (settle s))

/-! ### Arithmetic -/

/-- The step target (R61): floor((P × PITCH + 5) / 10), within half a step of P with a tie taken upward; the steps of a move are the
difference of the step targets of its ends, so that the moves of a chain add up. -/
def Obligations.StepTargetsRoundToTheNearest : Prop :=
  (∀ pitch p : Int,
    stepTarget pitch p = Int.floor (((p * pitch + 5 : Int) : ℚ) / 10) ∧
    -5 ≤ p * pitch - 10 * stepTarget pitch p ∧ p * pitch - 10 * stepTarget pitch p < 5) ∧
  (∀ (s : State) (a b c : Pt),
    s.stepsBetween a b = (stepTarget (s.par .pitchX) b.x - stepTarget (s.par .pitchX) a.x,
      stepTarget (s.par .pitchY) b.y - stepTarget (s.par .pitchY) a.y) ∧
    s.stepsBetween a c = s.stepsBetween a b + s.stepsBetween b c)

/-- The Speed Planner's arithmetic. The allowed speed (R48): there is none for an empty list; for any other it is one of the terms
c_j + (j - q) × RAMP_DOWN and above none of them, so it never exceeds the first ceiling. The move ceiling (R44) is SPEED_TOP for no time,
and else the highest speed of SPEED_MIN..SPEED_TOP at which the window lasts the move; SPEED_MIN for a move no table covers (R43). The
first entry of the list has the pending turn's steps, time and ceilings, no SLOW cap being exceeded (R44, R46), and the list holds at most 48
entries (R47). A SLOW effect lowers the places 0 to k - 1 of the cap profile to its clamped speed and no others (R45). The demand is the
least of SPEED_SET, the allowed speed, the ramp from the demand before, SPEED_START for a first turn, and in repair SPEED_REPAIR (R49, R50). -/
def Obligations.TheAllowedSpeedIsTheLeastTerm : Prop :=
  (∀ (ramp : Nat) (list : List Entry),
    (allowedSpeed ramp list = none ↔ list = []) ∧
    ∀ a, allowedSpeed ramp list = some a →
      (∃ (j : Nat) (e : Entry), list[j]? = some e ∧ a = e.plan + j * ramp) ∧
      (∀ (j : Nat) (e : Entry), list[j]? = some e → a ≤ e.plan + j * ramp)) ∧
  (∀ (s : State) (w : Nat),
    s.moveCeiling w none = s.nat .speedMin ∧ s.moveCeiling w (some 0) = s.nat .speedTop ∧
    ∀ t : Nat, 0 < t → s.moveCeiling w (some t) = max (s.nat .speedMin) (min (w * 500000 / (3 * t)) (s.nat .speedTop)) ∧
      ∀ v : Nat, s.nat .speedMin < v → v ≤ s.nat .speedTop → (v ≤ s.moveCeiling w (some t) ↔ v * (3 * t) ≤ w * 500000)) ∧
  (∀ s : State, s.freshLookahead.length ≤ 48 ∧
    ∀ (i : Nat) (r : Rec) (d : Pt) (rest : List (Nat × Rec)), s.planner.stopPoint = none →
      s.store.pendingRecords = (i, r) :: rest → r.move = some d →
      ∃ (e : Entry) (es : List Entry), s.freshLookahead = e :: es ∧ e.index = i ∧ e.jump = r.isJump ∧
        (e.lx, e.ly) = s.stepsBetween s.designPoint (s.designPoint.add d) ∧
        e.time = s.moveDuration e.lx e.ly ∧
        e.ceiling = s.moveCeiling (if r.isJump then s.nat .jumpWidth else s.windowWidth) e.time ∧
        e.plan ≤ e.ceiling ∧ (∀ c, s.planner.caps.head? = some c → e.plan ≤ c) ∧
        (∀ k r' rest', rest = (k, r') :: rest' → (s.func.stopType r').isSome = true → e.plan ≤ s.nat .speedStopEntry) ∧
        (rest = [] → s.store.endLoaded = false → e.plan ≤ s.nat .speedStopEntry) ∧
        (∀ k r' d' rest', rest = (k, r') :: rest' → r'.move = some d' →
          e.plan = min e.ceiling ((s.planner.caps.head?).getD e.ceiling))) ∧
  (∀ (s : State) (c : Code),
    (∀ n k, (s.func.entry c).effect = .slow n k → ∃ caps : List Nat,
      enterEffect c s = { s with planner := { s.planner with caps := caps } } ∧
      let v := max (s.nat .speedMin) (min n (s.nat .speedTop))
      ∀ i : Nat, caps[i]? = if i < k then some (min ((s.planner.caps[i]?).getD v) v) else s.planner.caps[i]?) ∧
    ((∀ n k, (s.func.entry c).effect ≠ .slow n k) → enterEffect c s = s)) ∧
  (∀ (s : State) (a : Nat),
    let repair := if s.run.repair.active then s.nat .speedRepair else s.nat .speedSet
    (∀ prev, s.planner.prev = some prev →
      s.demandFor (some a) false = min (min (s.nat .speedSet) (min a (prev + s.nat .rampUp))) repair) ∧
    s.demandFor (some a) true = min (min (s.nat .speedSet) (min a (s.nat .speedStart))) repair)
end

