-- ==== Sys2Proof/Laws/State.lean ====
section
/-! SUPPORT. One lemma per field per update of the state: what a change of one block leaves in every block. Each holds by `rfl`;
with them no proof unfolds a record update. -/

namespace Sys2Proof.Machine

/-! ### modStore -/

@[simp] theorem State.modStore_params (f : Store → Store) (s : State) : (s.modStore f).params = s.params := rfl
@[simp] theorem State.modStore_pins (f : Store → Store) (s : State) : (s.modStore f).pins = s.pins := rfl
@[simp] theorem State.modStore_store (f : Store → Store) (s : State) : (s.modStore f).store = f s.store := rfl
@[simp] theorem State.modStore_shaft (f : Store → Store) (s : State) : (s.modStore f).shaft = s.shaft := rfl
@[simp] theorem State.modStore_planner (f : Store → Store) (s : State) : (s.modStore f).planner = s.planner := rfl
@[simp] theorem State.modStore_frame (f : Store → Store) (s : State) : (s.modStore f).frame = s.frame := rfl
@[simp] theorem State.modStore_run (f : Store → Store) (s : State) : (s.modStore f).run = s.run := rfl
@[simp] theorem State.modStore_func (f : Store → Store) (s : State) : (s.modStore f).func = s.func := rfl
@[simp] theorem State.modStore_needle (f : Store → Store) (s : State) : (s.modStore f).needle = s.needle := rfl
@[simp] theorem State.modStore_thread (f : Store → Store) (s : State) : (s.modStore f).thread = s.thread := rfl
@[simp] theorem State.modStore_table (f : Store → Store) (s : State) : (s.modStore f).table = s.table := rfl
@[simp] theorem State.modStore_notices (f : Store → Store) (s : State) : (s.modStore f).notices = s.notices := rfl
@[simp] theorem State.modStore_link (f : Store → Store) (s : State) : (s.modStore f).link = s.link := rfl
@[simp] theorem State.modStore_clock (f : Store → Store) (s : State) : (s.modStore f).clock = s.clock := rfl
@[simp] theorem State.modStore_pending (f : Store → Store) (s : State) : (s.modStore f).pending = s.pending := rfl

/-! ### modShaft -/

@[simp] theorem State.modShaft_params (f : Shaft → Shaft) (s : State) : (s.modShaft f).params = s.params := rfl
@[simp] theorem State.modShaft_pins (f : Shaft → Shaft) (s : State) : (s.modShaft f).pins = s.pins := rfl
@[simp] theorem State.modShaft_store (f : Shaft → Shaft) (s : State) : (s.modShaft f).store = s.store := rfl
@[simp] theorem State.modShaft_shaft (f : Shaft → Shaft) (s : State) : (s.modShaft f).shaft = f s.shaft := rfl
@[simp] theorem State.modShaft_planner (f : Shaft → Shaft) (s : State) : (s.modShaft f).planner = s.planner := rfl
@[simp] theorem State.modShaft_frame (f : Shaft → Shaft) (s : State) : (s.modShaft f).frame = s.frame := rfl
@[simp] theorem State.modShaft_run (f : Shaft → Shaft) (s : State) : (s.modShaft f).run = s.run := rfl
@[simp] theorem State.modShaft_func (f : Shaft → Shaft) (s : State) : (s.modShaft f).func = s.func := rfl
@[simp] theorem State.modShaft_needle (f : Shaft → Shaft) (s : State) : (s.modShaft f).needle = s.needle := rfl
@[simp] theorem State.modShaft_thread (f : Shaft → Shaft) (s : State) : (s.modShaft f).thread = s.thread := rfl
@[simp] theorem State.modShaft_table (f : Shaft → Shaft) (s : State) : (s.modShaft f).table = s.table := rfl
@[simp] theorem State.modShaft_notices (f : Shaft → Shaft) (s : State) : (s.modShaft f).notices = s.notices := rfl
@[simp] theorem State.modShaft_link (f : Shaft → Shaft) (s : State) : (s.modShaft f).link = s.link := rfl
@[simp] theorem State.modShaft_clock (f : Shaft → Shaft) (s : State) : (s.modShaft f).clock = s.clock := rfl
@[simp] theorem State.modShaft_pending (f : Shaft → Shaft) (s : State) : (s.modShaft f).pending = s.pending := rfl

/-! ### modPlanner -/

@[simp] theorem State.modPlanner_params (f : Planner → Planner) (s : State) : (s.modPlanner f).params = s.params := rfl
@[simp] theorem State.modPlanner_pins (f : Planner → Planner) (s : State) : (s.modPlanner f).pins = s.pins := rfl
@[simp] theorem State.modPlanner_store (f : Planner → Planner) (s : State) : (s.modPlanner f).store = s.store := rfl
@[simp] theorem State.modPlanner_shaft (f : Planner → Planner) (s : State) : (s.modPlanner f).shaft = s.shaft := rfl
@[simp] theorem State.modPlanner_planner (f : Planner → Planner) (s : State) : (s.modPlanner f).planner = f s.planner := rfl
@[simp] theorem State.modPlanner_frame (f : Planner → Planner) (s : State) : (s.modPlanner f).frame = s.frame := rfl
@[simp] theorem State.modPlanner_run (f : Planner → Planner) (s : State) : (s.modPlanner f).run = s.run := rfl
@[simp] theorem State.modPlanner_func (f : Planner → Planner) (s : State) : (s.modPlanner f).func = s.func := rfl
@[simp] theorem State.modPlanner_needle (f : Planner → Planner) (s : State) : (s.modPlanner f).needle = s.needle := rfl
@[simp] theorem State.modPlanner_thread (f : Planner → Planner) (s : State) : (s.modPlanner f).thread = s.thread := rfl
@[simp] theorem State.modPlanner_table (f : Planner → Planner) (s : State) : (s.modPlanner f).table = s.table := rfl
@[simp] theorem State.modPlanner_notices (f : Planner → Planner) (s : State) : (s.modPlanner f).notices = s.notices := rfl
@[simp] theorem State.modPlanner_link (f : Planner → Planner) (s : State) : (s.modPlanner f).link = s.link := rfl
@[simp] theorem State.modPlanner_clock (f : Planner → Planner) (s : State) : (s.modPlanner f).clock = s.clock := rfl
@[simp] theorem State.modPlanner_pending (f : Planner → Planner) (s : State) : (s.modPlanner f).pending = s.pending := rfl

/-! ### modFrame -/

@[simp] theorem State.modFrame_params (f : Frame → Frame) (s : State) : (s.modFrame f).params = s.params := rfl
@[simp] theorem State.modFrame_pins (f : Frame → Frame) (s : State) : (s.modFrame f).pins = s.pins := rfl
@[simp] theorem State.modFrame_store (f : Frame → Frame) (s : State) : (s.modFrame f).store = s.store := rfl
@[simp] theorem State.modFrame_shaft (f : Frame → Frame) (s : State) : (s.modFrame f).shaft = s.shaft := rfl
@[simp] theorem State.modFrame_planner (f : Frame → Frame) (s : State) : (s.modFrame f).planner = s.planner := rfl
@[simp] theorem State.modFrame_frame (f : Frame → Frame) (s : State) : (s.modFrame f).frame = f s.frame := rfl
@[simp] theorem State.modFrame_run (f : Frame → Frame) (s : State) : (s.modFrame f).run = s.run := rfl
@[simp] theorem State.modFrame_func (f : Frame → Frame) (s : State) : (s.modFrame f).func = s.func := rfl
@[simp] theorem State.modFrame_needle (f : Frame → Frame) (s : State) : (s.modFrame f).needle = s.needle := rfl
@[simp] theorem State.modFrame_thread (f : Frame → Frame) (s : State) : (s.modFrame f).thread = s.thread := rfl
@[simp] theorem State.modFrame_table (f : Frame → Frame) (s : State) : (s.modFrame f).table = s.table := rfl
@[simp] theorem State.modFrame_notices (f : Frame → Frame) (s : State) : (s.modFrame f).notices = s.notices := rfl
@[simp] theorem State.modFrame_link (f : Frame → Frame) (s : State) : (s.modFrame f).link = s.link := rfl
@[simp] theorem State.modFrame_clock (f : Frame → Frame) (s : State) : (s.modFrame f).clock = s.clock := rfl
@[simp] theorem State.modFrame_pending (f : Frame → Frame) (s : State) : (s.modFrame f).pending = s.pending := rfl

/-! ### modRun -/

@[simp] theorem State.modRun_params (f : Run → Run) (s : State) : (s.modRun f).params = s.params := rfl
@[simp] theorem State.modRun_pins (f : Run → Run) (s : State) : (s.modRun f).pins = s.pins := rfl
@[simp] theorem State.modRun_store (f : Run → Run) (s : State) : (s.modRun f).store = s.store := rfl
@[simp] theorem State.modRun_shaft (f : Run → Run) (s : State) : (s.modRun f).shaft = s.shaft := rfl
@[simp] theorem State.modRun_planner (f : Run → Run) (s : State) : (s.modRun f).planner = s.planner := rfl
@[simp] theorem State.modRun_frame (f : Run → Run) (s : State) : (s.modRun f).frame = s.frame := rfl
@[simp] theorem State.modRun_run (f : Run → Run) (s : State) : (s.modRun f).run = f s.run := rfl
@[simp] theorem State.modRun_func (f : Run → Run) (s : State) : (s.modRun f).func = s.func := rfl
@[simp] theorem State.modRun_needle (f : Run → Run) (s : State) : (s.modRun f).needle = s.needle := rfl
@[simp] theorem State.modRun_thread (f : Run → Run) (s : State) : (s.modRun f).thread = s.thread := rfl
@[simp] theorem State.modRun_table (f : Run → Run) (s : State) : (s.modRun f).table = s.table := rfl
@[simp] theorem State.modRun_notices (f : Run → Run) (s : State) : (s.modRun f).notices = s.notices := rfl
@[simp] theorem State.modRun_link (f : Run → Run) (s : State) : (s.modRun f).link = s.link := rfl
@[simp] theorem State.modRun_clock (f : Run → Run) (s : State) : (s.modRun f).clock = s.clock := rfl
@[simp] theorem State.modRun_pending (f : Run → Run) (s : State) : (s.modRun f).pending = s.pending := rfl

/-! ### modFunc -/

@[simp] theorem State.modFunc_params (f : FuncUnit → FuncUnit) (s : State) : (s.modFunc f).params = s.params := rfl
@[simp] theorem State.modFunc_pins (f : FuncUnit → FuncUnit) (s : State) : (s.modFunc f).pins = s.pins := rfl
@[simp] theorem State.modFunc_store (f : FuncUnit → FuncUnit) (s : State) : (s.modFunc f).store = s.store := rfl
@[simp] theorem State.modFunc_shaft (f : FuncUnit → FuncUnit) (s : State) : (s.modFunc f).shaft = s.shaft := rfl
@[simp] theorem State.modFunc_planner (f : FuncUnit → FuncUnit) (s : State) : (s.modFunc f).planner = s.planner := rfl
@[simp] theorem State.modFunc_frame (f : FuncUnit → FuncUnit) (s : State) : (s.modFunc f).frame = s.frame := rfl
@[simp] theorem State.modFunc_run (f : FuncUnit → FuncUnit) (s : State) : (s.modFunc f).run = s.run := rfl
@[simp] theorem State.modFunc_func (f : FuncUnit → FuncUnit) (s : State) : (s.modFunc f).func = f s.func := rfl
@[simp] theorem State.modFunc_needle (f : FuncUnit → FuncUnit) (s : State) : (s.modFunc f).needle = s.needle := rfl
@[simp] theorem State.modFunc_thread (f : FuncUnit → FuncUnit) (s : State) : (s.modFunc f).thread = s.thread := rfl
@[simp] theorem State.modFunc_table (f : FuncUnit → FuncUnit) (s : State) : (s.modFunc f).table = s.table := rfl
@[simp] theorem State.modFunc_notices (f : FuncUnit → FuncUnit) (s : State) : (s.modFunc f).notices = s.notices := rfl
@[simp] theorem State.modFunc_link (f : FuncUnit → FuncUnit) (s : State) : (s.modFunc f).link = s.link := rfl
@[simp] theorem State.modFunc_clock (f : FuncUnit → FuncUnit) (s : State) : (s.modFunc f).clock = s.clock := rfl
@[simp] theorem State.modFunc_pending (f : FuncUnit → FuncUnit) (s : State) : (s.modFunc f).pending = s.pending := rfl

/-! ### modNeedle -/

@[simp] theorem State.modNeedle_params (f : NeedleBar → NeedleBar) (s : State) : (s.modNeedle f).params = s.params := rfl
@[simp] theorem State.modNeedle_pins (f : NeedleBar → NeedleBar) (s : State) : (s.modNeedle f).pins = s.pins := rfl
@[simp] theorem State.modNeedle_store (f : NeedleBar → NeedleBar) (s : State) : (s.modNeedle f).store = s.store := rfl
@[simp] theorem State.modNeedle_shaft (f : NeedleBar → NeedleBar) (s : State) : (s.modNeedle f).shaft = s.shaft := rfl
@[simp] theorem State.modNeedle_planner (f : NeedleBar → NeedleBar) (s : State) : (s.modNeedle f).planner = s.planner := rfl
@[simp] theorem State.modNeedle_frame (f : NeedleBar → NeedleBar) (s : State) : (s.modNeedle f).frame = s.frame := rfl
@[simp] theorem State.modNeedle_run (f : NeedleBar → NeedleBar) (s : State) : (s.modNeedle f).run = s.run := rfl
@[simp] theorem State.modNeedle_func (f : NeedleBar → NeedleBar) (s : State) : (s.modNeedle f).func = s.func := rfl
@[simp] theorem State.modNeedle_needle (f : NeedleBar → NeedleBar) (s : State) : (s.modNeedle f).needle = f s.needle := rfl
@[simp] theorem State.modNeedle_thread (f : NeedleBar → NeedleBar) (s : State) : (s.modNeedle f).thread = s.thread := rfl
@[simp] theorem State.modNeedle_table (f : NeedleBar → NeedleBar) (s : State) : (s.modNeedle f).table = s.table := rfl
@[simp] theorem State.modNeedle_notices (f : NeedleBar → NeedleBar) (s : State) : (s.modNeedle f).notices = s.notices := rfl
@[simp] theorem State.modNeedle_link (f : NeedleBar → NeedleBar) (s : State) : (s.modNeedle f).link = s.link := rfl
@[simp] theorem State.modNeedle_clock (f : NeedleBar → NeedleBar) (s : State) : (s.modNeedle f).clock = s.clock := rfl
@[simp] theorem State.modNeedle_pending (f : NeedleBar → NeedleBar) (s : State) : (s.modNeedle f).pending = s.pending := rfl

/-! ### modThread -/

@[simp] theorem State.modThread_params (f : ThreadUnit → ThreadUnit) (s : State) : (s.modThread f).params = s.params := rfl
@[simp] theorem State.modThread_pins (f : ThreadUnit → ThreadUnit) (s : State) : (s.modThread f).pins = s.pins := rfl
@[simp] theorem State.modThread_store (f : ThreadUnit → ThreadUnit) (s : State) : (s.modThread f).store = s.store := rfl
@[simp] theorem State.modThread_shaft (f : ThreadUnit → ThreadUnit) (s : State) : (s.modThread f).shaft = s.shaft := rfl
@[simp] theorem State.modThread_planner (f : ThreadUnit → ThreadUnit) (s : State) : (s.modThread f).planner = s.planner := rfl
@[simp] theorem State.modThread_frame (f : ThreadUnit → ThreadUnit) (s : State) : (s.modThread f).frame = s.frame := rfl
@[simp] theorem State.modThread_run (f : ThreadUnit → ThreadUnit) (s : State) : (s.modThread f).run = s.run := rfl
@[simp] theorem State.modThread_func (f : ThreadUnit → ThreadUnit) (s : State) : (s.modThread f).func = s.func := rfl
@[simp] theorem State.modThread_needle (f : ThreadUnit → ThreadUnit) (s : State) : (s.modThread f).needle = s.needle := rfl
@[simp] theorem State.modThread_thread (f : ThreadUnit → ThreadUnit) (s : State) : (s.modThread f).thread = f s.thread := rfl
@[simp] theorem State.modThread_table (f : ThreadUnit → ThreadUnit) (s : State) : (s.modThread f).table = s.table := rfl
@[simp] theorem State.modThread_notices (f : ThreadUnit → ThreadUnit) (s : State) : (s.modThread f).notices = s.notices := rfl
@[simp] theorem State.modThread_link (f : ThreadUnit → ThreadUnit) (s : State) : (s.modThread f).link = s.link := rfl
@[simp] theorem State.modThread_clock (f : ThreadUnit → ThreadUnit) (s : State) : (s.modThread f).clock = s.clock := rfl
@[simp] theorem State.modThread_pending (f : ThreadUnit → ThreadUnit) (s : State) : (s.modThread f).pending = s.pending := rfl

/-! ### modTable -/

@[simp] theorem State.modTable_params (f : HeadTable → HeadTable) (s : State) : (s.modTable f).params = s.params := rfl
@[simp] theorem State.modTable_pins (f : HeadTable → HeadTable) (s : State) : (s.modTable f).pins = s.pins := rfl
@[simp] theorem State.modTable_store (f : HeadTable → HeadTable) (s : State) : (s.modTable f).store = s.store := rfl
@[simp] theorem State.modTable_shaft (f : HeadTable → HeadTable) (s : State) : (s.modTable f).shaft = s.shaft := rfl
@[simp] theorem State.modTable_planner (f : HeadTable → HeadTable) (s : State) : (s.modTable f).planner = s.planner := rfl
@[simp] theorem State.modTable_frame (f : HeadTable → HeadTable) (s : State) : (s.modTable f).frame = s.frame := rfl
@[simp] theorem State.modTable_run (f : HeadTable → HeadTable) (s : State) : (s.modTable f).run = s.run := rfl
@[simp] theorem State.modTable_func (f : HeadTable → HeadTable) (s : State) : (s.modTable f).func = s.func := rfl
@[simp] theorem State.modTable_needle (f : HeadTable → HeadTable) (s : State) : (s.modTable f).needle = s.needle := rfl
@[simp] theorem State.modTable_thread (f : HeadTable → HeadTable) (s : State) : (s.modTable f).thread = s.thread := rfl
@[simp] theorem State.modTable_table (f : HeadTable → HeadTable) (s : State) : (s.modTable f).table = f s.table := rfl
@[simp] theorem State.modTable_notices (f : HeadTable → HeadTable) (s : State) : (s.modTable f).notices = s.notices := rfl
@[simp] theorem State.modTable_link (f : HeadTable → HeadTable) (s : State) : (s.modTable f).link = s.link := rfl
@[simp] theorem State.modTable_clock (f : HeadTable → HeadTable) (s : State) : (s.modTable f).clock = s.clock := rfl
@[simp] theorem State.modTable_pending (f : HeadTable → HeadTable) (s : State) : (s.modTable f).pending = s.pending := rfl

/-! ### modNotices -/

@[simp] theorem State.modNotices_params (f : NoticeUnit → NoticeUnit) (s : State) : (s.modNotices f).params = s.params := rfl
@[simp] theorem State.modNotices_pins (f : NoticeUnit → NoticeUnit) (s : State) : (s.modNotices f).pins = s.pins := rfl
@[simp] theorem State.modNotices_store (f : NoticeUnit → NoticeUnit) (s : State) : (s.modNotices f).store = s.store := rfl
@[simp] theorem State.modNotices_shaft (f : NoticeUnit → NoticeUnit) (s : State) : (s.modNotices f).shaft = s.shaft := rfl
@[simp] theorem State.modNotices_planner (f : NoticeUnit → NoticeUnit) (s : State) : (s.modNotices f).planner = s.planner := rfl
@[simp] theorem State.modNotices_frame (f : NoticeUnit → NoticeUnit) (s : State) : (s.modNotices f).frame = s.frame := rfl
@[simp] theorem State.modNotices_run (f : NoticeUnit → NoticeUnit) (s : State) : (s.modNotices f).run = s.run := rfl
@[simp] theorem State.modNotices_func (f : NoticeUnit → NoticeUnit) (s : State) : (s.modNotices f).func = s.func := rfl
@[simp] theorem State.modNotices_needle (f : NoticeUnit → NoticeUnit) (s : State) : (s.modNotices f).needle = s.needle := rfl
@[simp] theorem State.modNotices_thread (f : NoticeUnit → NoticeUnit) (s : State) : (s.modNotices f).thread = s.thread := rfl
@[simp] theorem State.modNotices_table (f : NoticeUnit → NoticeUnit) (s : State) : (s.modNotices f).table = s.table := rfl
@[simp] theorem State.modNotices_notices (f : NoticeUnit → NoticeUnit) (s : State) : (s.modNotices f).notices = f s.notices := rfl
@[simp] theorem State.modNotices_link (f : NoticeUnit → NoticeUnit) (s : State) : (s.modNotices f).link = s.link := rfl
@[simp] theorem State.modNotices_clock (f : NoticeUnit → NoticeUnit) (s : State) : (s.modNotices f).clock = s.clock := rfl
@[simp] theorem State.modNotices_pending (f : NoticeUnit → NoticeUnit) (s : State) : (s.modNotices f).pending = s.pending := rfl

/-! ### modLink -/

@[simp] theorem State.modLink_params (f : Link → Link) (s : State) : (s.modLink f).params = s.params := rfl
@[simp] theorem State.modLink_pins (f : Link → Link) (s : State) : (s.modLink f).pins = s.pins := rfl
@[simp] theorem State.modLink_store (f : Link → Link) (s : State) : (s.modLink f).store = s.store := rfl
@[simp] theorem State.modLink_shaft (f : Link → Link) (s : State) : (s.modLink f).shaft = s.shaft := rfl
@[simp] theorem State.modLink_planner (f : Link → Link) (s : State) : (s.modLink f).planner = s.planner := rfl
@[simp] theorem State.modLink_frame (f : Link → Link) (s : State) : (s.modLink f).frame = s.frame := rfl
@[simp] theorem State.modLink_run (f : Link → Link) (s : State) : (s.modLink f).run = s.run := rfl
@[simp] theorem State.modLink_func (f : Link → Link) (s : State) : (s.modLink f).func = s.func := rfl
@[simp] theorem State.modLink_needle (f : Link → Link) (s : State) : (s.modLink f).needle = s.needle := rfl
@[simp] theorem State.modLink_thread (f : Link → Link) (s : State) : (s.modLink f).thread = s.thread := rfl
@[simp] theorem State.modLink_table (f : Link → Link) (s : State) : (s.modLink f).table = s.table := rfl
@[simp] theorem State.modLink_notices (f : Link → Link) (s : State) : (s.modLink f).notices = s.notices := rfl
@[simp] theorem State.modLink_link (f : Link → Link) (s : State) : (s.modLink f).link = f s.link := rfl
@[simp] theorem State.modLink_clock (f : Link → Link) (s : State) : (s.modLink f).clock = s.clock := rfl
@[simp] theorem State.modLink_pending (f : Link → Link) (s : State) : (s.modLink f).pending = s.pending := rfl

/-! ### modPins -/

@[simp] theorem State.modPins_params (f : Pins → Pins) (s : State) : (s.modPins f).params = s.params := rfl
@[simp] theorem State.modPins_pins (f : Pins → Pins) (s : State) : (s.modPins f).pins = f s.pins := rfl
@[simp] theorem State.modPins_store (f : Pins → Pins) (s : State) : (s.modPins f).store = s.store := rfl
@[simp] theorem State.modPins_shaft (f : Pins → Pins) (s : State) : (s.modPins f).shaft = s.shaft := rfl
@[simp] theorem State.modPins_planner (f : Pins → Pins) (s : State) : (s.modPins f).planner = s.planner := rfl
@[simp] theorem State.modPins_frame (f : Pins → Pins) (s : State) : (s.modPins f).frame = s.frame := rfl
@[simp] theorem State.modPins_run (f : Pins → Pins) (s : State) : (s.modPins f).run = s.run := rfl
@[simp] theorem State.modPins_func (f : Pins → Pins) (s : State) : (s.modPins f).func = s.func := rfl
@[simp] theorem State.modPins_needle (f : Pins → Pins) (s : State) : (s.modPins f).needle = s.needle := rfl
@[simp] theorem State.modPins_thread (f : Pins → Pins) (s : State) : (s.modPins f).thread = s.thread := rfl
@[simp] theorem State.modPins_table (f : Pins → Pins) (s : State) : (s.modPins f).table = s.table := rfl
@[simp] theorem State.modPins_notices (f : Pins → Pins) (s : State) : (s.modPins f).notices = s.notices := rfl
@[simp] theorem State.modPins_link (f : Pins → Pins) (s : State) : (s.modPins f).link = s.link := rfl
@[simp] theorem State.modPins_clock (f : Pins → Pins) (s : State) : (s.modPins f).clock = s.clock := rfl
@[simp] theorem State.modPins_pending (f : Pins → Pins) (s : State) : (s.modPins f).pending = s.pending := rfl

/-! ### setPar -/

@[simp] theorem State.setPar_params (p : Param) (v : Int) (s : State) : (s.setPar p v).params = s.params.set p.place v := rfl
@[simp] theorem State.setPar_pins (p : Param) (v : Int) (s : State) : (s.setPar p v).pins = s.pins := rfl
@[simp] theorem State.setPar_store (p : Param) (v : Int) (s : State) : (s.setPar p v).store = s.store := rfl
@[simp] theorem State.setPar_shaft (p : Param) (v : Int) (s : State) : (s.setPar p v).shaft = s.shaft := rfl
@[simp] theorem State.setPar_planner (p : Param) (v : Int) (s : State) : (s.setPar p v).planner = s.planner := rfl
@[simp] theorem State.setPar_frame (p : Param) (v : Int) (s : State) : (s.setPar p v).frame = s.frame := rfl
@[simp] theorem State.setPar_run (p : Param) (v : Int) (s : State) : (s.setPar p v).run = s.run := rfl
@[simp] theorem State.setPar_func (p : Param) (v : Int) (s : State) : (s.setPar p v).func = s.func := rfl
@[simp] theorem State.setPar_needle (p : Param) (v : Int) (s : State) : (s.setPar p v).needle = s.needle := rfl
@[simp] theorem State.setPar_thread (p : Param) (v : Int) (s : State) : (s.setPar p v).thread = s.thread := rfl
@[simp] theorem State.setPar_table (p : Param) (v : Int) (s : State) : (s.setPar p v).table = s.table := rfl
@[simp] theorem State.setPar_notices (p : Param) (v : Int) (s : State) : (s.setPar p v).notices = s.notices := rfl
@[simp] theorem State.setPar_link (p : Param) (v : Int) (s : State) : (s.setPar p v).link = s.link := rfl
@[simp] theorem State.setPar_clock (p : Param) (v : Int) (s : State) : (s.setPar p v).clock = s.clock := rfl
@[simp] theorem State.setPar_pending (p : Param) (v : Int) (s : State) : (s.setPar p v).pending = s.pending := rfl

/-! ### Parameters, heads and monitors, as they are read -/

@[simp] theorem State.modStore_par (f : Store → Store) (s : State) (p : Param) : (s.modStore f).par p = s.par p := rfl
@[simp] theorem State.modStore_nat (f : Store → Store) (s : State) (p : Param) : (s.modStore f).nat p = s.nat p := rfl
@[simp] theorem State.modStore_head (f : Store → Store) (s : State) (h : Head) : (s.modStore f).head h = s.head h := rfl
@[simp] theorem State.modStore_monitor (f : Store → Store) (s : State) (h : Head) :
    (s.modStore f).monitor h = s.monitor h := rfl
@[simp] theorem State.modShaft_par (f : Shaft → Shaft) (s : State) (p : Param) : (s.modShaft f).par p = s.par p := rfl
@[simp] theorem State.modShaft_nat (f : Shaft → Shaft) (s : State) (p : Param) : (s.modShaft f).nat p = s.nat p := rfl
@[simp] theorem State.modShaft_head (f : Shaft → Shaft) (s : State) (h : Head) : (s.modShaft f).head h = s.head h := rfl
@[simp] theorem State.modShaft_monitor (f : Shaft → Shaft) (s : State) (h : Head) :
    (s.modShaft f).monitor h = s.monitor h := rfl
@[simp] theorem State.modPlanner_par (f : Planner → Planner) (s : State) (p : Param) : (s.modPlanner f).par p = s.par p := rfl
@[simp] theorem State.modPlanner_nat (f : Planner → Planner) (s : State) (p : Param) : (s.modPlanner f).nat p = s.nat p := rfl
@[simp] theorem State.modPlanner_head (f : Planner → Planner) (s : State) (h : Head) : (s.modPlanner f).head h = s.head h := rfl
@[simp] theorem State.modPlanner_monitor (f : Planner → Planner) (s : State) (h : Head) :
    (s.modPlanner f).monitor h = s.monitor h := rfl
@[simp] theorem State.modFrame_par (f : Frame → Frame) (s : State) (p : Param) : (s.modFrame f).par p = s.par p := rfl
@[simp] theorem State.modFrame_nat (f : Frame → Frame) (s : State) (p : Param) : (s.modFrame f).nat p = s.nat p := rfl
@[simp] theorem State.modFrame_head (f : Frame → Frame) (s : State) (h : Head) : (s.modFrame f).head h = s.head h := rfl
@[simp] theorem State.modFrame_monitor (f : Frame → Frame) (s : State) (h : Head) :
    (s.modFrame f).monitor h = s.monitor h := rfl
@[simp] theorem State.modRun_par (f : Run → Run) (s : State) (p : Param) : (s.modRun f).par p = s.par p := rfl
@[simp] theorem State.modRun_nat (f : Run → Run) (s : State) (p : Param) : (s.modRun f).nat p = s.nat p := rfl
@[simp] theorem State.modRun_head (f : Run → Run) (s : State) (h : Head) : (s.modRun f).head h = s.head h := rfl
@[simp] theorem State.modRun_monitor (f : Run → Run) (s : State) (h : Head) :
    (s.modRun f).monitor h = s.monitor h := rfl
@[simp] theorem State.modFunc_par (f : FuncUnit → FuncUnit) (s : State) (p : Param) : (s.modFunc f).par p = s.par p := rfl
@[simp] theorem State.modFunc_nat (f : FuncUnit → FuncUnit) (s : State) (p : Param) : (s.modFunc f).nat p = s.nat p := rfl
@[simp] theorem State.modFunc_head (f : FuncUnit → FuncUnit) (s : State) (h : Head) : (s.modFunc f).head h = s.head h := rfl
@[simp] theorem State.modFunc_monitor (f : FuncUnit → FuncUnit) (s : State) (h : Head) :
    (s.modFunc f).monitor h = s.monitor h := rfl
@[simp] theorem State.modNeedle_par (f : NeedleBar → NeedleBar) (s : State) (p : Param) : (s.modNeedle f).par p = s.par p := rfl
@[simp] theorem State.modNeedle_nat (f : NeedleBar → NeedleBar) (s : State) (p : Param) : (s.modNeedle f).nat p = s.nat p := rfl
@[simp] theorem State.modNeedle_head (f : NeedleBar → NeedleBar) (s : State) (h : Head) : (s.modNeedle f).head h = s.head h := rfl
@[simp] theorem State.modNeedle_monitor (f : NeedleBar → NeedleBar) (s : State) (h : Head) :
    (s.modNeedle f).monitor h = s.monitor h := rfl
@[simp] theorem State.modThread_par (f : ThreadUnit → ThreadUnit) (s : State) (p : Param) : (s.modThread f).par p = s.par p := rfl
@[simp] theorem State.modThread_nat (f : ThreadUnit → ThreadUnit) (s : State) (p : Param) : (s.modThread f).nat p = s.nat p := rfl
@[simp] theorem State.modThread_head (f : ThreadUnit → ThreadUnit) (s : State) (h : Head) : (s.modThread f).head h = s.head h := rfl
@[simp] theorem State.modTable_par (f : HeadTable → HeadTable) (s : State) (p : Param) : (s.modTable f).par p = s.par p := rfl
@[simp] theorem State.modTable_nat (f : HeadTable → HeadTable) (s : State) (p : Param) : (s.modTable f).nat p = s.nat p := rfl
@[simp] theorem State.modTable_monitor (f : HeadTable → HeadTable) (s : State) (h : Head) :
    (s.modTable f).monitor h = s.monitor h := rfl
@[simp] theorem State.modNotices_par (f : NoticeUnit → NoticeUnit) (s : State) (p : Param) : (s.modNotices f).par p = s.par p := rfl
@[simp] theorem State.modNotices_nat (f : NoticeUnit → NoticeUnit) (s : State) (p : Param) : (s.modNotices f).nat p = s.nat p := rfl
@[simp] theorem State.modNotices_head (f : NoticeUnit → NoticeUnit) (s : State) (h : Head) : (s.modNotices f).head h = s.head h := rfl
@[simp] theorem State.modNotices_monitor (f : NoticeUnit → NoticeUnit) (s : State) (h : Head) :
    (s.modNotices f).monitor h = s.monitor h := rfl
@[simp] theorem State.modLink_par (f : Link → Link) (s : State) (p : Param) : (s.modLink f).par p = s.par p := rfl
@[simp] theorem State.modLink_nat (f : Link → Link) (s : State) (p : Param) : (s.modLink f).nat p = s.nat p := rfl
@[simp] theorem State.modLink_head (f : Link → Link) (s : State) (h : Head) : (s.modLink f).head h = s.head h := rfl
@[simp] theorem State.modLink_monitor (f : Link → Link) (s : State) (h : Head) :
    (s.modLink f).monitor h = s.monitor h := rfl
@[simp] theorem State.modPins_par (f : Pins → Pins) (s : State) (p : Param) : (s.modPins f).par p = s.par p := rfl
@[simp] theorem State.modPins_nat (f : Pins → Pins) (s : State) (p : Param) : (s.modPins f).nat p = s.nat p := rfl
@[simp] theorem State.modPins_head (f : Pins → Pins) (s : State) (h : Head) : (s.modPins f).head h = s.head h := rfl
@[simp] theorem State.modPins_monitor (f : Pins → Pins) (s : State) (h : Head) :
    (s.modPins f).monitor h = s.monitor h := rfl

/-- Writing a parameter and reading it again. -/
@[simp] theorem State.setPar_par_same (p : Param) (v : Int) (s : State) : (s.setPar p v).par p = v := by
  simp [State.par]

/-- Two parameters stand at two places. -/
theorem Param.place_injective : Function.Injective Param.place := by
  intro a b h
  cases a <;> cases b <;> first | rfl | (exact absurd h (by decide))

/-- Writing a parameter leaves every other as it is. -/
theorem State.setPar_par_other {p q : Param} (hpq : p ≠ q) (v : Int) (s : State) : (s.setPar p v).par q = s.par q := by
  have h : (p.place : Nat) ≠ q.place := fun e => hpq (Param.place_injective (Fin.ext e))
  simp [State.par, h]

/-- Changing one head and reading it again. -/
@[simp] theorem State.modHead_head_same (h : Head) (f : HeadEntry → HeadEntry) (s : State) :
    (s.modHead h f).head h = f (s.head h) := by
  simp [State.modHead, State.head]

/-- Changing one head leaves every other as it is. -/
theorem State.modHead_head_other {h k : Head} (hk : h ≠ k) (f : HeadEntry → HeadEntry) (s : State) :
    (s.modHead h f).head k = s.head k := by
  have e : (h : Nat) ≠ k := fun e => hk (Fin.ext e)
  simp [State.modHead, State.head, e]

/-- Changing one monitor and reading it again. -/
@[simp] theorem State.modMonitor_monitor_same (h : Head) (f : Monitor → Monitor) (s : State) :
    (s.modMonitor h f).monitor h = f (s.monitor h) := by
  simp [State.modMonitor, State.monitor]

/-- Changing one monitor leaves every other as it is. -/
theorem State.modMonitor_monitor_other {h k : Head} (hk : h ≠ k) (f : Monitor → Monitor) (s : State) :
    (s.modMonitor h f).monitor k = s.monitor k := by
  have e : (h : Nat) ≠ k := fun e => hk (Fin.ext e)
  simp [State.modMonitor, State.monitor, e]

/-- One element of a vector made by `mapTwelve`. -/
@[simp] theorem mapTwelve_get {α : Type} (f : Fin 12 → α → α) (v : Vector α 12) (i : Fin 12) :
    (mapTwelve f v)[i] = f i v[i] := by
  fin_cases i <;> rfl

/-- A map that changes nothing changes no vector. -/
theorem mapTwelve_id {α : Type} (f : Fin 12 → α → α) (v : Vector α 12) (hf : ∀ i, f i v[i] = v[i]) : mapTwelve f v = v := by
  ext i hi
  simpa using (mapTwelve_get f v ⟨i, hi⟩).trans (hf ⟨i, hi⟩)

/-- Every head after a change of every head. -/
@[simp] theorem State.modHeads_head (f : Head → HeadEntry → HeadEntry) (s : State) (h : Head) :
    (s.modHeads f).head h = f h (s.head h) := mapTwelve_get f s.table.heads h

/-- Every monitor after a change of every monitor. -/
@[simp] theorem State.modMonitors_monitor (f : Head → Monitor → Monitor) (s : State) (h : Head) :
    (s.modMonitors f).monitor h = f h (s.monitor h) := mapTwelve_get f s.thread.monitors h

/-- Levels for no head are no levels. -/
@[simp] theorem setTension_nil (s : State) : setTension [] s = s := by
  simp [setTension, State.modPins, mapTwelve_id]

end Sys2Proof.Machine
end

