-- ==== Sys2Proof/Laws/Link.lean ====
section
/-! SUPPORT. What the link's shared operations do, said once: a request that is taken at once, a request that waits, an event, the
arbiter with nothing to do, and the bytes of the fields. -/

namespace Sys2Proof.Machine

/-! ### Requests -/

/-- A request taken at once answers by its block and is replied (R184). RESTART apart, whose reply is marked. -/
theorem ask_of_ready {i : Instr} {kind tag : Byte} {body : List Byte} {s : State} (hs : s.ready)
    (he : encodeRequest i = some (kind, tag, body)) (hk : kind ≠ 36#8) :
    ask i s = replied kind tag (answerOf i (hunt s)).2.status (answerOf i (hunt s)).2.payload (answerOf i (hunt s)).1 := by
  obtain ⟨hc, hr, hb, hq⟩ := hs
  simp [ask, State.checking, hc, he, hunt, hr, hb, hq, replied, replyTo, hk]

/-- The same, for the answer that the block is known to give. -/
theorem ask_answered {i : Instr} {kind tag : Byte} {body : List Byte} {s t : State} {a : Answer} (hs : s.ready)
    (he : encodeRequest i = some (kind, tag, body)) (hk : kind ≠ 36#8) (ha : answerOf i (hunt s) = (t, a)) :
    ask i s = replied kind tag a.status a.payload t := by
  rw [ask_of_ready hs he hk, ha]

/-- While the store check runs a request is lost (R183). -/
theorem ask_of_checking {i : Instr} {s : State} (hc : s.store.check = .running) : ask i s = s := by
  simp [ask, State.checking, hc]

/-- An event is taken once the store check has ended. -/
theorem event_of_awake {levels effect : State → State} {s : State} (hs : s.awake) :
    event levels effect s = settle (effect s) := by
  simp [event, State.checking, hs]

/-- While the store check runs an event changes the inputs alone. -/
theorem event_of_checking {levels effect : State → State} {s : State} (hc : s.store.check = .running) :
    event levels effect s = levels s := by
  simp [event, State.checking, hc]

/-! ### The arbiter -/

/-- A transmitter that is sending is left to it. -/
theorem arbitrate_of_sending {s : State} (h : s.link.sending ≠ none) : arbitrate s = s := by
  have : s.link.sending.isSome = true := Option.isSome_iff_ne_none.mpr h
  simp [arbitrate, this]

/-- With no frame waiting none is taken. -/
theorem pump_of_empty (n : Nat) {s : State} (h : s.link.buffer = []) : pump n s = s := by
  cases n <;> simp [pump, h]

/-- While the transmitter sends and no frame waits, nothing more follows a command. -/
theorem settle_of_quiet {s : State} (h : s.link.sending ≠ none) (hb : s.link.buffer = []) : settle s = s := by
  simp [settle, arbitrate_of_sending h, pump_of_empty _ hb]

/-! ### Fields -/

/-- A field of w bytes has w bytes. -/
@[simp] theorem bytesOf_length (w n : Nat) : (bytesOf w n).length = w := by
  induction w with
  | zero => rfl
  | succ w ih => simp [bytesOf, ih]

/-- The one byte of a one-byte field. -/
@[simp] theorem u8_eq (n : Nat) : u8 n = [BitVec.ofNat 8 n] := by simp [u8, bytesOf]

/-- Two bytes joined and taken apart. -/
@[simp] theorem halfBytes_halfOf (a b : Byte) : halfBytes (halfOf a b) = [a, b] := by
  simp only [halfBytes, halfOf, List.cons.injEq, and_true]
  constructor <;> apply BitVec.eq_of_getLsbD_eq <;> intro i hi <;>
    simp only [BitVec.getLsbD_append, BitVec.getLsbD_extractLsb', hi, decide_true, Bool.true_and]
  · simp [show ¬ 8 + i < 8 by omega]
  · simp [hi]

/-- Two bytes taken apart and joined. -/
@[simp] theorem halfOf_halfBytes (w : Half) : halfOf (w.extractLsb' 8 8) (w.extractLsb' 0 8) = w := by
  apply BitVec.eq_of_getLsbD_eq
  intro i hi
  simp only [halfOf, BitVec.getLsbD_append, BitVec.getLsbD_extractLsb']
  split
  · simp [*]
  · simp only [show i - 8 < 8 by omega, decide_true, Bool.true_and]
    congr 1; omega

end Sys2Proof.Machine
end

