-- ==== Sys2Proof/Laws/Ops.lean ====
section
/-! SUPPORT. What the shared operations over the blocks do, said once: the notices, the run state, the operation slot, retention,
the gaps, the lookahead's report, the brake, and the fields of several bytes. -/

namespace Sys2Proof.Machine

/-! ### Notices (R188, R189) -/

@[simp] theorem raiseNotice_params (src : Source) (i : Nat) (d : List Byte) (s : State) : (raiseNotice src i d s).params = s.params := rfl
@[simp] theorem raiseNotice_pins (src : Source) (i : Nat) (d : List Byte) (s : State) : (raiseNotice src i d s).pins = s.pins := rfl
@[simp] theorem raiseNotice_store (src : Source) (i : Nat) (d : List Byte) (s : State) : (raiseNotice src i d s).store = s.store := rfl
@[simp] theorem raiseNotice_shaft (src : Source) (i : Nat) (d : List Byte) (s : State) : (raiseNotice src i d s).shaft = s.shaft := rfl
@[simp] theorem raiseNotice_planner (src : Source) (i : Nat) (d : List Byte) (s : State) : (raiseNotice src i d s).planner = s.planner := rfl
@[simp] theorem raiseNotice_frame (src : Source) (i : Nat) (d : List Byte) (s : State) : (raiseNotice src i d s).frame = s.frame := rfl
@[simp] theorem raiseNotice_run (src : Source) (i : Nat) (d : List Byte) (s : State) : (raiseNotice src i d s).run = s.run := rfl
@[simp] theorem raiseNotice_func (src : Source) (i : Nat) (d : List Byte) (s : State) : (raiseNotice src i d s).func = s.func := rfl
@[simp] theorem raiseNotice_needle (src : Source) (i : Nat) (d : List Byte) (s : State) : (raiseNotice src i d s).needle = s.needle := rfl
@[simp] theorem raiseNotice_thread (src : Source) (i : Nat) (d : List Byte) (s : State) : (raiseNotice src i d s).thread = s.thread := rfl
@[simp] theorem raiseNotice_table (src : Source) (i : Nat) (d : List Byte) (s : State) : (raiseNotice src i d s).table = s.table := rfl
@[simp] theorem raiseNotice_link (src : Source) (i : Nat) (d : List Byte) (s : State) : (raiseNotice src i d s).link = s.link := rfl
@[simp] theorem raiseNotice_clock (src : Source) (i : Nat) (d : List Byte) (s : State) : (raiseNotice src i d s).clock = s.clock := rfl
@[simp] theorem raiseNotice_pending (src : Source) (i : Nat) (d : List Byte) (s : State) : (raiseNotice src i d s).pending = s.pending := rfl
@[simp] theorem raiseNotice_mask (src : Source) (i : Nat) (d : List Byte) (s : State) : (raiseNotice src i d s).notices.mask = s.notices.mask := rfl
@[simp] theorem raiseNotice_seq (src : Source) (i : Nat) (d : List Byte) (s : State) : (raiseNotice src i d s).notices.seq = s.notices.seq := rfl

/-- The source's own record takes the occurrence. -/
theorem raiseNotice_self (src : Source) (i : Nat) (d : List Byte) (s : State) :
    (raiseNotice src i d s).notices.sources[src] = occurrence s.notices.sources[src] i d s.clock := by
  simp [raiseNotice]

/-- No other record changes. -/
theorem raiseNotice_other (src o : Source) (i : Nat) (d : List Byte) (s : State) (h : o ≠ src) :
    (raiseNotice src i d s).notices.sources[o] = s.notices.sources[o] := by
  have : src.val ≠ o.val := fun e => h (Fin.ext e.symm)
  simp [raiseNotice, this]

/-- The queue grows by the source exactly when it becomes pending unmasked. -/
theorem raiseNotice_queue (src : Source) (i : Nat) (d : List Byte) (s : State) :
    (raiseNotice src i d s).notices.queue =
      if s.notices.sources[src].pending = false ∧ s.notices.unmasked src = true then s.notices.queue ++ [src]
      else s.notices.queue := by
  cases hp : s.notices.sources[src].pending <;> cases hm : s.notices.unmasked src <;>
    simp_all [raiseNotice]

/-- An occurrence leaves its record pending. -/
theorem occurrence_pending (r : SourceRecord) (i : Nat) (d : List Byte) (t : Word) : (occurrence r i d t).pending = true := by
  unfold occurrence
  split <;> simp_all

/-! ### The run state (R84) and the slot (R102) -/

@[simp] theorem setRunState_params (r : RunState) (s : State) : (setRunState r s).params = s.params := by
  unfold setRunState; split; · rfl
  · cases r <;> rfl
@[simp] theorem setRunState_pins (r : RunState) (s : State) : (setRunState r s).pins = s.pins := by
  unfold setRunState; split; · rfl
  · cases r <;> rfl
@[simp] theorem setRunState_store (r : RunState) (s : State) : (setRunState r s).store = s.store := by
  unfold setRunState; split; · rfl
  · cases r <;> rfl
@[simp] theorem setRunState_shaft (r : RunState) (s : State) : (setRunState r s).shaft = s.shaft := by
  unfold setRunState; split; · rfl
  · cases r <;> rfl
@[simp] theorem setRunState_planner (r : RunState) (s : State) : (setRunState r s).planner = s.planner := by
  unfold setRunState; split; · rfl
  · cases r <;> rfl
@[simp] theorem setRunState_frame (r : RunState) (s : State) : (setRunState r s).frame = s.frame := by
  unfold setRunState; split; · rfl
  · cases r <;> rfl
@[simp] theorem setRunState_func (r : RunState) (s : State) : (setRunState r s).func = s.func := by
  unfold setRunState; split; · rfl
  · cases r <;> rfl
@[simp] theorem setRunState_thread (r : RunState) (s : State) : (setRunState r s).thread = s.thread := by
  unfold setRunState; split; · rfl
  · cases r <;> rfl
@[simp] theorem setRunState_table (r : RunState) (s : State) : (setRunState r s).table = s.table := by
  unfold setRunState; split; · rfl
  · cases r <;> rfl
@[simp] theorem setRunState_link (r : RunState) (s : State) : (setRunState r s).link = s.link := by
  unfold setRunState; split; · rfl
  · cases r <;> rfl
@[simp] theorem setRunState_clock (r : RunState) (s : State) : (setRunState r s).clock = s.clock := by
  unfold setRunState; split; · rfl
  · cases r <;> rfl
@[simp] theorem setRunState_pending (r : RunState) (s : State) : (setRunState r s).pending = s.pending := by
  unfold setRunState; split; · rfl
  · cases r <;> rfl

/-- The run state is the one entered, and the rest of the Run Controller stays. -/
@[simp] theorem setRunState_run (r : RunState) (s : State) : (setRunState r s).run = { s.run with state := r } := by
  unfold setRunState
  split
  · next h => subst h; rfl
  · cases r <;> rfl

/-- Entering the state the run is in changes nothing. -/
theorem setRunState_same (s : State) : setRunState s.run.state s = s := by simp [setRunState]

/-- With the slot empty there is no operation to end. -/
theorem endOperation_of_empty {s : State} (h : s.run.slot = none) (r : OpResult) (d : List Byte) : endOperation r d s = s := by
  simp [endOperation, h]

/-- The operation in the slot ends: the slot empties and OP_DONE is raised. -/
theorem endOperation_of_slot {s : State} {op : Op} (h : s.run.slot = some op) (r : OpResult) (d : List Byte) :
    endOperation r d s =
      raiseNotice srcOpDone s.store.cursor (u8 op.kind.value ++ u8 op.starter.value ++ u8 r.value ++ d)
        (s.modRun fun x => { x with slot := none }) := by
  simp [endOperation, h]

/-- However an operation ends, the slot is empty after. -/
@[simp] theorem endOperation_slot (r : OpResult) (d : List Byte) (s : State) : (endOperation r d s).run.slot = none := by
  cases h : s.run.slot with
  | none => rw [endOperation_of_empty h]; exact h
  | some op => rw [endOperation_of_slot h]; rfl

@[simp] theorem endOperation_params (r : OpResult) (d : List Byte) (s : State) : (endOperation r d s).params = s.params := by
  unfold endOperation; split <;> rfl
@[simp] theorem endOperation_pins (r : OpResult) (d : List Byte) (s : State) : (endOperation r d s).pins = s.pins := by
  unfold endOperation; split <;> rfl
@[simp] theorem endOperation_store (r : OpResult) (d : List Byte) (s : State) : (endOperation r d s).store = s.store := by
  unfold endOperation; split <;> rfl
@[simp] theorem endOperation_shaft (r : OpResult) (d : List Byte) (s : State) : (endOperation r d s).shaft = s.shaft := by
  unfold endOperation; split <;> rfl
@[simp] theorem endOperation_planner (r : OpResult) (d : List Byte) (s : State) : (endOperation r d s).planner = s.planner := by
  unfold endOperation; split <;> rfl
@[simp] theorem endOperation_frame (r : OpResult) (d : List Byte) (s : State) : (endOperation r d s).frame = s.frame := by
  unfold endOperation; split <;> rfl
@[simp] theorem endOperation_func (r : OpResult) (d : List Byte) (s : State) : (endOperation r d s).func = s.func := by
  unfold endOperation; split <;> rfl
@[simp] theorem endOperation_needle (r : OpResult) (d : List Byte) (s : State) : (endOperation r d s).needle = s.needle := by
  unfold endOperation; split <;> rfl
@[simp] theorem endOperation_thread (r : OpResult) (d : List Byte) (s : State) : (endOperation r d s).thread = s.thread := by
  unfold endOperation; split <;> rfl
@[simp] theorem endOperation_table (r : OpResult) (d : List Byte) (s : State) : (endOperation r d s).table = s.table := by
  unfold endOperation; split <;> rfl
@[simp] theorem endOperation_link (r : OpResult) (d : List Byte) (s : State) : (endOperation r d s).link = s.link := by
  unfold endOperation; split <;> rfl
@[simp] theorem endOperation_clock (r : OpResult) (d : List Byte) (s : State) : (endOperation r d s).clock = s.clock := by
  unfold endOperation; split <;> rfl
@[simp] theorem endOperation_pending (r : OpResult) (d : List Byte) (s : State) : (endOperation r d s).pending = s.pending := by
  unfold endOperation; split <;> rfl

/-! ### Retention and gaps (R18, R165, R166) -/

/-- Retention moves retire to the candidate, or leaves it where it is above. -/
theorem runRetention_retire (s : State) : (runRetention s).store.retire = max s.store.retire s.retentionCandidate := by
  simp only [runRetention, State.modStore_store, Store.retireTo]
  split
  · next h => exact (Nat.max_eq_right (Nat.le_of_lt h)).symm
  · next h => exact (Nat.max_eq_left (Nat.le_of_not_lt h)).symm

/-- The candidate is never above the cursor. -/
theorem retentionCandidate_le (s : State) : s.retentionCandidate ≤ s.store.cursor := by
  simp only [State.retentionCandidate]
  split <;> omega

/-- Retention takes as many records from the front as slots become free, and changes nothing else of the store. -/
theorem runRetention_store (s : State) :
    (runRetention s).store =
      { s.store with
        retire := max s.store.retire s.retentionCandidate
        records := s.store.records.drop (s.retentionCandidate - s.store.retire) } := by
  simp only [runRetention, State.modStore_store, Store.retireTo]
  split
  · next h => rw [Nat.max_eq_right (Nat.le_of_lt h)]
  · next h => rw [Nat.max_eq_left (Nat.le_of_not_lt h), Nat.sub_eq_zero_of_le (Nat.le_of_not_lt h)]; rfl

/-- A gap list has room for a gap that absorbs another, or while it holds fewer than eight. -/
theorem openGapAt_eq_none (a : Nat) (gaps : List Gap) :
    openGapAt a gaps = none ↔ (gaps.filter (·.meets a)).isEmpty = true ∧ Config.gapLimit ≤ gaps.length := by
  simp only [openGapAt]
  split <;> simp_all

/-- The opened gap is the last, and it is open. -/
theorem openGapAt_eq_some {a : Nat} {gaps new : List Gap} (h : openGapAt a gaps = some new) :
    new = gaps.filter (fun g => !g.meets a) ++ [⟨leastOf a ((gaps.filter (·.meets a)).map Gap.start), none⟩] := by
  simp only [openGapAt] at h
  split at h
  · cases h
  · cases h; rfl

/-- Closing leaves no open gap. -/
theorem closeGapAt_closed (c : Nat) (gaps : List Gap) : hasOpenGap (closeGapAt c gaps) = false := by
  simp only [hasOpenGap, closeGapAt, List.any_eq_false, List.mem_filterMap, Option.isNone_iff_eq_none]
  rintro g ⟨o, -, ho⟩ hg
  split at ho
  · next h => cases ho; simp [h] at hg
  · split at ho
    · cases ho
    · cases ho; simp at hg

/-- Closing never lengthens a list. -/
theorem closeGapAt_length (c : Nat) (gaps : List Gap) : (closeGapAt c gaps).length ≤ gaps.length :=
  List.length_filterMap_le _ _

/-! ### The lookahead's report, the line and the brake (R13, R33 to R37) -/

@[simp] theorem rebuild_params (s : State) : (rebuild s).params = s.params := rfl
@[simp] theorem rebuild_pins (s : State) : (rebuild s).pins = s.pins := rfl
@[simp] theorem rebuild_store (s : State) : (rebuild s).store = s.store := rfl
@[simp] theorem rebuild_shaft (s : State) : (rebuild s).shaft = s.shaft := rfl
@[simp] theorem rebuild_frame (s : State) : (rebuild s).frame = s.frame := rfl
@[simp] theorem rebuild_run (s : State) : (rebuild s).run = s.run := rfl
@[simp] theorem rebuild_func (s : State) : (rebuild s).func = s.func := rfl
@[simp] theorem rebuild_needle (s : State) : (rebuild s).needle = s.needle := rfl
@[simp] theorem rebuild_thread (s : State) : (rebuild s).thread = s.thread := rfl
@[simp] theorem rebuild_table (s : State) : (rebuild s).table = s.table := rfl
@[simp] theorem rebuild_notices (s : State) : (rebuild s).notices = s.notices := rfl
@[simp] theorem rebuild_link (s : State) : (rebuild s).link = s.link := rfl
@[simp] theorem rebuild_clock (s : State) : (rebuild s).clock = s.clock := rfl
@[simp] theorem rebuild_pending (s : State) : (rebuild s).pending = s.pending := rfl

/-- A line dropped is at 0, with no stall timer. -/
@[simp] theorem dropLine_shaft (s : State) : (dropLine s).shaft = { s.shaft with line := 0, stall := none } := rfl

/-- BRAKE is asserted, and no order waits. -/
theorem assertBrake_shaft (s : State) : (assertBrake s).shaft.brake = true ∧ (assertBrake s).shaft.waiting = none := by
  simp only [assertBrake, State.modShaft_shaft]
  split <;> simp_all

/-- Between the taking of a RESTART and its reset no demand is placed (R194). -/
theorem placeLine_of_restart {s : State} (h : s.link.restart ≠ .none) (v : Nat) : placeLine v s = s := by
  simp [placeLine, h]

/-- A demand above 0 stands on the line. -/
theorem placeLine_line {s : State} (h : s.link.restart = .none) {v : Nat} (hv : v ≠ 0) : (placeLine v s).shaft.line = v := by
  simp only [placeLine, h, hv, ne_eq, not_true_eq_false, or_self, if_false, State.modShaft_shaft]
  split <;> rfl

/-! ### Fields of several bytes (R199) -/

/-- Four bytes taken from a word and joined. -/
@[simp] theorem wordOf_wordBytes (w : Word) :
    wordOf (w.extractLsb' 24 8) (w.extractLsb' 16 8) (w.extractLsb' 8 8) (w.extractLsb' 0 8) = w := by
  apply BitVec.eq_of_getLsbD_eq
  intro i hi
  simp only [wordOf, BitVec.getLsbD_append, BitVec.getLsbD_extractLsb']
  repeat' split
  all_goals
    rw [decide_eq_true (by omega), Bool.true_and]
    congr 1; omega

/-- Three bytes taken from an index and joined. -/
@[simp] theorem indexOf_indexBytes (w : Index3) :
    indexOf (w.extractLsb' 16 8) (w.extractLsb' 8 8) (w.extractLsb' 0 8) = w := by
  apply BitVec.eq_of_getLsbD_eq
  intro i hi
  simp only [indexOf, BitVec.getLsbD_append, BitVec.getLsbD_extractLsb']
  repeat' split
  all_goals
    rw [decide_eq_true (by omega), Bool.true_and]
    congr 1; omega

/-! ### The list at a LOAD, moves that begin, head numbers (R47, R55, R62, R161) -/

@[simp] theorem rebuildAtLoad_params (s : State) : (rebuildAtLoad s).params = s.params := by
  unfold rebuildAtLoad; simp
@[simp] theorem rebuildAtLoad_pins (s : State) : (rebuildAtLoad s).pins = s.pins := by
  unfold rebuildAtLoad; simp
@[simp] theorem rebuildAtLoad_store (s : State) : (rebuildAtLoad s).store = s.store := by
  unfold rebuildAtLoad; simp
@[simp] theorem rebuildAtLoad_shaft (s : State) : (rebuildAtLoad s).shaft = s.shaft := by
  unfold rebuildAtLoad; simp
@[simp] theorem rebuildAtLoad_frame (s : State) : (rebuildAtLoad s).frame = s.frame := by
  unfold rebuildAtLoad; simp
@[simp] theorem rebuildAtLoad_run (s : State) : (rebuildAtLoad s).run = s.run := by
  unfold rebuildAtLoad; simp
@[simp] theorem rebuildAtLoad_func (s : State) : (rebuildAtLoad s).func = s.func := by
  unfold rebuildAtLoad; simp
@[simp] theorem rebuildAtLoad_needle (s : State) : (rebuildAtLoad s).needle = s.needle := by
  unfold rebuildAtLoad; simp
@[simp] theorem rebuildAtLoad_thread (s : State) : (rebuildAtLoad s).thread = s.thread := by
  unfold rebuildAtLoad; simp
@[simp] theorem rebuildAtLoad_table (s : State) : (rebuildAtLoad s).table = s.table := by
  unfold rebuildAtLoad; simp
@[simp] theorem rebuildAtLoad_notices (s : State) : (rebuildAtLoad s).notices = s.notices := by
  unfold rebuildAtLoad; simp
@[simp] theorem rebuildAtLoad_link (s : State) : (rebuildAtLoad s).link = s.link := by
  unfold rebuildAtLoad; simp
@[simp] theorem rebuildAtLoad_clock (s : State) : (rebuildAtLoad s).clock = s.clock := by
  unfold rebuildAtLoad; simp
@[simp] theorem rebuildAtLoad_pending (s : State) : (rebuildAtLoad s).pending = s.pending := by
  unfold rebuildAtLoad; simp

/-- At a LOAD the list is rebuilt, and only the note of the LOAD's millisecond may change beside it (R47, R55). -/
theorem rebuildAtLoad_planner (s : State) :
    (rebuildAtLoad s).planner = (rebuild s).planner ∨
      (rebuildAtLoad s).planner = { (rebuild s).planner with freshAt := some s.clock } := by
  simp only [rebuildAtLoad, State.modPlanner_planner]
  split <;> simp

@[simp] theorem Frame.lay_move (m : Move) (f : Frame) : (f.lay m).move = some m := rfl
@[simp] theorem Frame.lay_dirX (m : Move) (f : Frame) : (f.lay m).dirX = wayOf m.leftX f.dirX := rfl
@[simp] theorem Frame.lay_dirY (m : Move) (f : Frame) : (f.lay m).dirY = wayOf m.leftY f.dirY := rfl
@[simp] theorem Frame.lay_stepX (m : Move) (f : Frame) : (f.lay m).stepX = f.stepX := rfl
@[simp] theorem Frame.lay_stepY (m : Move) (f : Frame) : (f.lay m).stepY = f.stepY := rfl
@[simp] theorem Frame.lay_coord (m : Move) (f : Frame) : (f.lay m).coord = f.coord := rfl
@[simp] theorem Frame.lay_ref (m : Move) (f : Frame) : (f.lay m).ref = f.ref := rfl
@[simp] theorem Frame.lay_offset (m : Move) (f : Frame) : (f.lay m).offset = f.offset := rfl
@[simp] theorem Frame.lay_late (m : Move) (f : Frame) : (f.lay m).late = f.late := rfl
@[simp] theorem Frame.lay_dwell (m : Move) (f : Frame) : (f.lay m).dwell = f.dwell := rfl
@[simp] theorem Frame.lay_homing (m : Move) (f : Frame) : (f.lay m).homing = f.homing := rfl

/-- A turn move in progress completes, and nothing but the frame changes. -/
theorem turnMoveEnds_eq (s : State) : turnMoveEnds s = { s with frame := s.settledFrame } := by
  unfold turnMoveEnds State.settledFrame
  cases h : s.frame.move with
  | none => rfl
  | some m =>
    by_cases hp : m.purpose = .turnMove
    · simp only [hp, if_true]; rfl
    · simp only [hp, if_false]

@[simp] theorem turnMoveEnds_frame (s : State) : (turnMoveEnds s).frame = s.settledFrame := by rw [turnMoveEnds_eq]
@[simp] theorem turnMoveEnds_run (s : State) : (turnMoveEnds s).run = s.run := by rw [turnMoveEnds_eq]
@[simp] theorem turnMoveEnds_store (s : State) : (turnMoveEnds s).store = s.store := by rw [turnMoveEnds_eq]

/-- With no turn move in progress the frame is found as it is. -/
theorem settledFrame_of_noTurn {s : State} (h : ∀ m, s.frame.move = some m → m.purpose ≠ .turnMove) :
    s.settledFrame = s.frame := by
  unfold State.settledFrame
  split
  · next m hm => rw [if_neg (h m hm)]
  · rfl

/-- After it no turn move is in progress. -/
theorem settledFrame_noTurn (s : State) (m : Move) (h : s.settledFrame.move = some m) : m.purpose ≠ .turnMove := by
  unfold State.settledFrame at h
  split at h
  · next m' hm =>
    split at h
    · cases h
    · next hp => rw [hm] at h; cases h; exact hp
  · next hn => rw [hn] at h; cases h

/-- The move in progress that is no turn move. -/
theorem Frame.ownMove_eq_some {f : Frame} {m : Move} : f.ownMove = some m ↔ f.move = some m ∧ m.purpose ≠ .turnMove := by
  simp [Frame.ownMove, Option.filter_eq_some_iff]

/-- A chunked move begins from where the frame then stands, or is complete at once (R62, R63). -/
theorem beginChunked_eq (p : Purpose) (target : Pt) (turn : Option Nat) (s : State) :
    beginChunked p target turn s =
      if s.settledFrame.coord = target then (turnMoveEnds s, true)
      else ((turnMoveEnds s).modFrame (Frame.lay ((turnMoveEnds s).chunkMove p target turn none)), false) := by
  simp only [beginChunked, turnMoveEnds_frame]

/-- A turn move begins from where the frame stands once the turn move before it has completed, and nothing but the frame changes;
with no step to make the frame is at its target at once (R64). -/
theorem beginTurnMove_eq (t : Nat) (jump : Bool) (target : Pt) (s : State) :
    beginTurnMove t jump target s =
      let l := s.stepsBetween s.settledFrame.coord target
      { s with frame :=
          if l = (0, 0) then { s.settledFrame with coord := target, move := none, late := none }
          else { s.settledFrame.lay ⟨.turnMove, target, target, l.1, l.2, some t, jump, none⟩ with
            late := some (if jump then .jumpEnd else .windowEnd) } } := by
  rw [beginTurnMove, turnMoveEnds_eq]
  simp only [show ∀ (f : Frame) (a b : Pt), ({ s with frame := f } : State).stepsBetween a b = s.stepsBetween a b from
    fun _ _ _ => rfl]
  split
  · next h => simp [arriveAt, State.modFrame, h]
  · rfl

/-- A direction line keeps its level exactly in a move with no step on its axis, or with steps in its own direction (R62). -/
theorem wayOf_eq (n : Int) (w : Way) :
    (0 < n → wayOf n w = .plus) ∧ (n < 0 → wayOf n w = .minus) ∧ (n = 0 → wayOf n w = w) := by
  unfold wayOf
  refine ⟨fun h => by simp [h], fun h => ?_, fun h => by simp [h]⟩
  have : ¬ 0 < n := by omega
  simp [h, this]

/-- The byte that numbers a head. -/
theorem headNumber_eq_some {b : Byte} {h : Head} : headNumber b = some h ↔ b.toNat = h.val + 1 := by
  unfold headNumber
  split
  · rename_i hb
    simp only [Option.some.injEq, Fin.ext_iff]
    omega
  · simp only [reduceCtorEq, false_iff]
    omega

/-- The byte that numbers a fitted head. -/
theorem headOf_eq_some {s : State} {b : Byte} {h : Head} :
    s.headOf b = some h ↔ b.toNat = h.val + 1 ∧ s.fitted h = true := by
  rw [State.headOf, Option.filter_eq_some_iff, headNumber_eq_some]

end Sys2Proof.Machine
end

