-- ==== Sys2Proof/Laws/PerInstr.lean ====
section
/-! SUPPORT. The family `Wire`, one lemma for every command: the frame that carries a well-formed request has a kind of the
request kinds and a body that fits a frame (R180, R200); an event has no frame, and no fact to state. -/

namespace Sys2Proof.Laws

open Sys2Proof.Machine

/-- Every point takes six bytes (R200). -/
theorem length_points (ps : List RawPoint) : (ps.flatMap pointBytes).length = 6 * ps.length := by
  induction ps with
  | nil => rfl
  | cons p ps ih => simp [ih, pointBytes, halfBytes, wordBytes]; omega

/-- Every action item takes eight bytes (R202). -/
theorem length_actions (items : List RawAction) : (items.flatMap actionBytes).length = 8 * items.length := by
  induction items with
  | nil => rfl
  | cons a items ih => simp [ih, actionBytes, halfBytes]; omega

/-- A map entry takes eight bytes and its items (R202). -/
theorem length_entry (e : RawEntry) : (entryBytes e).length = 8 + 8 * e.items.length := by
  simp only [entryBytes, List.length_append, length_actions]
  simp [halfBytes]

/-- What the family says of a command: where a frame carries it, the frame is well formed. -/
def Wire.Statement (i : Instr) : Prop :=
  i.wellFormed = true → ∀ (kind tag : Byte) (body : List Byte), encodeRequest i = some (kind, tag, body) →
    isRequestKind kind = true ∧ bodyFits body = true

/-- The statement for a request, from its frame. -/
theorem statement_of_frame {i : Instr} {kind tag : Byte} {body : List Byte} (he : encodeRequest i = some (kind, tag, body))
    (hk : isRequestKind kind = true) (hb : i.wellFormed = true → bodyFits body = true) : Wire.Statement i := by
  intro h k g b hf
  rw [he] at hf
  cases hf
  exact ⟨hk, hb h⟩

/-- The statement for an event. -/
theorem statement_of_event {i : Instr} (he : encodeRequest i = none) : Wire.Statement i := by
  intro _ k g b hf
  simp [he] at hf

theorem Wire.powerOn (strapHigh : Bool) : Wire.Statement (.powerOn strapHigh) :=
  statement_of_event rfl
theorem Wire.storeCheckDone (failed : Option Half) : Wire.Statement (.storeCheckDone failed) :=
  statement_of_event rfl
theorem Wire.restartReset : Wire.Statement (.restartReset) :=
  statement_of_event rfl
theorem Wire.frameComplete (kind tag : Byte) (body : List Byte) (crc : Half) : Wire.Statement (.frameComplete kind tag body crc) :=
  statement_of_event rfl
theorem Wire.interByteTimeout : Wire.Statement (.interByteTimeout) :=
  statement_of_event rfl
theorem Wire.unknownKindFrame (kind tag : Byte) (body : List Byte) (crc : Half) : Wire.Statement (.unknownKindFrame kind tag body crc) :=
  statement_of_event rfl
theorem Wire.transmitEnd : Wire.Statement (.transmitEnd) :=
  statement_of_event rfl
theorem Wire.queryState (tag page : Byte) : Wire.Statement (.queryState tag page) :=
  statement_of_frame rfl rfl fun _ => rfl
theorem Wire.queryHead (tag head : Byte) : Wire.Statement (.queryHead tag head) :=
  statement_of_frame rfl rfl fun _ => rfl
theorem Wire.queryGaps (tag head : Byte) : Wire.Statement (.queryGaps tag head) :=
  statement_of_frame rfl rfl fun _ => rfl
theorem Wire.setParam (tag id : Byte) (value : Word) : Wire.Statement (.setParam tag id value) :=
  statement_of_frame rfl rfl fun _ => rfl
theorem Wire.getParam (tag id : Byte) : Wire.Statement (.getParam tag id) :=
  statement_of_frame rfl rfl fun _ => rfl
theorem Wire.loadTable (tag axis : Byte) (points : List RawPoint) : Wire.Statement (.loadTable tag axis points) :=
  statement_of_frame rfl rfl fun h => by
    simp only [Instr.wellFormed, decide_eq_true_eq] at h
    simp only [bodyFits, List.length_cons, length_points, h]; decide
theorem Wire.loadNeedlePlan (tag first : Byte) (values : List Byte) : Wire.Statement (.loadNeedlePlan tag first values) :=
  statement_of_frame rfl rfl fun h => by
    simp only [Instr.wellFormed, decide_eq_true_eq] at h
    simp [bodyFits]; omega
theorem Wire.loadMapEntry (tag : Byte) (entry : RawEntry) : Wire.Statement (.loadMapEntry tag entry) :=
  statement_of_frame rfl rfl fun h => by
    simp only [Instr.wellFormed, decide_eq_true_eq] at h
    simp only [bodyFits, length_entry, decide_eq_true_eq]; omega
theorem Wire.swapMap (tag : Byte) : Wire.Statement (.swapMap tag) :=
  statement_of_frame rfl rfl fun _ => rfl
theorem Wire.setChannel (tag chan type polarity : Byte) : Wire.Statement (.setChannel tag chan type polarity) :=
  statement_of_frame rfl rfl fun _ => rfl
theorem Wire.designOpen (tag : Byte) (x y : Half) : Wire.Statement (.designOpen tag x y) :=
  statement_of_frame rfl rfl fun _ => rfl
theorem Wire.load (tag : Byte) (start : Index3) (count : Byte) (data : List Byte) : Wire.Statement (.load tag start count data) :=
  statement_of_frame rfl rfl fun h => by
    simp only [Instr.wellFormed, decide_eq_true_eq] at h
    simp [bodyFits, indexBytes]; omega
theorem Wire.designDiscard (tag : Byte) : Wire.Statement (.designDiscard tag) :=
  statement_of_frame rfl rfl fun _ => rfl
theorem Wire.arm (tag : Byte) : Wire.Statement (.arm tag) :=
  statement_of_frame rfl rfl fun _ => rfl
theorem Wire.start (tag : Byte) (tension : List (BitVec 10)) : Wire.Statement (.start tag tension) :=
  statement_of_frame rfl rfl fun _ => rfl
theorem Wire.stop (tag : Byte) : Wire.Statement (.stop tag) :=
  statement_of_frame rfl rfl fun _ => rfl
theorem Wire.speed (tag : Byte) (value : Half) : Wire.Statement (.speed tag value) :=
  statement_of_frame rfl rfl fun _ => rfl
theorem Wire.inject (tag code : Byte) : Wire.Statement (.inject tag code) :=
  statement_of_frame rfl rfl fun _ => rfl
theorem Wire.backtrack (tag : Byte) (count : Half) : Wire.Statement (.backtrack tag count) :=
  statement_of_frame rfl rfl fun _ => rfl
theorem Wire.repair (tag : Byte) (heads : Half) : Wire.Statement (.repair tag heads) :=
  statement_of_frame rfl rfl fun _ => rfl
theorem Wire.repairAbandon (tag : Byte) : Wire.Statement (.repairAbandon tag) :=
  statement_of_frame rfl rfl fun _ => rfl
theorem Wire.frameOut (tag : Byte) (dx dy : Half) : Wire.Statement (.frameOut tag dx dy) :=
  statement_of_frame rfl rfl fun _ => rfl
theorem Wire.frameReturn (tag : Byte) : Wire.Statement (.frameReturn tag) :=
  statement_of_frame rfl rfl fun _ => rfl
theorem Wire.home (tag : Byte) (switches : Option (Bool × Bool)) : Wire.Statement (.home tag switches) :=
  statement_of_frame rfl rfl fun _ => rfl
theorem Wire.needleUp (tag : Byte) : Wire.Statement (.needleUp tag) :=
  statement_of_frame rfl rfl fun _ => rfl
theorem Wire.needleSelect (tag needle : Byte) : Wire.Statement (.needleSelect tag needle) :=
  statement_of_frame rfl rfl fun _ => rfl
theorem Wire.sensorTest (tag : Byte) (heads : Half) (tension : List (BitVec 10)) : Wire.Statement (.sensorTest tag heads tension) :=
  statement_of_frame rfl rfl fun _ => rfl
theorem Wire.channelTest (tag chan : Byte) (heads duration : Half) : Wire.Statement (.channelTest tag chan heads duration) :=
  statement_of_frame rfl rfl fun _ => rfl
theorem Wire.headModeEnable (tag head : Byte) : Wire.Statement (.headModeEnable tag head) :=
  statement_of_frame rfl rfl fun _ => rfl
theorem Wire.headModeDisable (tag head : Byte) : Wire.Statement (.headModeDisable tag head) :=
  statement_of_frame rfl rfl fun _ => rfl
theorem Wire.headModeIsolate (tag head : Byte) : Wire.Statement (.headModeIsolate tag head) :=
  statement_of_frame rfl rfl fun _ => rfl
theorem Wire.headModePolicyStop (tag head : Byte) : Wire.Statement (.headModePolicyStop tag head) :=
  statement_of_frame rfl rfl fun _ => rfl
theorem Wire.headModePolicyIsolate (tag head : Byte) : Wire.Statement (.headModePolicyIsolate tag head) :=
  statement_of_frame rfl rfl fun _ => rfl
theorem Wire.headClear (tag head : Byte) : Wire.Statement (.headClear tag head) :=
  statement_of_frame rfl rfl fun _ => rfl
theorem Wire.gapDrop (tag head : Byte) : Wire.Statement (.gapDrop tag head) :=
  statement_of_frame rfl rfl fun _ => rfl
theorem Wire.bobbinSet (tag head : Byte) (value : Word) : Wire.Statement (.bobbinSet tag head value) :=
  statement_of_frame rfl rfl fun _ => rfl
theorem Wire.noticeMask (tag : Byte) (mask : Word) : Wire.Statement (.noticeMask tag mask) :=
  statement_of_frame rfl rfl fun _ => rfl
theorem Wire.noticeTake (tag source : Byte) : Wire.Statement (.noticeTake tag source) :=
  statement_of_frame rfl rfl fun _ => rfl
theorem Wire.clear (tag : Byte) : Wire.Statement (.clear tag) :=
  statement_of_frame rfl rfl fun _ => rfl
theorem Wire.restart (tag : Byte) : Wire.Statement (.restart tag) :=
  statement_of_frame rfl rfl fun _ => rfl
theorem Wire.encoderCount (dir : Dir) (tension : List (BitVec 10)) (order : List Taker) : Wire.Statement (.encoderCount dir tension order) :=
  statement_of_event rfl
theorem Wire.encoderIndex (dir : Dir) (us : Word) (tension : List (BitVec 10)) (order : List Taker) : Wire.Statement (.encoderIndex dir us tension order) :=
  statement_of_event rfl
theorem Wire.stoppedDetection : Wire.Statement (.stoppedDetection) :=
  statement_of_event rfl
theorem Wire.stall : Wire.Statement (.stall) :=
  statement_of_event rfl
theorem Wire.driveLineChange (ready fault : Bool) : Wire.Statement (.driveLineChange ready fault) :=
  statement_of_event rfl
theorem Wire.estop (asserted : Bool) : Wire.Statement (.estop asserted) :=
  statement_of_event rfl
theorem Wire.moveComplete : Wire.Statement (.moveComplete) :=
  statement_of_event rfl
theorem Wire.chunkComplete (tension : List (BitVec 10)) : Wire.Statement (.chunkComplete tension) :=
  statement_of_event rfl
theorem Wire.homingStepComplete (xClosed yClosed : Bool) : Wire.Statement (.homingStepComplete xClosed yClosed) :=
  statement_of_event rfl
theorem Wire.dwellExpiry : Wire.Statement (.dwellExpiry) :=
  statement_of_event rfl
theorem Wire.automaticStart (tension : List (BitVec 10)) : Wire.Statement (.automaticStart tension) :=
  statement_of_event rfl
theorem Wire.colourDelayExpiry : Wire.Statement (.colourDelayExpiry) :=
  statement_of_event rfl
theorem Wire.channelTestExpiry : Wire.Statement (.channelTestExpiry) :=
  statement_of_event rfl
theorem Wire.needlePositionChange (value : BitVec 4) : Wire.Statement (.needlePositionChange value) :=
  statement_of_event rfl
theorem Wire.needleSettleExpiry : Wire.Statement (.needleSettleExpiry) :=
  statement_of_event rfl
theorem Wire.needleTimeoutExpiry : Wire.Statement (.needleTimeoutExpiry) :=
  statement_of_event rfl
theorem Wire.lostWatchExpiry : Wire.Statement (.lostWatchExpiry) :=
  statement_of_event rfl
theorem Wire.threadPulse (head : Head) : Wire.Statement (.threadPulse head) :=
  statement_of_event rfl
theorem Wire.sensorTestExpiry (tension : List (BitVec 10)) : Wire.Statement (.sensorTestExpiry tension) :=
  statement_of_event rfl
theorem Wire.byteReceived (b : Byte) (stopOk : Bool) : Wire.Statement (.byteReceived b stopOk) :=
  statement_of_event rfl
theorem Wire.stepEmitted (axis : Axis) : Wire.Statement (.stepEmitted axis) :=
  statement_of_event rfl

end Sys2Proof.Laws
end

