-- ==== Sys2Proof/Laws/Steps.lean ====
section
/-! SUPPORT. What the steps of a stepwise operation do, said once: the crossing of the store to a turn record or to a bound, the landing
check, and the end of repair. -/

namespace Sys2Proof.Machine

/-- Records without a turn among them are crossed to their end. -/
theorem upToTurn_without_turn : ∀ (l : List (Nat × Rec)), (∀ x ∈ l, x.2.move = none) → upToTurn l = (l, none)
  | [], _ => rfl
  | p :: l, h => by
    have h1 := h p (by simp)
    have h2 := upToTurn_without_turn l (fun x hx => h x (by simp [hx]))
    simp [upToTurn, h1, h2]

/-- The crossing ends at the first turn record. -/
theorem upToTurn_at_first_turn (p : Nat × Rec) (rest : List (Nat × Rec)) (hp : p.2.move.isSome = true) :
    ∀ (l : List (Nat × Rec)), (∀ x ∈ l, x.2.move = none) → upToTurn (l ++ p :: rest) = (l ++ [p], some p)
  | [], _ => by simp [upToTurn, hp]
  | q :: l, h => by
    have h1 := h q (by simp)
    have h2 := upToTurn_at_first_turn p rest hp l (fun x hx => h x (by simp [hx]))
    simp [upToTurn, h1, h2]

/-- An indexed record is a record of the list. -/
theorem record_of_mem_indexed : ∀ (k : Nat) (l : List Rec) (x : Nat × Rec), x ∈ indexed k l → x.2 ∈ l
  | _, [], x, h => by simp [indexed] at h
  | k, r :: l, x, h => by
    simp only [indexed, List.mem_cons] at h
    rcases h with rfl | h
    · simp
    · simp [record_of_mem_indexed _ l x h]

/-- The indices of a list go on through the one appended to it. -/
theorem indexed_append : ∀ (l : List Rec) (k : Nat) (m : List Rec), indexed k (l ++ m) = indexed k l ++ indexed (k + l.length) m
  | [], k, m => by simp [indexed]
  | r :: l, k, m => by simp [indexed, indexed_append l (k+1) m]; congr 1; omega

/-- The COLOUR records among indexed records are those of the list. -/
theorem colourCount_indexed : ∀ (k : Nat) (l : List Rec), colourCount (indexed k l) = (l.filter fun r => decide (r = .colour)).length
  | _, [] => rfl
  | k, r :: l => by
    have := colourCount_indexed (k+1) l
    unfold colourCount at *
    simp only [indexed, List.filter_cons]
    split <;> simp_all

/-- The COLOUR records of two lists together. -/
theorem colourCount_append (a b : List (Nat × Rec)) : colourCount (a ++ b) = colourCount a + colourCount b := by simp [colourCount]
/-- The order of the records has no part in how many are COLOUR records. -/
theorem colourCount_reverse (a : List (Nat × Rec)) : colourCount a.reverse = colourCount a := by
  simp [colourCount, List.filter_reverse]

/-- A span of records is parted at one of them. -/
theorem take_drop_split {records : List Rec} {a b i : Nat} {r : Rec} (hi : a ≤ i) (hb : i < b) (hr : records[i]? = some r) :
    (records.take b).drop a = ((records.take i).drop a) ++ r :: (records.take b).drop (i+1) := by
  have hlen : i < records.length := by
    by_contra h; simp at h; simp [h] at hr
  have e1 : records.take b = records.take i ++ r :: (records.take b).drop (i+1) := by
    have hgi : (records.take b)[i]? = some r := by rw [List.getElem?_take]; simp [hb, hr]
    have hl : i < (records.take b).length := by simp; omega
    have hg : (records.take b)[i] = r := by
      have := List.getElem?_eq_getElem hl; rw [hgi] at this; exact (Option.some.inj this).symm
    have h3 := List.take_append_drop i (records.take b)
    rw [List.drop_eq_getElem_cons hl, hg, List.take_take] at h3
    rw [Nat.min_eq_left (by omega)] at h3
    exact h3.symm
  conv_lhs => rw [e1]
  rw [List.drop_append_of_le_length (by simp; omega)]

/-- A record with a move is no COLOUR record. -/
theorem colour_has_no_move {r : Rec} {d : Pt} (h : r.move = some d) : (r = .colour) = False := by
  cases r <;> simp_all [Rec.move]

/-- A step back goes to the nearest turn record below the cursor that is not below the bound (R15). -/
theorem Store.stepBack_to_turn (st : Store) (b i : Nat) (r : Rec) (d : Pt) (hb : st.retire ≤ b) (hi : b ≤ i) (hk : i < st.cursor)
    (hr : st.records[i - st.retire]? = some r) (hd : r.move = some d)
    (hz : ∀ x ∈ (st.records.take (st.cursor - st.retire)).drop (i + 1 - st.retire), x.move = none) :
    st.stepBack b = ⟨{ st with
      cursor := i, cursorPos := st.cursorPos.sub d
      cursorColour := st.cursorColour -
        (((st.records.take (st.cursor - st.retire)).drop (i + 1 - st.retire)).filter fun r => decide (r = .colour)).length }, some i⟩ := by
  have e := take_drop_split (records := st.records) (a := b - st.retire) (b := st.cursor - st.retire) (by omega) (by omega) hr
  have hlen : i - st.retire < st.records.length := by
    by_contra h; simp at h; simp [h] at hr
  have e2 : i - st.retire + 1 = i + 1 - st.retire := by omega
  rw [e2] at e
  unfold Store.stepBack
  simp only [e, indexed_append]
  simp only [indexed, List.reverse_append, List.reverse_cons, List.append_assoc, List.singleton_append]
  have hlen2 : b + ((st.records.take (i - st.retire)).drop (b - st.retire)).length = i := by
    simp; omega
  rw [upToTurn_at_first_turn _ _ (by simp [hd])]
  · simp only [hlen2, colourCount_append, colourCount_reverse, colourCount_indexed]
    have : colourCount [(i, r)] = 0 := by simp [colourCount, colour_has_no_move hd]
    simp [this, hd]
  · intro x hx
    simp only [List.mem_reverse] at hx
    exact hz _ (record_of_mem_indexed _ _ _ hx)

/-- A step back over zero-turn records alone goes to the bound (R15). -/
theorem Store.stepBack_to_bound (st : Store) (b : Nat)
    (hz : ∀ x ∈ (st.records.take (st.cursor - st.retire)).drop (b - st.retire), x.move = none) :
    st.stepBack b = ⟨{ st with
      cursor := b
      cursorColour := st.cursorColour -
        (((st.records.take (st.cursor - st.retire)).drop (b - st.retire)).filter fun r => decide (r = .colour)).length }, none⟩ := by
  unfold Store.stepBack
  dsimp only
  rw [upToTurn_without_turn _ (by intro x hx; simp only [List.mem_reverse] at hx; exact hz _ (record_of_mem_indexed _ _ _ hx))]
  simp [colourCount_reverse, colourCount_indexed]

/-- Zero-turn records add no displacement. -/
theorem moves_of_zero_turns : ∀ (l : List (Nat × Rec)) (p : Pt), (∀ x ∈ l, x.2.move = none) →
    l.foldl (fun p r => p.add (r.2.move.getD .zero)) p = p
  | [], _, _ => rfl
  | x :: l, p, h => by
    have h1 := h x (by simp)
    simp only [List.foldl_cons, h1, Option.getD_none]
    rw [moves_of_zero_turns l _ (fun y hy => h y (by simp [hy]))]
    cases p; simp [Pt.add, Pt.zero]

/-- The records from the cursor to an end, with their indices. -/
theorem take_indexed_drop {records : List Rec} {ret k e : Nat} (hk : ret ≤ k) (he : k ≤ e) :
    (indexed k (records.drop (k - ret))).take (e - k) = indexed k ((records.take (e - ret)).drop (k - ret)) := by
  have h : ∀ (l : List Rec) (k n : Nat), (indexed k l).take n = indexed k (l.take n) := by
    intro l
    induction l with
    | nil => intro k n; simp [indexed]
    | cons a l ih => intro k n; cases n with
      | zero => simp [indexed]
      | succ n => simp [indexed, ih]
  rw [h]
  congr 1
  rw [List.drop_take]
  congr 1
  omega

/-- A step forward goes past the nearest turn record at or above the cursor and below the end (R16). -/
theorem Store.stepForward_over_turn (st : Store) (e i : Nat) (r : Rec) (d : Pt) (hb : st.retire ≤ st.cursor) (hi : st.cursor ≤ i)
    (hk : i < e)
    (hr : st.records[i - st.retire]? = some r) (hd : r.move = some d)
    (hz : ∀ x ∈ (st.records.take (i - st.retire)).drop (st.cursor - st.retire), x.move = none) :
    st.stepForward e = ⟨{ st with
      cursor := i + 1, cursorPos := st.cursorPos.add d
      cursorColour := st.cursorColour +
        (((st.records.take (i - st.retire)).drop (st.cursor - st.retire)).filter fun r => decide (r = .colour)).length }, some i⟩ := by
  have es := take_drop_split (records := st.records) (a := st.cursor - st.retire) (b := e - st.retire) (by omega) (by omega) hr
  have hlen : i - st.retire < st.records.length := by
    by_contra h; simp at h; simp [h] at hr
  unfold Store.stepForward Store.pendingRecords
  rw [take_indexed_drop hb (by omega), es, indexed_append]
  simp only [indexed]
  have hlen2 : st.cursor + ((st.records.take (i - st.retire)).drop (st.cursor - st.retire)).length = i := by
    simp; omega
  rw [upToTurn_at_first_turn _ _ (by simp [hd])]
  · simp only [hlen2, Store.advance, colourCount_append, colourCount_indexed, List.foldl_append]
    rw [moves_of_zero_turns _ _ (fun x hx => hz _ (record_of_mem_indexed _ _ _ hx))]
    have : colourCount [(i, r)] = 0 := by simp [colourCount, colour_has_no_move hd]
    simp [this, hd]
  · intro x hx
    exact hz _ (record_of_mem_indexed _ _ _ hx)

/-- A step forward over zero-turn records alone goes to the end (R16). -/
theorem Store.stepForward_to_bound (st : Store) (e : Nat) (hb : st.retire ≤ st.cursor) (he : st.cursor ≤ e)
    (hz : ∀ x ∈ (st.records.take (e - st.retire)).drop (st.cursor - st.retire), x.move = none) :
    st.stepForward e = ⟨{ st with
      cursor := e
      cursorColour := st.cursorColour +
        (((st.records.take (e - st.retire)).drop (st.cursor - st.retire)).filter fun r => decide (r = .colour)).length }, none⟩ := by
  unfold Store.stepForward Store.pendingRecords
  rw [take_indexed_drop hb he]
  rw [upToTurn_without_turn _ fun x hx => hz _ (record_of_mem_indexed _ _ _ hx)]
  simp only [Store.advance, colourCount_indexed]
  rw [moves_of_zero_turns _ _ (fun x hx => hz _ (record_of_mem_indexed _ _ _ hx))]

/-- The end of a stepwise operation with no dwell running empties the slot, and OP_DONE says how (R80, R137). -/
theorem endStepwise_of_slot {v : State} {op : Op} (hs : v.run.slot = some op) (hd : v.frame.dwell = none) (r : OpResult)
    (w : Option DetailWord) :
    endStepwise r w v = raiseNotice srcOpDone v.store.cursor
      (u8 op.kind.value ++ u8 op.starter.value ++ (u8 r.value ++ landingDetail v none w))
      { v with run := { v.run with slot := none } } := by
  have : v.modFrame (fun f => { f with dwell := none }) = v := by
    obtain ⟨_,_,_,_,_,f,_,_,_,_,_,_,_,_,_⟩ := v
    obtain ⟨_,_,_,_,_,_,_,_,_,d,_⟩ := f
    simp only at hd; subst hd; rfl
  simp [endStepwise, this, endOperation, hs, State.modRun]

/-- The landing check: an empty plan entry, the planned needle in place, and a LANDING change (R137). -/
theorem landingCheck_of_slot {v : State} {op : Op} (hs : v.run.slot = some op) (hd : v.frame.dwell = none) :
    (v.planNeedle = none → landingCheck v = raiseNotice srcOpDone v.store.cursor
      (u8 op.kind.value ++ u8 op.starter.value ++ [0, 0, 0, 0, 0, 0, 0, 0, 1, 4]) { v with run := { v.run with slot := none } }) ∧
    (∀ n, v.planNeedle = some n → v.needle.settled = some n → landingCheck v = raiseNotice srcOpDone v.store.cursor
      (u8 op.kind.value ++ u8 op.starter.value ++ [0, 0, 0, 0, 0, 0, 0, 0, 0, 0]) { v with run := { v.run with slot := none } }) ∧
    (∀ n, v.planNeedle = some n → v.needle.settled ≠ some n → landingCheck v = { v with needle := { v.needle with
      target := n, request := true, watch := none
      change := some ⟨.landing, n, op.starter, v.nat .needleTimeout, v.nat .needleTimeout, v.clock⟩ } }) := by
  refine ⟨fun h => ?_, fun n h h2 => ?_, fun n h h2 => ?_⟩
  · simp only [landingCheck, h]; rw [endStepwise_of_slot hs hd]; rfl
  · simp only [landingCheck, h, h2, if_true]; rw [endStepwise_of_slot hs hd]; rfl
  · simp [landingCheck, h, beginChange, h2, State.slotStarter, hs, State.modNeedle]

/-- The heads at the end of repair: each that wants a gap has one opened at the resume index, and is FAULTED where its list is full,
and those are listed (R176). -/
theorem openAtRepairEnd_eq (s0 : State) (resume : Nat) : ∀ (l : List Head), l.Nodup → ∀ v : State,
    (∀ h ∈ l, v.head h = s0.head h) → v.params = s0.params → v.store.retire = s0.store.retire →
    let wants := fun h : Head => s0.fitted h && decide ((s0.head h).state = .isolated) && !hasOpenGap (s0.head h).gaps
    let opened := fun h : Head => openGapAt (max resume s0.store.retire) (s0.head h).gaps
    (openAtRepairEnd resume l v).2 = l.filter (fun h => wants h && (opened h).isNone) ∧
    ∃ hd, (openAtRepairEnd resume l v).1 = { v with table := { v.table with heads := hd } } ∧
      ∀ h : Head, hd[h] = if h ∈ l ∧ wants h = true then (match opened h with
              | some gaps => { s0.head h with gaps := gaps }
              | none => { s0.head h with state := .faulted, kept := some resume }) else v.head h := by
  intro l
  induction l with
  | nil => intro _ v _ _ _; refine ⟨rfl, v.table.heads, rfl, ?_⟩; intro h; simp [State.head]
  | cons h l ih =>
    intro hn v hv hp hr wants opened
    have hnl : h ∉ l := (List.nodup_cons.1 hn).1
    have hw : v.wantsGap h = wants h := by
      simp [State.wantsGap, wants, hv h (by simp), State.fitted, State.nat, State.par, hp]
    have ho : openHeadGap h resume v = (opened h).map fun gaps => v.modHead h fun e => { e with gaps := gaps } := by
      simp [openHeadGap, opened, hv h (by simp), hr]
    have key : ∀ (f : HeadEntry → HeadEntry), ∀ k : Head, (v.modHead h f).head k = if k = h then f (v.head h) else v.head k := by
      intro f k
      by_cases e : k = h
      · subst e; simp [State.modHead, State.head, State.modTable]
      · have : (h : Nat) ≠ k := fun e2 => e (Fin.ext e2.symm)
        simp [State.modHead, State.head, State.modTable, e, this]
    unfold openAtRepairEnd
    rw [hw]
    by_cases w : wants h = true
    · rw [if_pos w, ho]
      cases hoh : opened h with
      | some gaps =>
        simp only [Option.map_some]
        have := ih (List.nodup_cons.1 hn).2 (v.modHead h fun e => { e with gaps := gaps })
          (by intro k hk; rw [key]; have : k ≠ h := fun e => hnl (e ▸ hk); simp [this, hv k (by simp [hk])])
          (by simpa [State.modHead, State.modTable] using hp)
          (by simpa [State.modHead, State.modTable] using hr)
        obtain ⟨e1, hd, e2, e3⟩ := this
        refine ⟨?_, hd, ?_, ?_⟩
        · rw [e1]; simp [hoh, opened, wants]
        · rw [e2]; rfl
        · intro k
          rw [e3 k]
          by_cases e : k = h
          · subst e
            simp [hnl, w, key, hoh, hv k (by simp)]
          · simp [e, key, wants, opened]
      | none =>
        simp only [Option.map_none]
        have := ih (List.nodup_cons.1 hn).2 (v.modHead h fun e => { e with state := .faulted, kept := some resume })
          (by intro k hk; rw [key]; have : k ≠ h := fun e => hnl (e ▸ hk); simp [this, hv k (by simp [hk])])
          (by simpa [State.modHead, State.modTable] using hp)
          (by simpa [State.modHead, State.modTable] using hr)
        obtain ⟨e1, hd, e2, e3⟩ := this
        refine ⟨?_, hd, ?_, ?_⟩
        · rw [e1, List.filter_cons]; simp [hoh, w]; rfl
        · rw [e2]; rfl
        · intro k
          rw [e3 k]
          by_cases e : k = h
          · subst e
            simp [hnl, w, key, hoh, hv k (by simp)]
          · simp [e, key, wants, opened]
    · rw [if_neg w]
      have := ih (List.nodup_cons.1 hn).2 v (by intro k hk; exact hv k (by simp [hk])) hp hr
      obtain ⟨e1, hd, e2, e3⟩ := this
      refine ⟨?_, hd, e2, ?_⟩
      · rw [e1, List.filter_cons]; simp [w]; rfl
      · intro k
        rw [e3 k]
        by_cases e : k = h
        · subst e; simp [hnl, w]
        · simp [e, wants, opened]

/-- The causes HEAD_FAULT(h) of a list of heads in HALTED: secondary causes while the report has room, with the wait ended (R92, R94). -/
theorem causesOf_halted (i : Nat) : ∀ (l : List Head) (v : State), v.run.state = .halted →
    causesOf i l v = { v with run := { v.run with
      resume := if l = [] then v.run.resume else none
      colourTimer := if l = [] then v.run.colourTimer else .stopped
      report := { v.run.report with secondary := v.run.report.secondary ++
        ((l.take (8 - v.run.report.secondary.length)).map fun h => (⟨.headFault h, i, v.clock⟩ : Recorded)) } } } := by
  intro l
  induction l with
  | nil => intro v _; simp [causesOf]
  | cons h l ih =>
    intro v hv
    have h1 : takeCause (.headFault h) i v = { v with run := { v.run with
      resume := none, colourTimer := .stopped
      report := { v.run.report with secondary := v.run.report.secondary ++
        (if v.run.report.secondary.length < 8 then [(⟨.headFault h, i, v.clock⟩ : Recorded)] else []) } } } := by
      have hE : (Cause.headFault h).isEmergency = false := by simp [Cause.isEmergency, Cause.kind]
      by_cases hl : v.run.report.secondary.length < 8 <;>
        simp [takeCause, hv, hE, causeInHalted, appendCause, clearResume, State.modRun, Config.secondaryLimit, hl]
    rw [causesOf, ih (takeCause (.headFault h) i v) (by rw [h1]; exact hv), h1]
    by_cases hl : v.run.report.secondary.length < 8
    · obtain ⟨m, hm⟩ : ∃ m, 8 - v.run.report.secondary.length = m + 1 := ⟨7 - v.run.report.secondary.length, by omega⟩
      simp [hl, hm, Nat.sub_add_eq]
    · have : 8 - v.run.report.secondary.length = 0 := by omega
      simp [hl, this]

end Sys2Proof.Machine
end

