-- ==== Sys2Proof/Tests/Slice0.lean ====
section
/-! SUPPORT. Tests: the operands that `wellFormed` refuses, figures of the handbook's worked cases, single steps whose outcome a rule
gives, and, for every statement with hypotheses, states and operands that meet them. Every expected value is the handbook's or is
worked out by hand from it. -/

set_option maxRecDepth 20000
set_option synthInstance.maxSize 1000

namespace Sys2Proof.Tests

open Sys2Proof.Machine

/-! ### Well-formed commands -/

theorem test_wellformed_refuses_a_long_body : (Instr.frameComplete 1 2 (List.replicate 251 0) 0).wellFormed = false := by decide
theorem test_wellformed_refuses_a_request_kind : (Instr.unknownKindFrame 36 2 [] 0).wellFormed = false := by decide
theorem test_wellformed_refuses_a_long_unknown : (Instr.unknownKindFrame 37 2 (List.replicate 251 0) 0).wellFormed = false := by
  decide
theorem test_wellformed_refuses_fifteen_points : (Instr.loadTable 0 0 (List.replicate 15 ⟨0, 0⟩)).wellFormed = false := by decide
theorem test_wellformed_refuses_a_long_plan : (Instr.loadNeedlePlan 0 0 (List.replicate 249 1)).wellFormed = false := by decide
theorem test_wellformed_refuses_a_long_entry :
    (Instr.loadMapEntry 0 ⟨1, 0, 0, 0, 0, 0, List.replicate 31 ⟨0, 1, 0, 0, 0, 0⟩⟩).wellFormed = false := by decide
theorem test_wellformed_refuses_a_long_load : (Instr.load 0 0 82 (List.replicate 247 0)).wellFormed = false := by decide
theorem test_wellformed_refuses_thirteen_levels : (Instr.start 0 (List.replicate 13 0)).wellFormed = false := by decide
theorem test_wellformed_refuses_thirteen_tested : (Instr.sensorTest 0 1 (List.replicate 13 0)).wellFormed = false := by decide
theorem test_wellformed_refuses_thirteen_at_start : (Instr.automaticStart (List.replicate 13 0)).wellFormed = false := by decide
theorem test_wellformed_refuses_thirteen_at_chunk : (Instr.chunkComplete (List.replicate 13 0)).wellFormed = false := by decide
theorem test_wellformed_refuses_thirteen_at_expiry : (Instr.sensorTestExpiry (List.replicate 13 0)).wellFormed = false := by decide
theorem test_wellformed_refuses_a_taker_twice : (Instr.encoderCount .forward [] [.call, .rest, .call]).wellFormed = false := by
  decide
theorem test_wellformed_refuses_a_channel_twice :
    (Instr.encoderIndex .forward 1 [] [.channel 3, .channel 3]).wellFormed = false := by decide
theorem test_wellformed_takes_the_longest :
    (Instr.frameComplete 1 2 (List.replicate 250 0) 0).wellFormed = true ∧
    (Instr.loadNeedlePlan 0 0 (List.replicate 248 1)).wellFormed = true ∧
    (Instr.load 0 0 82 (List.replicate 246 0)).wellFormed = true := by decide

/-! ### States for the tests -/

/-- The state a command leaves. -/
def left (r : Result) : State :=
  match r with
  | .next t => t
  | _ => State.reset

/-- The status of the reply that is being sent (R203). -/
def sent (r : Result) : Option Byte := ((left r).link.sending.map fun x => x.bytes[4]?).join

/-- IDLE with no design, the store check passed and nothing waiting. -/
def calm : State := { State.reset with store := .empty .passed }

/-- `calm` in a run state. -/
def calmIn (r : RunState) : State := { calm with run := { calm.run with state := r } }

/-- The transmitter of a state is sending. -/
def busyLine (s : State) : State := { s with link := { s.link with sending := some ⟨[0], false⟩ } }

/-- Table X of the worked move ceilings (section 3.2). -/
def tableX : List TablePoint :=
  [⟨0, 0⟩, ⟨5, 3400⟩, ⟨10, 4900⟩, ⟨20, 6800⟩, ⟨40, 9000⟩, ⟨60, 10600⟩, ⟨100, 13200⟩, ⟨150, 16000⟩] ++
  [⟨200, 18500⟩, ⟨300, 23000⟩, ⟨400, 27000⟩, ⟨800, 41000⟩, ⟨1200, 54000⟩, ⟨1600, 67000⟩, ⟨2000, 80000⟩, ⟨2400, 93000⟩]

/-- Table Y of the worked move ceilings (section 3.2). -/
def tableY : List TablePoint :=
  [⟨0, 0⟩, ⟨5, 3000⟩, ⟨10, 4300⟩, ⟨20, 6100⟩, ⟨35, 8000⟩, ⟨50, 9500⟩, ⟨100, 14000⟩, ⟨150, 17800⟩] ++
  [⟨200, 21200⟩, ⟨300, 26500⟩, ⟨400, 31000⟩, ⟨700, 42000⟩, ⟨1000, 52000⟩, ⟨1400, 65000⟩, ⟨1800, 78000⟩, ⟨2200, 91000⟩]

/-- At rest at 350 degrees with needle-up, the drive ready, the reference applied, the tables loaded and a design of two stitches
each side of the cursor, origin (1000, 800), armed. -/
def armed (r : RunState) : State :=
  { calm with
    pins := { Pins.quiet with driveReady := true }
    shaft := { Shaft.reset with count := 1400, synced := true, needleUp := true }
    planner := { Planner.reset with tableX := some tableX, tableY := some tableY }
    frame := { Frame.reset with ref := .referenced, coord := ⟨1007, 800⟩ }
    store := { Store.empty .passed with
      isOpen := true, origin := ⟨1000, 800⟩, endLoaded := true
      records := [.stitch 3 4, .stitch 4 (-4), .stitch 5 6, .jump 1 1], cursor := 2, fill := 4
      cursorPos := ⟨7, 0⟩, fillPos := ⟨13, 7⟩ }
    run := { Run.reset with state := r, armed := true } }

/-- A run in SEWING with the shaft turning under a demand. -/
def sewing : State :=
  let s := armed .running
  { s with
    run := { s.run with phase := some .sewing }
    shaft := { s.shaft with count := 800, motion := .turning, needleUp := false, line := 300, brake := false, stall := some 4 }
    planner := { s.planner with demand := 300, prev := some 300 } }

/-- `sewing` on its way to a stop: STOPPING and BRAKING, the demand on the line 0. -/
def stopping : State :=
  { sewing with
    run := { sewing.run with
      state := .stopping, phase := some .braking, kind := some .controlled, outstanding := some ⟨1, false, 1⟩
      report := { StopReport.empty with primary := some ⟨.operator, 2, 0⟩ } }
    shaft := { sewing.shaft with line := 0, stall := none, waiting := some .atBrakeMark }
    planner := { sewing.planner with demand := 0 } }

/-- `armed` in a run state with the needles down. -/
def down (r : RunState) : State := { armed r with shaft := { (armed r).shaft with needleUp := false, count := 600 } }

/-- A state with its operation slot filled. -/
def withOp (k : OpKind) (g : Option Goal) (s : State) : State :=
  { s with run := { s.run with slot := some ⟨k, .host, 0, g, false⟩ } }

/-- A state with a move being made. -/
def withMove (p : Purpose) (target chunk : Pt) (x y : Int) (s : State) : State :=
  { s with frame := { s.frame with move := some ⟨p, target, chunk, x, y, none, false, none⟩ } }

/-- A state with a late turn move still in progress. -/
def late (s : State) : State := withMove .turnMove ⟨1012, 806⟩ ⟨1012, 806⟩ 3 5 s

/-- `armed` HALTED with an operation in the slot and a needle change of this purpose. -/
def changing (k : OpKind) (p : ChangePurpose) : State :=
  let s := withOp k none (armed .halted)
  { s with needle := { s.needle with change := some ⟨p, 2, .host, 9, 9, 0⟩, request := true } }

/-- A state with head 1 in a state of its own. -/
def withHead (e : HeadEntry) (s : State) : State := { s with table := { s.table with heads := s.table.heads.set 0 e } }

/-- A state with its needle-plan entry 0 and the settled needle at needle 2. -/
def onNeedleTwo (s : State) : State :=
  { s with needle := { s.needle with plan := s.needle.plan.set 0 (some 2), settled := some 2 } }

/-- `calm` with a parameter as given. -/
def withPar (p : Param) (v : Int) (s : State) : State := { s with params := s.params.set p.place v }

/-- What holds of every taker of the usual order holds of every taker. -/
theorem every_taker {P : Taker → Prop} (h : ∀ t ∈ Taker.usual, P t) : ∀ t, P t := by
  intro t
  refine h t ?_
  cases t
  case channel c => revert c; decide
  all_goals decide

/-! ### Figures of the handbook -/

-- section 10.2 (R181)
theorem test_check_of_the_text : crcOf [49, 50, 51, 52, 53, 54, 55, 56, 57] = 10673#16 := by decide
-- section 3.2, worked move ceilings
theorem test_step_targets :
    stepTarget 40 120 = 480 ∧ stepTarget 40 240 = 960 ∧ stepTarget 40 (-40) = -160 ∧ stepTarget 40 (-60) = -240 := by decide
-- section 3.7, worked arm check: items 3, 4, 8, 9
theorem test_arm_figures :
    longestMove 40 = 509 ∧ moveTime tableX 509 = some 30815 ∧ moveTime tableY 509 = some 34997 ∧
    unclampedCeiling 200 34997 = 952 ∧ unclampedCeiling 300 34997 = 1428 := by decide
-- section 3.4, worked lookahead: a_0 is 320
theorem test_allowed_speed :
    allowedSpeed 40 ([1200, 1200, 1118, 950, 1200, 120].map fun c => ⟨0, false, 0, 0, none, 0, c⟩) = some 320 := by decide
-- section 4.6, worked homing: the search budgets and the search move
theorem test_homing_budgets : calm.searchBudget .y = 17600 ∧ calm.searchBudget .x = 26400 ∧ calm.searchSteps .y = 4 := by decide
-- section 4.7, worked frame out: a full chunk on each axis from (1250, 680)
theorem test_full_chunks : chunkEnd 40 1250 4000 2400 = 1850 ∧ chunkEnd 40 680 4000 2200 = 1230 := by decide
-- section 6.6, worked channel timing: the dues of the issue at 220
theorem test_pulse_dues :
    (Channel.reset.takePulse ⟨220, false⟩ 0 300 1 100 11 false).pulse =
      some ⟨false, 11, false, some ⟨300, 1⟩, some ⟨100, 2⟩⟩ := by decide
-- section 8.5, worked tension window: the verdicts of its readings
theorem test_tension_verdicts :
    [400, 150, 900, 180, 820].map (fun r => tensionVerdict 180 820 (BitVec.ofNat 10 r)) =
      [.inside, .low, .high, .inside, .inside] := by decide
-- section 2.6: the part reads 350 degrees at count 1,400 of 1,440
theorem test_angle : (armed .ready).angle = some 350 ∧ (armed .ready).flagNow = true := by decide

/-! ### Single steps -/

theorem test_reset_ends_with_the_check : (left (step { State.reset with pending := [.storeCheckDone none] })).store.check = .passed := by
  decide
theorem test_requests_are_lost_before_it : (left (exec (.arm 1) State.reset)).link = State.reset.link := by decide
theorem test_arm_refused_without_a_design : sent (exec (.arm 1) calm) = some 4 := by decide
theorem test_arm_refused_without_tables :
    sent (exec (.arm 1) { calm with store := (armed .idle).store }) = some 9 := by decide
theorem test_arm_makes_ready : (left (exec (.arm 1) (armed .idle))).run.state = .ready := by decide
theorem test_table_of_no_points_in_a_run : sent (exec (.loadTable 1 0 []) sewing) = some 3 := by decide
theorem test_start_refused_in_idle : sent (exec (.start 1 []) calm) = some 4 := by decide
theorem test_start_begins_with_the_needle :
    let s := { armed .ready with needle := { (armed .ready).needle with plan := (armed .ready).needle.plan.set 0 (some 2) } }
    (left (exec (.start 1 []) s)).run.work = some .needle := by decide
theorem test_stop_in_sewing : (left (exec (.stop 1) sewing)).run.state = .stopping := by decide
theorem test_estop_idles_the_line :
    (left (exec (.estop true) sewing)).shaft.line = 0 ∧ (left (exec (.estop true) sewing)).shaft.brake = true := by decide
theorem test_rest_ends_the_stop : (left (exec .stoppedDetection stopping)).run.state = .halted := by decide
theorem test_speed_is_clamped : (left (exec (.speed 1 0) calm)).par .speedSet = 200 := by decide
theorem test_param_needs_idle : sent (exec (.setParam 1 1 3) (calmIn .ready)) = some 4 := by decide
theorem test_param_out_of_range : sent (exec (.setParam 1 1 13) calm) = some 3 := by decide
theorem test_bobbin_is_written : ((left (exec (.bobbinSet 1 1 1000000) calm)).monitor 0).bobbin = some 1000000 := by decide
theorem test_bobbin_too_high : sent (exec (.bobbinSet 1 1 1000001) calm) = some 3 := by decide
theorem test_head_enabled : ((left (exec (.headModeEnable 1 1) calm)).head 0).state = .active := by decide
theorem test_head_two_not_fitted : sent (exec (.headModeEnable 1 2) calm) = some 3 := by decide
theorem test_unknown_kind : sent (exec (.unknownKindFrame 37 1 [] (crcOf (covered 37 1 []))) calm) = some 3 := by decide
theorem test_bad_check : sent (exec (.frameComplete 16 1 [] (crcOf (covered 16 1 []) + 1)) calm) = some 2 := by decide
theorem test_count_moves_the_counter : (left (exec (.encoderCount .reverse [] []) calm)).shaft.count = -1 := by decide
theorem test_index_synchronises : (left (exec (.encoderIndex .forward 60000 [] []) calm)).shaft.synced = true := by decide
theorem test_backtrack_crosses_a_turn : (left (exec (.backtrack 1 1) (armed .halted))).store.cursor = 1 := by decide
theorem test_load_stops_at_the_limit :
    let s := { calm with store := { Store.empty .passed with isOpen := true, origin := ⟨5900, 2000⟩ } }
    let t := left (exec (.load 1 0 5 [1, 50, 0, 1, 50, 0, 3, 7, 0, 1, 10, 0, 4, 0, 0]) s)
    t.store.fill = 3 ∧ t.store.fillPos = ⟨100, 0⟩ ∧ t.store.fillColour = 0 := by decide

/-! ### States and operands that meet the hypotheses of the statements

Each theorem is named after its statement and lists, clause by clause, a state and operands that meet the clause's hypotheses, at the
ends of the ranges that the clause names. -/

/-- `sewing` with a request waiting. -/
def sewingStop : State := { sewing with pending := [.stop 1] }

theorem test_meets_StepTakesTheFront : ({ calm with pending := [.arm 1, .stop 2] } : State).pending = .arm 1 :: [.stop 2] := rfl
theorem test_meets_AnIdleStepIsAMillisecond : calm.pending = [] := rfl
theorem test_meets_StepKeepsTheStoreLaw : sewingStop.store.Law ∧ step sewingStop = .next (left (step sewingStop)) :=
  ⟨by decide, rfl⟩
theorem test_meets_StepKeepsTheLimitLaw : sewingStop.LimitLaw ∧ step sewingStop = .next (left (step sewingStop)) :=
  ⟨by decide, rfl⟩
theorem test_meets_StepKeepsTheGapLaw : sewingStop.GapLaw ∧ step sewingStop = .next (left (step sewingStop)) := ⟨by decide, rfl⟩
theorem test_meets_StepKeepsTheRunLaw :
    sewingStop.RunLaw ∧ sewingStop.ParamLaw ∧ step sewingStop = .next (left (step sewingStop)) := ⟨by decide, by decide, rfl⟩
theorem test_meets_StepKeepsTheParamLaw : sewingStop.ParamLaw ∧ step sewingStop = .next (left (step sewingStop)) :=
  ⟨by decide, rfl⟩
theorem test_meets_StepKeepsTheNullEntry : sewingStop.func.Law ∧ step sewingStop = .next (left (step sewingStop)) :=
  ⟨by decide, rfl⟩
theorem test_meets_StepKeepsTheNoticeLaw : sewingStop.notices.Law ∧ step sewingStop = .next (left (step sewingStop)) :=
  ⟨by decide, rfl⟩
theorem test_meets_StepKeepsTheLinkLaw : sewingStop.LinkLaw ∧ step sewingStop = .next (left (step sewingStop)) :=
  ⟨by decide, rfl⟩
theorem test_meets_TheActiveBankChangesOnlyAtRest :
    exec (.swapMap 1) calm = .next (left (exec (.swapMap 1) calm)) ∧ (left (exec (.swapMap 1) calm)).func.active ≠ calm.func.active :=
  ⟨rfl, by decide⟩

/-! #### Resets -/

theorem test_meets_APassedStoreCheckEndsTheReset :
    State.reset.store.check = .running ∧ State.reset.pins.estop = false ∧ State.reset.pins.driveFault = false := by decide
theorem test_meets_AFailedStoreCheckLocks : State.reset.store.check = .running ∧ State.reset.run.state = .idle ∧
    State.reset.pins.estop = false ∧ State.reset.pins.driveFault = false := by decide

/-- A RESTART has been taken and its reply sent. -/
def restarting : State := { sewing with link := { calm.link with restart := .due } }

theorem test_meets_RestartLeavesTheRestartValues : restarting.restartDue = true ∧ restarting.store.check = .passed ∧
    restarting.pins.estop = false ∧ restarting.pins.driveFault = false := by decide
theorem test_meets_RestartIsTaken :
    (sewing.ready ∧ sewing.shaft.motion = .turning) ∧ (calm.ready ∧ calm.shaft.motion = .stopped) ∧
    (let s := { calm with link := { calm.link with sending := some ⟨[1], true⟩ } }
     s.awake ∧ s.link.sending = some ⟨[1], true⟩ ∧ (⟨[1], true⟩ : Sending).restart = true) := by decide

/-! #### The link -/

theorem test_meets_RequestsAreReadBack :
    (Instr.setParam 1 2 3).wellFormed = true ∧ encodeRequest (.setParam 1 2 3) = some (4, 1, [2, 0, 0, 0, 3]) := by decide
theorem test_meets_AReadFrameIsItsRequest : decodeRequest 4 1 [2, 0, 0, 0, 3] = some (.setParam 1 2 3) := by decide
theorem test_meets_AFrameIsReceivedByteByByte :
    (List.replicate 250 (0 : Byte)).length ≤ 250 ∧ calm.link.receiver = .hunting := by decide

/-- `calm` with its receiver in a state. -/
def hearing (r : Receiver) : State := { calm with link := { calm.link with receiver := r } }

theorem test_meets_EachByteMovesTheReceiver :
    (calm.awake ∧ calm.link.receiver = .hunting) ∧
    ((hearing .length).awake ∧ (hearing .length).link.receiver = .length ∧
      (1 : Byte).toNat < 2 ∧ 252 < (253 : Byte).toNat ∧ 2 ≤ (2 : Byte).toNat ∧ (252 : Byte).toNat ≤ 252) ∧
    ((hearing (.collecting 2 [1, 2])).link.receiver = .collecting 2 [1, 2] ∧ [1, 2].length + 1 < 2 + 2) ∧
    ((hearing (.collecting 2 [1, 2, 3])).link.receiver = .collecting 2 [1, 2, 3] ∧ [1, 2, 3].length + 1 = 2 + 2) ∧
    (hearing .length).link.receiver ≠ .hunting := by decide
theorem test_meets_AFrameIsCheckedAsItIsTaken :
    ((busyLine calm).ready ∧ (busyLine calm).link.sending ≠ none) ∧
    (crcOf (covered 0x23 1 []) + 1 ≠ crcOf (covered 0x23 1 [])) ∧
    ((0 : Byte).toNat < 1 ∧ 36 < (37 : Byte).toNat) ∧
    decodeRequest 0x23 1 [0] = none ∧ decodeRequest 0x23 1 [] = some (.clear 1) := by decide

/-- `calm` with the transmitter sending, eight replies waiting and these frames in the receive buffer. -/
def crowded (buffer : List RxFrame) : State :=
  { busyLine calm with link := { (busyLine calm).link with replies := List.replicate 8 ⟨0x90, 1, [0], false⟩, buffer := buffer } }

/-- A state with a RESTART taken or due. -/
def resetting (r : RestartPhase) (s : State) : State := { s with link := { s.link with restart := r } }

theorem test_meets_AFrameWaitsOrIsDiscarded :
    (let s := crowded [⟨1, 2, [], 0⟩]
     s.awake ∧ s.link.sending ≠ none ∧ Config.replyLimit ≤ s.link.replies.length ∧ s.link.restart = .none ∧ s.link.buffer.length < 2) ∧
    (let s := crowded [⟨1, 2, [], 0⟩, ⟨3, 4, [], 0⟩]
     s.awake ∧ s.link.sending ≠ none ∧ Config.replyLimit ≤ s.link.replies.length ∧ 2 ≤ s.link.buffer.length) ∧
    (∀ s ∈ [resetting .taken (busyLine calm), resetting .due calm, resetting .taken (crowded [])],
      s.awake ∧ s.link.restart ≠ .none ∧ (s.link.sending ≠ none ∨ s.link.restart = .due)) ∧
    (let s := resetting .taken { calm with link := { calm.link with replies := [⟨0x90, 1, [0], false⟩] } }
     s.awake ∧ s.link.sending = none ∧ s.link.restart = .taken ∧ s.link.replies = ⟨0x90, 1, [0], false⟩ :: []) := by decide
/-- From the taking of a RESTART a frame is discarded, with room in the reply queue too (R194). -/
theorem test_frame_after_a_restart :
    (left (exec (.frameComplete 0x23 1 [] 0) (resetting .taken (busyLine calm)))).link.buffer = [] := by decide

/-- `calm` with an occurrence of source 0 on record and queued. -/
def noted : State := { calm with notices := { calm.notices with
  sources := calm.notices.sources.set 0 ⟨true, 1, 5, 5, 7, [1]⟩, queue := [0] } }

theorem test_meets_TheArbiterPrefersReplies :
    (let s := busyLine { calm with link := { calm.link with replies := [⟨1, 2, [], false⟩] } }
     s.awake ∧ s.link.buffer = [] ∧ s.link.restart = .none ∧ s.link.sending = some ⟨[0], false⟩ ∧
     s.link.replies = ⟨1, 2, [], false⟩ :: []) ∧
    (let s := busyLine noted
     s.awake ∧ s.link.buffer = [] ∧ s.link.restart = .none ∧ s.link.sending = some ⟨[0], false⟩ ∧ s.link.replies = [] ∧
     s.notices.queue = 0 :: []) ∧
    (let s := busyLine calm
     s.awake ∧ s.link.buffer = [] ∧ s.link.sending = some ⟨[0], false⟩ ∧ s.link.replies = [] ∧ s.notices.queue = []) := by decide
theorem test_meets_AnOccurrenceFoldsIntoItsRecord :
    noted.notices.sources[(0 : Source)].pending = true ∧ noted.notices.sources[(1 : Source)].pending = false := by decide
theorem test_meets_NoticeMaskSetsTheMask :
    calm.ready ∧ 2 ^ 30 ≤ (0x40000000 : Word).toNat ∧ (0x3FFFFFFF : Word).toNat < 2 ^ 30 := by decide
theorem test_meets_NoticeTakeTakesTheRecord :
    noted.ready ∧ 29 < (30 : Byte).toNat ∧ (29 : Source).val = (29 : Byte).toNat ∧
    noted.notices.sources[(29 : Source)].pending = false ∧ noted.notices.sources[(0 : Source)].pending = true ∧ noted.notices.Law := by
  decide
theorem test_meets_ARequestWaitsAsItsFrame :
    (encodeRequest (offLine (.clear 1)) = some (0x23, 1, []) ∧ offLine (.clear 1) = .clear 1 ∧ State.reset.store.check = .running) ∧
    (let s := crowded []
     s.awake ∧ s.link.restart = .none ∧ s.link.sending ≠ none ∧ Config.replyLimit ≤ s.link.replies.length ∧
     s.link.buffer.length < 2) ∧
    (let s := crowded [⟨1, 2, [], 0⟩, ⟨3, 4, [], 0⟩]
     s.awake ∧ s.link.restart = .none ∧ s.link.sending ≠ none ∧ Config.replyLimit ≤ s.link.replies.length ∧
     2 ≤ s.link.buffer.length) ∧
    ((resetting .taken calm).awake ∧ (resetting .taken calm).link.restart ≠ .none) ∧
    ((busyLine calm).ready ∧ (busyLine calm).link.sending ≠ none ∧ offLine (.loadTable 1 0 []) = .loadTable 1 0 [] ∧
      encodeRequest (offLine (.loadTable 1 0 [])) = some (0x06, 1, [0])) := by decide

/-! #### Queries and parameters -/

/-- `calm` with an empty design open at (0, 0). -/
def opened : State := { calm with store := { Store.empty .passed with isOpen := true } }

theorem test_meets_QueriesChangeNothing :
    calm.ready ∧ 3 < (4 : Byte).toNat ∧ (1 : Byte).toNat = (0 : Head).val + 1 ∧ (12 : Byte).toNat = (11 : Head).val + 1 ∧
    (0 : Byte).toNat = 0 ∧ 12 < (13 : Byte).toNat ∧ calm.planner.stopPoint = none ∧ Monitor.reset.fault = none ∧
    calm.needle.change = none ∧ calm.run.slot = none := by decide
theorem test_meets_GetParamReadsTheValue :
    calm.ready ∧ (0 : Byte).toNat < 1 ∧ 50 < (51 : Byte).toNat ∧ Param.heads.ident = (1 : Byte).toNat ∧
    Param.sensorRefHi.ident = (50 : Byte).toNat ∧ Param.speedMin = .speedMin ∧ (60 : Int) ≠ calm.par .speedMin := by decide
theorem test_meets_SetParamIsChecked :
    (calm.ready ∧ (0 : Byte).toNat < 1 ∧ 50 < (51 : Byte).toNat) ∧
    ((0 : Word).toInt < Param.heads.row.lo ∧ Param.heads.row.hi < (13 : Word).toInt) ∧
    (Param.heads.row.lo ≤ (1 : Word).toInt ∧ (1 : Word).toInt ≤ Param.heads.row.hi ∧ Param.heads.row.change = .idle ∧
      (calmIn .ready).ready ∧ (calmIn .ready).run.state ≠ .idle) ∧
    (Param.winStart.row.lo ≤ (359 : Word).toInt ∧ (359 : Word).toInt ≤ Param.winStart.row.hi ∧
      Param.winStart.row.change = .stopped ∧ sewing.ready ∧ sewing.inRun = true ∧ sewing.shaft.motion = .turning) := by decide
theorem test_meets_SetParamIsChecked_chapters :
    (opened.ready ∧ opened.run.state = .idle ∧ opened.shaft.motion = .stopped ∧ opened.store.isOpen = true) ∧
    (calm.ready ∧ calm.store.isOpen = false ∧ Param.limitXMin.row.lo ≤ (6001 : Word).toInt ∧
      (6001 : Word).toInt ≤ Param.limitXMin.row.hi ∧ ¬ calm.PairsKept .limitXMin (6001 : Word).toInt ∧
      calm.PairsKept .limitXMin (6000 : Word).toInt) ∧
    (let s := withOp .home none calm
     s.ready ∧ s.run.state = .idle ∧ s.shaft.motion = .stopped ∧ s.run.slot = some ⟨.home, .host, 0, none, false⟩) ∧
    (let s := withPar .heads 12 (withOp .sensorTest none calm)
     let s := { s with thread := { s.thread with test := some ⟨0x800, Vector.replicate 12 0, 5⟩ } }
     s.ready ∧ s.run.state = .idle ∧ s.shaft.motion = .stopped ∧ (11 : Word).toInt < s.par .heads ∧ s.run.slot ≠ none ∧
     (11 : Word).toInt ≤ ((11 : Head).val : Int) ∧ inSet 0x800 11 = true) := by decide
theorem test_meets_SetParamWritesAPlainParameter :
    calm.ready ∧ Param.restAngle.ident = (7 : Byte).toNat ∧ Param.restAngle.row.lo ≤ (0 : Word).toInt ∧
    (359 : Word).toInt ≤ Param.restAngle.row.hi ∧ Param.restAngle.row.change = .stopped ∧ calm.inRun = false ∧
    calm.shaft.motion = .stopped := by decide
theorem test_meets_SetParamHasItsEffects :
    (calm.ready ∧ calm.run.state = .idle ∧ calm.shaft.motion = .stopped ∧ calm.run.slot = none) ∧
    (Param.encCounts.ident = (3 : Byte).toNat ∧ Param.encCounts.row.lo ≤ (360 : Word).toInt ∧
      (4096 : Word).toInt ≤ Param.encCounts.row.hi ∧ (360 : Word).toInt ≠ calm.par .encCounts ∧ calm.frame.move = none ∧
      calm.frame.dwell = none ∧ calm.needle.change = none) ∧
    (Param.refX.row.lo ≤ (-32000 : Word).toInt ∧ (-32000 : Word).toInt ≠ calm.par .refX) ∧
    ((2000 : Word).toInt ≤ Param.pitchX.row.hi ∧ (2000 : Word).toInt ≠ calm.par .pitchX) ∧
    (Param.needles.row.lo ≤ (1 : Word).toInt ∧ (1 : Word).toInt < calm.par .needles) ∧
    ((withPar .needles 1 calm).ready ∧ (withPar .needles 1 calm).par .needles < (15 : Word).toInt) ∧
    (calm.ready ∧ calm.par .heads < (12 : Word).toInt) ∧
    (let s := { calm with params := calm.params.set 0 12 }
     s.ready ∧ s.run.state = .idle ∧ (1 : Word).toInt < s.par .heads ∧ (1 : Word).toInt ≤ ((1 : Head).val : Int)) ∧
    (40 : Word).toInt = calm.par .pitchY := by decide
theorem test_meets_SetParamHasItsEffects_shaft_and_speed :
    (Param.winStart.row.lo ≤ (0 : Word).toInt ∧ (359 : Word).toInt ≤ Param.winEnd.row.hi ∧
      (0 : Word).toInt ≠ calm.par .winStart ∧ (359 : Word).toInt ≠ calm.par .winEnd ∧ calm.shaft.needleUp = false) ∧
    (let w := withPar .winStart (0 : Word).toInt (armed .idle)
     (armed .idle).ready ∧ (armed .idle).shaft.needleUp = true ∧ w.flagNow = false ∧ (armed .idle).frame.move = none ∧
     (armed .idle).frame.dwell = none ∧ (armed .idle).needle.change = none) ∧
    (withPar .winStart (219 : Word).toInt (armed .idle)).flagNow = true ∧
    (Param.jumpWidth.row.lo ≤ (200 : Word).toInt ∧ (200 : Word).toInt ≠ calm.par .jumpWidth) ∧
    ((200 : Word).toInt ≤ Param.speedStopEntry.row.hi ∧ (200 : Word).toInt ≠ calm.par .speedStopEntry) ∧
    (let s := withPar .speedTop 300 calm
     s.PairsKept .speedMin (300 : Word).toInt ∧ (300 : Word).toInt ≤ Param.speedMin.row.hi ∧
      (300 : Word).toInt ≠ s.par .speedMin ∧ ¬ s.PairsKept .speedMin (301 : Word).toInt) ∧
    (calm.PairsKept .speedTop (calm.par .speedMin) ∧ Param.speedTop.row.lo ≤ calm.par .speedMin) := by decide
theorem test_meets_SetParamHasItsEffects_flag :
    (let s := withMove .stepMove ⟨1003, 804⟩ ⟨1003, 804⟩ (-16) 16 (armed .idle)
     s.ready ∧ s.shaft.needleUp = true ∧ (withPar .winStart (0 : Word).toInt s).flagNow = false ∧ s.needle.change = none ∧
     s.frame.move = some ⟨.stepMove, ⟨1003, 804⟩, ⟨1003, 804⟩, -16, 16, none, false, none⟩) ∧
    (let s := armed .running
     let s := { s with frame := { s.frame with move := some ⟨.firstMove, .zero, .zero, 1, 1, some 2, false, none⟩ } }
     s.ready ∧ s.shaft.needleUp = true ∧ s.needle.change = none ∧
     s.frame.move = some ⟨.firstMove, .zero, .zero, 1, 1, some 2, false, none⟩) ∧
    (let s := withOp .backtrack none (armed .idle)
     let s := { s with frame := { s.frame with dwell := some 3 } }
     s.ready ∧ s.frame.ownMove = none ∧ (late s).frame.ownMove = none ∧ s.frame.dwell = some 3 ∧ s.needle.change = none ∧
     s.run.slot = some ⟨.backtrack, .host, 0, none, false⟩) ∧
    (∀ k ∈ [(OpKind.needleSelect, ChangePurpose.select), (.colourChange, .colour), (.backtrack, .landing), (.home, .start)],
      let s := changing k.1 k.2
      s.ready ∧ s.inRun = false ∧ s.shaft.motion = .stopped ∧ s.shaft.needleUp = true ∧ s.frame.ownMove = none ∧
      s.frame.dwell = none ∧ s.needle.change = some ⟨k.2, 2, .host, 9, 9, 0⟩ ∧
      s.run.slot = some ⟨k.1, .host, 0, none, false⟩ ∧ (withPar .winStart (0 : Word).toInt s).flagNow = false ∧
      s.run.state ≠ .stopping) := by decide
theorem test_meets_SetParamHasItsEffects_others :
    (Param.tenWindow.row.lo ≤ (4 : Word).toInt ∧ (4 : Word).toInt < calm.par .tenWindow ∧ Param.tenWindow.row.change ≠ .any ∧
      calm.shaft.motion = .stopped ∧ calm.run.state = .idle) ∧
    (let s := { calmIn .halted with run := { (calmIn .halted).run with resume := some .data } }
     s.ready ∧ Param.autoResume.row.change ≠ .idle ∧ (withPar .autoResume 1 s).par .autoResume ≠ (0 : Word).toInt ∧
     (withPar .autoResume 1 s).run.resume = some .data) ∧
    (let s := { calmIn .halted with run := { (calmIn .halted).run with resume := some .colour } }
     s.ready ∧ Param.colourRestart.row.change ≠ .idle ∧ (withPar .colourRestart 1 s).par .colourRestart ≠ (0 : Word).toInt ∧
     (withPar .colourRestart 1 s).run.resume = some .colour) ∧
    ((0 : Word).toInt ≠ calm.par .limitYMax ∧ calm.store.isOpen = false ∧ calm.PairsKept .limitYMax (0 : Word).toInt) ∧
    (calm.PairsKept .sensorRefLo (0 : Word).toInt ∧ (0 : Word).toInt ≠ calm.par .sensorRefLo ∧
      calm.PairsKept .stopQuiet (calm.par .stallTime)) := by decide
theorem test_meets_SetParamHasItsEffects_speed_set :
    (calm.ready ∧ Param.speedSet.ident = (17 : Byte).toNat ∧ 0 ≤ (0 : Word).toInt ∧ (65535 : Word).toInt ≤ 65535 ∧
      (800 : Word).toInt = calm.par .speedSet ∧ (calm.nat .speedMin : Int) ≠ calm.par .speedSet ∧ calm.inRun = false) ∧
    (sewing.ready ∧ sewing.inRun = true ∧ sewing.nat .speedMin < sewing.planner.demand ∧
      sewing.planner.demand ≤ max (sewing.nat .speedMin) (min (65535 : Word).toNat (sewing.nat .speedTop))) := by decide
theorem test_meets_SpeedSetsTheOperatorsSpeed :
    calm.ready ∧ (calm.clampSpeed 800 : Int) = calm.par .speedSet ∧ (calm.clampSpeed 0 : Int) ≠ calm.par .speedSet ∧
    calm.inRun = false ∧ sewing.ready ∧ sewing.inRun = true ∧ sewing.clampSpeed 0 < sewing.planner.demand ∧
    sewing.planner.demand ≤ sewing.clampSpeed 65535 := by decide

/-! #### Tables, plan, map, channels -/

/-- Sixteen points that pass the checks of R42. -/
def goodPoints : List RawPoint := (List.range 16).map fun k => ⟨BitVec.ofNat 16 (k * 2184), BitVec.ofNat 32 (k * 133333)⟩

theorem test_meets_LoadTableReplacesTheTable :
    (calm.ready ∧ goodPoints.length = 16 ∧ (1 : Byte).toNat ≤ 1 ∧ calm.inRun = false ∧ calm.run.slot = none) ∧
    (goodPoints.head? = some ⟨0, 0⟩ ∧
      goodPoints.Pairwise (fun a b => a.steps.toNat < b.steps.toNat ∧ a.time.toNat ≤ b.time.toNat) ∧
      ∀ p ∈ goodPoints, p.steps.toNat ≤ 32767 ∧ p.time.toNat ≤ 2000000) ∧
    ((List.replicate 16 (⟨0, 0⟩ : RawPoint)).length = 16 ∧
      ¬ (List.replicate 16 (⟨0, 0⟩ : RawPoint)).Pairwise (fun a b => a.steps.toNat < b.steps.toNat ∧ a.time.toNat ≤ b.time.toNat)) ∧
    (sewing.ready ∧ sewing.inRun = true) ∧ (goodPoints.take 15).length ≠ 16 ∧ (List.replicate 17 (⟨0, 0⟩ : RawPoint)).length ≠ 16 ∧
    ((withOp .home none calm).ready ∧ (withOp .home none calm).inRun = false ∧ (withOp .home none calm).run.slot ≠ none) := by decide
theorem test_meets_LoadNeedlePlanWritesItsSteps :
    (calm.ready ∧ [15].length ≤ 248 ∧ ¬ ([(15 : Byte)].length < 1 ∨ 128 < [(15 : Byte)].length ∨
      256 < (255 : Byte).toNat + [(15 : Byte)].length ∨ ∃ v ∈ [(15 : Byte)], calm.nat .needles < v.toNat)) ∧
    (256 < (255 : Byte).toNat + [(0 : Byte), 0].length ∧ 128 < (List.replicate 129 (0 : Byte)).length) ∧
    (sewing.ready ∧ sewing.inRun = true ∧ (0 : Byte).toNat ≤ sewing.store.cursorColour ∧
      sewing.store.cursorColour < (0 : Byte).toNat + [(15 : Byte)].length) := by decide
theorem test_meets_LoadMapEntryWritesTheStandbyBank :
    calm.ready ∧ entryOf ⟨0, 0, 0, 0, 0, 0, []⟩ = none ∧
    entryOf ⟨63, 1, 1500, 255, 2, 1, [⟨11, 0, 3, 359, 15, 359⟩]⟩ =
      some (63, ⟨.slow 1500 255, [⟨11, .pulse 3 359 15 359⟩], .common, true⟩) ∧
    entryOf ⟨1, 2, 0, 0, 0, 0, [⟨0, 1, 0, 0, 0, 0⟩, ⟨0, 2, 0, 0, 0, 0⟩]⟩ =
      some (1, ⟨.stopAfter, [⟨0, .set⟩, ⟨0, .clear⟩], .sewing, false⟩) ∧
    entryOf ⟨1, 0, 9, 9, 1, 0, []⟩ = some (1, ⟨.none, [], .enabled, false⟩) := by decide
/-- One item of R109's list at a time, at the value next to its range. -/
theorem test_malformed_entries :
    [(⟨64, 0, 0, 0, 0, 0, []⟩ : RawEntry), ⟨1, 3, 0, 0, 0, 0, []⟩, ⟨1, 1, 0, 1, 0, 0, []⟩, ⟨1, 1, 1501, 1, 0, 0, []⟩,
      ⟨1, 1, 1, 0, 0, 0, []⟩, ⟨1, 0, 0, 0, 3, 0, []⟩, ⟨1, 0, 0, 0, 0, 2, []⟩,
      ⟨1, 0, 0, 0, 0, 0, List.replicate 5 ⟨0, 1, 0, 0, 0, 0⟩⟩].all (fun e => (entryOf e).isNone) = true := by decide
theorem test_malformed_items :
    [(⟨12, 1, 0, 0, 0, 0⟩ : RawAction), ⟨0, 3, 0, 0, 0, 0⟩, ⟨0, 0, 4, 0, 0, 0⟩, ⟨0, 0, 0, 360, 0, 0⟩, ⟨0, 0, 0, 0, 16, 0⟩,
      ⟨0, 0, 0, 0, 0, 360⟩, ⟨0, 1, 0, 0, 0, 1⟩, ⟨0, 2, 1, 0, 0, 0⟩].all
      (fun a => (entryOf ⟨1, 0, 0, 0, 0, 0, [a]⟩).isNone) = true := by decide
theorem test_meets_SwapMapExchangesTheBanks :
    calm.ready ∧ calm.inRun = false ∧ calm.shaft.motion = .stopped ∧ sewing.ready ∧ sewing.inRun = true := by decide

/-- `calm` with channel 3 under test. -/
def testing : State := withOp .channelTest none { calm with func := { calm.func with test := some ⟨3, 1, 100, 50⟩ } }

theorem test_meets_SetChannelMakesTheChannelIdle :
    (calm.ready ∧ 11 < (12 : Byte).toNat ∧ (11 : Chan).val = (11 : Byte).toNat ∧ (1 : Byte).toNat ≤ 1 ∧ calm.inRun = false ∧
      calm.shaft.motion = .stopped ∧ calm.func.test = none) ∧
    (sewing.ready ∧ sewing.inRun = true) ∧
    (testing.ready ∧ testing.inRun = false ∧ testing.shaft.motion = .stopped ∧ testing.func.test = some ⟨3, 1, 100, 50⟩) := by decide

/-! #### The design, the run -/

theorem test_meets_DesignOpenAndDiscardEmptyTheStore :
    ((calmIn .ready).ready ∧ (calmIn .ready).run.state ≠ .idle) ∧
    (calm.ready ∧ calm.run.state = .idle ∧ calm.par .limitXMin ≤ (0 : Half).toInt ∧ (6000 : Half).toInt ≤ calm.par .limitXMax ∧
      calm.par .limitYMin ≤ (0 : Half).toInt ∧ (4000 : Half).toInt ≤ calm.par .limitYMax ∧
      calm.par .limitXMax < (6001 : Half).toInt) ∧
    (sewing.ready ∧ sewing.inRun = true) ∧ ((calmIn .locked).ready ∧ (calmIn .locked).run.state = .locked) ∧
    ((withOp .home none calm).ready ∧ (withOp .home none calm).inRun = false ∧ (withOp .home none calm).run.slot ≠ none) ∧
    ((armed .halted).ready ∧ (armed .halted).inRun = false ∧ (armed .halted).run.slot = none ∧ (armed .halted).run.state ≠ .idle) := by
  decide

theorem test_meets_LoadTakesRecordsInOrder :
    opened.ready ∧ (0 : Byte).toNat < 1 ∧ 82 < (83 : Byte).toNat ∧
    (1 ≤ (1 : Byte).toNat ∧ (82 : Byte).toNat ≤ 82 ∧ [((1 : Byte), (2 : Byte), (3 : Byte))].length = (1 : Byte).toNat) ∧
    (1 : Index3).toNat ≠ opened.store.fill ∧ (0 : Index3).toNat = opened.store.fill ∧
    82 < (List.replicate 83 ((1 : Byte), (2 : Byte), (3 : Byte))).length ∧
    (List.replicate 82 ((1 : Byte), (2 : Byte), (3 : Byte))).length ≤ 82 := by decide
theorem test_meets_LoadTakesRecordsInOrder_checks :
    (recordOf 1 0x81 127 = some (.stitch (-127) 127) ∧ recordOf 2 127 0x81 = some (.jump 127 (-127)) ∧
      recordOf 3 63 0 = some (.function 63) ∧ recordOf 4 0 0 = some .colour ∧ recordOf 5 0 0 = some .endRec) ∧
    (¬ (calm.store.isOpen = true ∧ calm.store.endLoaded = false) ∧ opened.store.isOpen = true ∧ opened.store.endLoaded = false) ∧
    (let s := { opened with store := { opened.store with fillColour := 255 } }
     (some Rec.colour = some Rec.colour ∧ s.store.fillColour = 255)) ∧
    (let s := { opened with store := { opened.store with fill := 65536 } }
     65536 ≤ s.store.fill - s.store.retire ∧ (some Rec.endRec : Option Rec) = some .endRec) ∧
    ¬ (65536 ≤ opened.store.fill - opened.store.retire ∨ opened.store.fill = 16777215) ∧ Rec.endRec.move = none ∧
    (opened.par .limitXMin ≤ opened.store.origin.x + opened.store.fillPos.x + 0 ∧ (Rec.stitch 0 0).move = some ⟨0, 0⟩ ∧
      ¬ opened.par .limitXMin ≤ opened.store.origin.x + opened.store.fillPos.x + -1) := by decide
theorem test_malformed_records :
    [((0 : Byte), (0 : Byte), (0 : Byte)), (6, 0, 0), (1, 0x80, 0), (1, 0, 0x80), (2, 0x80, 0), (2, 0, 0x80), (3, 64, 0), (3, 0, 1),
      (4, 1, 0), (4, 0, 1), (5, 1, 0), (5, 0, 1)].all (fun b => (recordOf b.1 b.2.1 b.2.2).isNone) = true := by decide
theorem test_meets_ArmMakesReady :
    calm.ready ∧ ¬ (calm.run.state = .idle ∧ calm.store.isOpen = true ∧ 0 < calm.store.fill) ∧
    ((armed .idle).ready ∧ (armed .idle).run.state = .idle ∧ (armed .idle).store.isOpen = true ∧ 0 < (armed .idle).store.fill ∧
      (armed .idle).run.slot = none ∧ (armed .idle).armCheck = none) ∧
    (withOp .home none (armed .idle)).run.slot ≠ none ∧
    ({ armed .idle with planner := Planner.reset } : State).armCheck = some (.config, some 254) ∧
    ({ armed .idle with frame := Frame.reset } : State).armCheck = some (.unref, none) := by decide

/-- `armed` READY with the frame out by half a millimetre. -/
def out : State :=
  { armed .ready with frame := { (armed .ready).frame with offset := ⟨5, 0⟩, coord := ⟨1012, 800⟩ } }
/-- `armed` with head 1 ACTIVE and its sensor not tested. -/
def untested (r : RunState) : State := withHead ⟨.active, .stop, false, none, [], false⟩ (armed r)
/-- `armed` with needle 2 planned for its colour step. -/
def planned (r : RunState) : State :=
  { armed r with needle := { (armed r).needle with plan := (armed r).needle.plan.set 0 (some 2) } }

theorem test_meets_StartTakesItsFirstStep :
    (out.ready ∧ out.startCheck = none ∧ out.frame.offset ≠ .zero ∧ out.settledFrame.coord ≠ out.designPoint ∧
      (late out).settledFrame.coord ≠ (late out).designPoint) ∧
    ((untested .ready).ready ∧ (untested .ready).startCheck = none ∧ (untested .ready).frame.offset = .zero ∧
      (untested .ready).untested ≠ 0) ∧
    ((planned .ready).ready ∧ (planned .ready).startCheck = none ∧ (planned .ready).untested = 0 ∧
      (planned .ready).planNeedle = some 2 ∧ (planned .ready).needle.settled ≠ some 2) ∧
    (calm.ready ∧ calm.startCheck = some (.state, none)) ∧
    (let s := { planned .halted with run := { (planned .halted).run with resume := some .data } }
     s.awake ∧ s.startsItself = true ∧ s.startCheck = none ∧ s.planNeedle = some 2 ∧ s.needle.settled ≠ some 2) ∧
    (let s := { armed .halted with run := { (armed .halted).run with resume := some .data }, pins := Pins.quiet }
     s.awake ∧ s.startsItself = true ∧ s.startCheck = some (.faulted, some 0)) ∧ calm.startsItself = false := by decide

/-- `untested` READY with the sensor of head 1 in this state. -/
def sensed (v : SensorStatus) : State :=
  let s := untested .ready
  { s with thread := { s.thread with monitors := s.thread.monitors.set 0 { Monitor.reset with sensor := v } } }

theorem test_meets_StartTakesItsFirstStep_checks :
    ((armed .ready).run.state = .ready ∧ (armed .halted).run.state = .halted ∧ calm.run.state = .idle ∧
      (withOp .home none (armed .ready)).run.slot ≠ none) ∧
    (({ armed .ready with shaft := { (armed .ready).shaft with needleUp := false } } : State).shaft.needleUp = false ∧
      (let s := { armed .ready with store := { (armed .ready).store with cursor := 4 } }
       s.store.endLoaded = true ∧ s.store.cursor = s.store.fill)) ∧
    (let s := armed .ready
     s.run.slot = none ∧ s.shaft.motion = .stopped ∧ s.shaft.needleUp = true ∧
     ¬ (s.store.endLoaded = true ∧ s.store.cursor = s.store.fill) ∧ (∀ h, ¬ (s.fitted h = true ∧ (s.head h).state = .faulted)) ∧
     (∀ h, ¬ (s.fitted h = true ∧ (s.head h).state = .active ∧ (s.monitor h).sensor = .failed)) ∧
     s.pins.driveReady = true ∧ s.pins.driveFault = false ∧ s.armCheck = none ∧ s.startCheck = none) ∧
    (let s := withHead ⟨.faulted, .stop, false, none, [], false⟩ (armed .ready)
     s.fitted 0 = true ∧ (s.head 0).state = .faulted ∧ ∀ k : Head, k < 0 → ¬ (s.head k).state = .faulted) ∧
    ((∀ h, ¬ ((sensed .failed).head h).state = .faulted) ∧ (sensed .failed).fitted 0 = true ∧
      ((sensed .failed).head 0).state = .active ∧ ((sensed .failed).monitor 0).sensor = .failed) ∧
    ({ armed .ready with pins := Pins.quiet } : State).pins.driveReady = false ∧
    ({ armed .ready with planner := Planner.reset } : State).armCheck = some (.config, some 254) := by decide

/-- `armed` READY with needle 2 planned and settled. -/
def threaded : State := onNeedleTwo (armed .ready)
/-- `threaded` HALTED with a wait. -/
def waitingFor (r : Resume) : State :=
  let s := onNeedleTwo (armed .halted)
  { s with run := { s.run with resume := some r, colourTimer := .running 0 } }

theorem test_meets_StartTakesItsFirstStep_call :
    (threaded.ready ∧ threaded.startCheck = none ∧ threaded.frame.offset = .zero ∧ threaded.untested = 0 ∧
      threaded.planNeedle = threaded.needle.settled) ∧
    (let s := waitingFor .data
     s.awake ∧ s.startsItself = true ∧ s.startCheck = none ∧ s.frame.offset = .zero ∧ s.untested = 0 ∧
     s.planNeedle = s.needle.settled) ∧
    (let s := waitingFor .colour
     s.awake ∧ s.run.colourTimer = .running 0 ∧ s.run.resume = some .colour ∧ s.run.slot = none) := by decide

/-- `sewing` on needle 2 one count before the window-start mark, turn 1 outstanding. -/
def atMark : State :=
  let s := onNeedleTwo sewing
  { s with shaft := { s.shaft with count := 879 }, run := { s.run with outstanding := some ⟨1, false, 1⟩ } }
/-- `atMark` with the record at the cursor, that of index 2, as given. -/
def calling (r : Rec) : State :=
  { atMark with store := { atMark.store with records := [.stitch 3 4, .stitch 4 (-4), r, .jump 1 1] } }
/-- `atMark` with a function of one action before a stitch at the cursor, and head 1 in this state. -/
def pulsing (act : Act) (scope : Scope) (st : HeadState) : State :=
  let s := withHead ⟨st, .stop, false, none, [], false⟩ atMark
  { s with
    store := { s.store with records := [.stitch 3 4, .stitch 4 (-4), .function 9, .stitch 5 6] }
    func := { s.func with bankA := s.func.bankA.set 9 ⟨.none, [⟨3, act⟩], scope, true⟩ } }

theorem marks_of_window_start :
    ∀ t, atMark.takesAt 220 t = true ↔ t ∈ [Taker.overrun, .completion, .retention, .call] := every_taker (by decide)
theorem test_meets_ACallAdvancesTheCursor :
    atMark.callOutcome = .turn [(2, .stitch 5 6)] 2 (.stitch 5 6) ∧ calm.callOutcome = .stop [] .needlePlan 0 false := by decide
theorem test_meets_ACallAdvancesTheCursor_mark :
    atMark.NearsWindowStart ∧ atMark.run.phase = some .sewing ∧ atMark.run.outstanding = some ⟨1, false, 1⟩ ∧
    (∀ (h : Head) (g : Gathering), g ∈ (atMark.monitor h).gatherings → g.turn ≠ 1) ∧ atMark.run.repair.active = false :=
  ⟨⟨by decide, by decide, by decide, by decide, by decide, by decide, by decide, by decide, marks_of_window_start⟩,
    by decide, by decide, by decide, by decide⟩
theorem test_meets_ACallAdvancesTheCursor_issue :
    (atMark.inRun = true ∧ (Rec.stitch 5 6).move = some ⟨5, 6⟩ ∧ atMark.planner.prev = some 300 ∧
      (allowedSpeed (atMark.nat .rampDown) (enterAll [] atMark).freshLookahead).isSome = true ∧
      atMark.link.restart = .none ∧ 0 < (call .nothing atMark).planner.demand ∧
      atMark.stepsBetween atMark.settledFrame.coord (atMark.designPoint.add ⟨5, 6⟩) ≠ (0, 0) ∧
      (late atMark).callOutcome = .turn [(2, .stitch 5 6)] 2 (.stitch 5 6) ∧
      (late atMark).stepsBetween (late atMark).settledFrame.coord ((late atMark).designPoint.add ⟨5, 6⟩) = (0, 0)) ∧
    ((calling (.stitch 0 0)).callOutcome = .turn [(2, .stitch 0 0)] 2 (.stitch 0 0) ∧
      (calling (.stitch 0 0)).stepsBetween (calling (.stitch 0 0)).settledFrame.coord ((calling (.stitch 0 0)).designPoint.add ⟨0, 0⟩) =
        (0, 0)) ∧
    ((calling (.jump 1 1)).callOutcome = .turn [(2, .jump 1 1)] 2 (.jump 1 1) ∧ (Rec.jump 1 1).isJump = true) ∧
    (let s := { atMark with run := { atMark.run with repair := ⟨true, 1, 3⟩ } }
     s.callOutcome = .turn [(2, .stitch 5 6)] 2 (.stitch 5 6) ∧ 2 < s.run.repair.resume) ∧
    (let s := { atMark with run := { atMark.run with repair := ⟨true, 1, 2⟩ } }
     s.callOutcome = .turn [(2, .stitch 5 6)] 2 (.stitch 5 6) ∧ ¬ 2 < s.run.repair.resume) := by decide
/-- A shaft turned back over window start and forward again calls with the turn move to the design point still in progress: its steps
are emitted, and the new move is laid out from the design point (R60, R64; notes/assumptions/48.md). -/
theorem test_turn_move_over_turn_move :
    let s := withMove .turnMove ⟨1007, 800⟩ ⟨1007, 800⟩ 3 5
      { atMark with frame := { atMark.frame with coord := ⟨1003, 804⟩, late := some .windowEnd } }
    let t := call .nothing s
    s.callOutcome = .turn [(2, .stitch 5 6)] 2 (.stitch 5 6) ∧ s.designPoint = ⟨1007, 800⟩ ∧
    t.frame.stepX = s.frame.stepX + 3 ∧ t.frame.stepY = s.frame.stepY + 5 ∧ t.frame.coord = ⟨1007, 800⟩ ∧
    t.frame.late = some .windowEnd ∧
    t.frame.move = some ⟨.turnMove, ⟨1012, 806⟩, ⟨1012, 806⟩, 20, 24, some 2, false, none⟩ := by decide
/-- `threaded` in a start that is about to make its first call, with the record at the cursor as given. -/
def firstCalling (r : Rec) : State :=
  { threaded with
    run := { threaded.run with state := .running, phase := some .starting }
    store := { threaded.store with records := [.stitch 3 4, .stitch 4 (-4), r, .jump 1 1] } }
theorem test_meets_ACallAdvancesTheCursor_first :
    (∀ s ∈ [firstCalling (.stitch 5 6), late (firstCalling (.stitch 5 6)),
        { firstCalling (.stitch 5 6) with run := { (firstCalling (.stitch 5 6)).run with repair := ⟨true, 1, 2⟩ } },
        { firstCalling (.stitch 5 6) with run := { (firstCalling (.stitch 5 6)).run with inject := some 9 } }],
      s.run.phase = some .starting ∧ s.run.state = .running ∧ s.run.work = none ∧ s.shaft.needleUp = true ∧
      (s.run.inject = none ∨ (s.func.entry 9).effect ≠ .stopAfter) ∧ (∀ h : Head, (s.head h).gaps.length < 8) ∧
      s.callOutcome = .turn [(2, .stitch 5 6)] 2 (.stitch 5 6) ∧ s.link.restart = .none ∧
      (allowedSpeed (s.nat .rampDown) (enterAll [] s).freshLookahead).isSome = true) ∧
    (firstCalling (.stitch 5 6)).settledFrame.coord ≠ (firstCalling (.stitch 5 6)).designPoint.add ⟨5, 6⟩ ∧
    (let s := firstCalling (.stitch 0 0)
     s.callOutcome = .turn [(2, .stitch 0 0)] 2 (.stitch 0 0) ∧ s.settledFrame.coord = s.designPoint.add ⟨0, 0⟩ ∧
     s.shaft.line = 0 ∧ 0 < (call .nothing s).planner.demand) ∧
    (let s := { firstCalling (.stitch 5 6) with shaft := (down .ready).shaft }
     s.callOutcome = .turn [(2, .stitch 5 6)] 2 (.stitch 5 6) ∧ s.shaft.needleUp = false ∧ s.shaft.motion = .stopped) := by decide
theorem test_meets_ACallAdvancesTheCursor_function :
    (∀ act ∈ [Act.set, .clear, .pulse 0 300 1 100],
      let s := pulsing act .sewing .active
      s.callOutcome = .turn [(2, .function 9), (3, .stitch 5 6)] 3 (.stitch 5 6) ∧
      (s.func.entry 9).actions = [⟨3, act⟩] ∧ (s.func.entry 9).slack = true) ∧
    (let s := pulsing .set .sewing .active
     s.run.inject = none ∧ s.angle = some 219 ∧ s.inRun = true ∧ s.run.phase = some .sewing ∧ s.run.repair.active = false ∧
     s.func.channels[(3 : Chan)].pulse = none ∧ (call ⟨some 1, []⟩ s).table.sewSet = 1) ∧
    headsWhere (fun h => (pulsing .set .enabled .isolated).fitted h &&
      decide (((pulsing .set .enabled .isolated).head h).state ≠ .disabled)) = 1 ∧
    headsWhere (pulsing .set .common .disabled).fitted = 1 ∧
    (call ⟨some 1, []⟩ (pulsing .set .sewing .disabled)).table.sewSet = 0 := by decide
/-- A pulse PENDING and a pulse ACTIVE, with their dues. -/
def pulsesHeld : List Pulse := [⟨false, 2, false, some ⟨300, 1⟩, some ⟨20, 1⟩⟩, ⟨true, 2, false, none, some ⟨20, 1⟩⟩]

theorem test_meets_ACallAdvancesTheCursor_merge : ∀ p ∈ pulsesHeld,
    let s := pulsing (.pulse 0 250 1 100) .sewing .active
    let s := { s with func := { s.func with
      channels := s.func.channels.set 3 { s.func.channels[(3 : Chan)] with pulse := some p } } }
    s.callOutcome = .turn [(2, .function 9), (3, .stitch 5 6)] 3 (.stitch 5 6) ∧ s.angle = some 219 ∧ p.stop = some ⟨20, 1⟩ ∧
    (p.active = false → p.start = some ⟨300, 1⟩) ∧ (call ⟨some 1, []⟩ s).table.sewSet = 1 ∧
    (((call ⟨some 1, []⟩ s).func.channels[(3 : Chan)]).pulse.map Pulse.heads) = some 3 := by decide
/-- `calling` COLOUR, the colour trim a function of one action on the sew set of the last turn. -/
def trimming (slack : Bool) : State :=
  let s := withPar .colourTrim 9 (calling .colour)
  { s with
    table := { s.table with sewSet := 1, sewTurn := some 1 }
    func := { s.func with bankA := s.func.bankA.set 9 ⟨.stopAfter, [⟨3, .pulse 0 180 0 250⟩], .sewing, slack⟩ } }
theorem test_meets_ACallAdvancesTheCursor_trim :
    (∀ b, (trimming b).inRun = true ∧ (trimming b).run.phase = some .sewing ∧ (trimming b).run.repair.active = false ∧
      (trimming b).shaft.motion = .turning ∧ (trimming b).shaft.quiet < (trimming b).nat .stopQuiet ∧
      (trimming b).callOutcome = .stop [(2, .colour)] .colour 2 false ∧ (trimming b).nat .colourTrim = (9 : Code).val ∧
      ((trimming b).func.entry 9).actions = [⟨3, .pulse 0 180 0 250⟩] ∧ (trimming b).angle = some 219 ∧
      ((trimming b).func.entry 9).slack = b ∧ (trimming b).table.sewTurn = some 1) ∧
    ((calling .colour).nat .colourTrim = 0 ∧ (calling .colour).callOutcome = .stop [(2, .colour)] .colour 2 false) := by decide
theorem test_meets_ACallAdvancesTheCursor_low_mark :
    (let s := { atMark with store := { atMark.store with endLoaded := false, lowArmed := true } }
     let left := s.store.fill - (call .nothing s).store.cursor
     s.store.isOpen = true ∧ left < s.nat .lowMark) ∧
    atMark.store.endLoaded = true := by decide
/-- Retention at the cursor, at a gap below the depth of the history, and below retire (R18). -/
theorem test_retention :
    (runRetention (withPar .histDepth 0 (armed .halted))).store.retire = 2 ∧
    (runRetention (withPar .histDepth 0 (withHead ⟨.isolated, .stop, false, none, [⟨1, none⟩], false⟩ (armed .halted)))).store.records =
      [.stitch 4 (-4), .stitch 5 6, .jump 1 1] ∧
    (runRetention (withPar .histDepth 1000 (armed .halted))).store.retire = 0 := by decide
theorem test_meets_ACallAdvancesTheCursor_stop :
    (sewing.callOutcome = .stop [] .needlePlan 2 false ∧ sewing.run.state = .running ∧ sewing.inRun = true ∧
      sewing.run.phase = some .sewing ∧ sewing.run.repair.active = false ∧ sewing.shaft.motion = .turning ∧
      sewing.shaft.quiet < sewing.nat .stopQuiet) ∧
    (let s := { atMark with planner := { atMark.planner with stopPoint := some ⟨.operator, some 1⟩ } }
     s.callOutcome = .stop [] .operator 2 true ∧ s.inRun = true) := by decide
theorem test_meets_ACallAdvancesTheCursor_cause :
    (let s := { atMark with needle := { atMark.needle with settled := some 1 } }
     s.callOutcome = .stop [] .needleLost 2 false ∧ s.planNeedle ≠ none ∧ s.planNeedle ≠ s.needle.settled) ∧
    ((calling .colour).callOutcome = .stop [(2, .colour)] .colour 2 false ∧
      (calling .colour).func.stopType .colour = some .colour ∧
      (calling .colour).planNeedle ≠ none ∧ (calling .colour).planNeedle = (calling .colour).needle.settled) ∧
    (let s := { atMark with store := { atMark.store with records := [.stitch 3 4, .stitch 4 (-4), .function 9], fill := 3 } }
     s.callOutcome = .stop [(2, .function 9)] .endRec 2 false ∧ s.store.endLoaded = true) ∧
    (let s := { atMark with store := { atMark.store with records := [.stitch 3 4, .stitch 4 (-4)], fill := 2, endLoaded := false } }
     s.callOutcome = .stop [] .data 2 false ∧ s.store.pendingRecords = []) := by decide
theorem test_meets_StopAndInjectActByRunState :
    (stopping.ready ∧ stopping.run.state = .stopping) ∧
    ((armed .halted).ready ∧ (armed .halted).run.state = .halted ∧ (armed .halted).run.slot = none) ∧
    (sewing.ready ∧ sewing.run.state = .running ∧ sewing.run.phase = some .sewing) ∧
    (63 < (64 : Byte).toNat ∧ (63 : Code).val = (63 : Byte).toNat ∧ calm.run.state ≠ .running ∧ sewing.run.inject = none) ∧
    ({ sewing with run := { sewing.run with inject := some 3 } } : State).run.inject ≠ none := by decide

/-- `armed` READY with a NEEDLE UP that turns the shaft. -/
def turningUp : State :=
  let s := withOp .needleUp none (armed .ready)
  { s with shaft := { s.shaft with motion := .turning, line := 200, brake := false, stall := some 0 } }
/-- `sewing` with the lookahead list of its turn 2 and the jump after it. -/
def listed : State :=
  { sewing with planner := { sewing.planner with
    lookahead := [⟨2, false, 20, 24, some 6000, 800, 800⟩, ⟨3, true, 4, 4, some 3000, 800, 120⟩] } }

theorem test_meets_StopAndInjectActByRunState_slot :
    (turningUp.ready ∧ turningUp.run.state = .ready ∧ turningUp.run.slot = some ⟨.needleUp, .host, 0, none, false⟩ ∧
      turningUp.shaft.motion = .turning ∧ turningUp.shaft.quiet < turningUp.nat .stopQuiet ∧ turningUp.shaft.brake = false) ∧
    (let s := withOp .frameOut none (withMove .frameOut ⟨1700, 800⟩ ⟨1607, 800⟩ 2400 0 (armed .ready))
     s.ready ∧ s.run.slot = some ⟨.frameOut, .host, 0, none, false⟩ ∧ s.frame.move ≠ none) ∧
    (let s := withOp .backtrack (some (.back 1)) (withMove .stepMove ⟨1003, 804⟩ ⟨1003, 804⟩ (-16) 16 (armed .halted))
     s.ready ∧ s.needle.change = none ∧ s.frame.move ≠ none) ∧
    (let s := withOp .repair (some (.back 1)) { armed .halted with frame := { (armed .halted).frame with dwell := some 3 } }
     s.ready ∧ s.needle.change = none ∧ s.frame.ownMove = none ∧ (late s).frame.ownMove = none ∧ s.frame.dwell = some 3) ∧
    (∀ k ∈ [(OpKind.needleSelect, ChangePurpose.select), (.colourChange, .colour), (.backtrack, .landing)],
      (changing k.1 k.2).ready ∧ (changing k.1 k.2).run.state = .halted ∧
      (changing k.1 k.2).needle.change = some ⟨k.2, 2, .host, 9, 9, 0⟩) ∧
    (let s := withOp .sensorTest none { calm with thread := { calm.thread with test := some ⟨1, Vector.replicate 12 0, 5⟩ } }
     s.ready ∧ s.run.state = .idle ∧ s.thread.test = some ⟨1, Vector.replicate 12 0, 5⟩) ∧
    (let s := withOp .channelTest none { calm with func := { calm.func with test := some ⟨3, 1, 100, 50⟩ } }
     s.ready ∧ s.run.state = .idle ∧ s.func.test = some ⟨3, 1, 100, 50⟩) := by decide
/-- A start at rest whose work in progress is this. -/
def starting (w : Work) : State :=
  let s := withMove .returnMove ⟨1007, 800⟩ ⟨1007, 800⟩ (-20) 0 (armed .running)
  { s with
    run := { s.run with phase := some .starting, work := some w }
    frame := if w = .returnMove then s.frame else { s.frame with move := none }
    needle := if w = .needle then { s.needle with request := true, change := some ⟨.start, 2, .host, 9, 9, 0⟩ } else s.needle }

theorem test_meets_StopAndInjectActByRunState_start :
    (∀ w ∈ [Work.returnMove, .sensorTest, .firstMove], (starting w).ready ∧ (starting w).run.state = .running ∧
      (starting w).run.phase = some .starting ∧ (starting w).shaft.motion = .stopped ∧ (starting w).run.work = some w ∧
      w ≠ .needle) ∧
    ((starting .needle).ready ∧ (starting .needle).run.state = .running ∧ (starting .needle).run.phase = some .starting ∧
      (starting .needle).shaft.motion = .stopped ∧ (starting .needle).run.work = some .needle ∧
      (starting .needle).needle.change = some ⟨.start, 2, .host, 9, 9, 0⟩) := by decide
theorem test_meets_StopAndInjectActByRunState_stop_point :
    (sewing.planner.lookahead = [] ∧ sewing.planner.stopPoint = none ∧ sewing.planner.freshAt ≠ some sewing.clock) ∧
    ({ listed with planner := { listed.planner with freshAt := some listed.clock } } : State).planner.freshAt = some listed.clock ∧
    (listed.ready ∧ listed.run.state = .running ∧ listed.run.phase = some .sewing ∧ listed.planner.freshAt ≠ some listed.clock ∧
      0 < listed.nat .rampDown ∧ listed.planner.demand ≤ listed.nat .speedStopEntry + 5 * listed.nat .rampDown ∧
      listed.nat .speedStopEntry + (5 - 1) * listed.nat .rampDown < listed.planner.demand ∧
      listed.planner.lookahead.getLast? ≠ none ∧ listed.planner.lookahead[(5 : Nat)]? = none) ∧
    (let s := { listed with planner := { listed.planner with demand := 160, stopPoint := some ⟨.operator, some 3⟩ } }
     160 ≤ s.nat .speedStopEntry + 1 * s.nat .rampDown ∧ s.nat .speedStopEntry + (1 - 1) * s.nat .rampDown < 160 ∧
     s.planner.lookahead[(1 : Nat)]?.map Entry.index = some 3 ∧ s.planner.stopPoint = some ⟨.operator, some 3⟩) ∧
    (let s := { listed with planner := { listed.planner with demand := 120 } }
     s.planner.demand ≤ s.nat .speedStopEntry + 0 * s.nat .rampDown ∧ s.planner.lookahead[(0 : Nat)]?.map Entry.index = some 2) := by
  decide

/-- `armed` LOCKED with ESTOP on record. -/
def locked : State :=
  { armed .locked with run := { (armed .locked).run with report := { StopReport.empty with primary := some ⟨.estop, 0, 0⟩ } } }

theorem test_meets_ClearEndsALock :
    (calm.ready ∧ calm.run.state ≠ .locked) ∧
    (locked.ready ∧ locked.run.state = .locked ∧
      ((locked.run.report.primary.toList ++ locked.run.report.secondary).any fun r => decide (r.cause = .store)) = false ∧
      locked.pins.estop = false ∧ locked.pins.driveReady = true ∧ locked.pins.driveFault = false ∧ locked.shaft.motion = .stopped) ∧
    (let s := { locked with pins := { locked.pins with estop := true } }
     s.ready ∧ s.run.state = .locked ∧ ¬ (s.pins.estop = false ∧ s.pins.driveReady = true ∧ s.pins.driveFault = false)) ∧
    (let s := { locked with shaft := { locked.shaft with motion := .turning } }
     s.ready ∧ s.run.state = .locked ∧ s.shaft.motion = .turning) := by decide

/-! #### Operations -/

theorem test_meets_OperationsShareTheirChecks :
    (sewing.ready ∧ sewing.inRun = true ∧ sewing.run.state ≠ .ready ∧ sewing.run.state ≠ .halted) ∧
    (let s := withOp .home none (armed .halted)
     s.ready ∧ s.inRun = false ∧ s.run.state = .halted ∧ s.run.slot ≠ none) ∧
    ((1 : Half) ≠ 0 ∧ -32000 ≤ (-32000 : Half).toInt ∧ (32000 : Half).toInt ≤ 32000) := by decide

/-- `armed` HALTED in a repair that is to resume at 4. -/
def repairing : State := { armed .halted with run := { (armed .halted).run with repair := ⟨true, 1, 4⟩ } }
/-- `armed` HALTED with head 1 in this state with these gaps, its sensor and its latched fault. -/
def headed (st : HeadState) (gaps : List Gap) (v : SensorStatus) (f : Option FaultRecord) : State :=
  let s := withHead ⟨st, .stop, false, none, gaps, false⟩ (armed .halted)
  { s with thread := { s.thread with monitors := s.thread.monitors.set 0 { Monitor.reset with sensor := v, fault := f } } }

theorem test_meets_OperationsShareTheirChecks_repair :
    (¬ (4096 : Half).toNat < 4096 ∧ (1 : Half).toNat < 4096 ∧ (1 : Half) ≠ 0 ∧ calm.fitted 0 = true ∧
      (2 : Half).getLsbD 1 = true ∧ calm.fitted 1 = false) ∧
    ((armed .halted).ready ∧ (armed .ready).run.state = .ready ∧ calm.run.state = .idle ∧
      (withOp .home none (armed .halted)).run.slot ≠ none ∧ repairing.run.repair.active = true ∧ (down .halted).restsUp = false ∧
      out.frame.offset ≠ .zero) ∧
    (∀ s ∈ [headed .active [] .passed none, headed .disabled [⟨0, none⟩] .passed none, headed .faulted [⟨0, none⟩] .passed none,
        headed .active [⟨0, none⟩] .failed none, headed .active [⟨0, none⟩] .passed (some ⟨.bobbin, 0, 0, 0, .run⟩),
        headed .isolated [⟨0, none⟩] .passed none],
      s.ready ∧ s.run.state = .halted ∧ s.run.slot = none ∧ s.run.repair.active = false ∧ s.restsUp = true ∧
      s.frame.offset = .zero ∧ s.frame.ref = .referenced) ∧
    (∀ k : Head, ¬ k < 0) ∧
    ((headed .active [] .passed none).head 0).gaps.isEmpty = true ∧
    ({ headed .isolated [⟨0, none⟩] .passed none with planner := Planner.reset } : State).shortTable = some 254 ∧
    ({ armed .halted with planner := { Planner.reset with tableX := some tableX } } : State).shortTable = some 255 ∧
    ({ armed .halted with frame := Frame.reset } : State).frame.ref ≠ .referenced := by decide
theorem test_meets_OperationsShareTheirChecks_others :
    ((1 : Half) ≠ 0 ∧ repairing.run.repair.active = true ∧ (armed .halted).run.repair.active = false ∧
      (armed .halted).run.slot = none ∧ (armed .halted).restsUp = true ∧ (armed .halted).frame.offset = .zero) ∧
    (let s := { repairing with frame := { repairing.frame with ref := .unreferenced } }
     s.ready ∧ s.run.state = .halted ∧ s.run.repair.active = true ∧ s.restsUp = true ∧ s.frame.ref ≠ .referenced) ∧
    (let s := { repairing with planner := Planner.reset }
     s.frame.ref = .referenced ∧ s.shortTable = some 254) ∧
    ((down .ready).ready ∧ (down .ready).run.slot = none ∧ (down .ready).restsUp = false ∧ (down .ready).inRun = false) ∧
    ((-32001 : Half).toInt < -32000 ∧ 32000 < (32001 : Half).toInt ∧ ¬ 32000 < (32000 : Half).toInt) ∧
    (let s := { armed .idle with planner := Planner.reset }
     s.ready ∧ s.run.slot = none ∧ s.inRun = false ∧ s.run.state ≠ .locked ∧ s.restsUp = true ∧ s.shortTable = some 254) := by decide

/-- `armed` HALTED with head 1 ISOLATED, a gap of its own and a sensor that has passed. -/
def gapped : State :=
  let s := withHead ⟨.isolated, .isolate, false, none, [⟨0, none⟩], false⟩ (armed .halted)
  { s with thread := { s.thread with monitors := s.thread.monitors.set 0 { Monitor.reset with sensor := .passed } } }

theorem test_meets_StepwiseOperationsBegin :
    (let s := armed .halted
     s.ready ∧ s.run.slot = none ∧ s.restsUp = true ∧ s.frame.offset = .zero ∧ s.frame.ref = .referenced ∧ s.shortTable = none ∧
     (1 : Half) ≠ 0 ∧ s.run.state = .halted ∧ s.run.repair.active = false ∧ s.store.retire < s.store.cursor ∧
     s.store.records[s.store.cursor - 1 - s.store.retire]? = some (.stitch 4 (-4)) ∧ (Rec.stitch 4 (-4)).move = some ⟨4, -4⟩ ∧
     s.settledFrame.coord ≠ s.designPoint.sub ⟨4, -4⟩ ∧ (late s).settledFrame.coord ≠ (late s).designPoint.sub ⟨4, -4⟩) := by
  decide
theorem test_meets_StepwiseOperationsBegin_repair :
    (let s := gapped
     s.ready ∧ s.run.slot = none ∧ s.restsUp = true ∧ s.frame.offset = .zero ∧ s.frame.ref = .referenced ∧ s.shortTable = none ∧
     (1 : Half).toNat < 4096 ∧ (1 : Half) ≠ 0 ∧ s.run.state = .halted ∧ s.run.repair.active = false) ∧
    ∀ h : Head, (1 : Half).getLsbD h.val = true → gapped.fitted h = true ∧ (gapped.head h).gaps ≠ [] ∧
      ((gapped.head h).state = .active ∨ (gapped.head h).state = .isolated) ∧ (gapped.monitor h).sensor ≠ .failed ∧
      (gapped.monitor h).fault = none := by decide
/-- HALTED with head 1 ISOLATED, its open gap begun at the cursor, which its closing removes. -/
def emptied (s : State) : State :=
  let s := withHead ⟨.isolated, .isolate, false, none, [⟨2, none⟩], false⟩ s
  { s with thread := gapped.thread }
theorem test_meets_StepwiseOperationsBegin_rewind :
    (∀ s ∈ [gapped, late gapped, { gapped with run := { gapped.run with state := .ready } }],
      let t := left (exec (.repair 1 1) s)
      s.ready ∧ (s.run.state = .ready ∨ s.run.state = .halted) ∧
      (∀ h : Head, (1 : Half).getLsbD h.val = true → (t.head h).gaps.head? = some ⟨0, some 2⟩) ∧
      0 < s.store.cursor ∧ s.store.retire < s.store.cursor ∧
      s.store.records[s.store.cursor - 1 - s.store.retire]? = some (.stitch 4 (-4)) ∧ (Rec.stitch 4 (-4)).move = some ⟨4, -4⟩ ∧
      s.settledFrame.coord ≠ s.designPoint.sub ⟨4, -4⟩) ∧
    (∀ s ∈ [emptied (armed .halted), emptied threaded, emptied (planned .halted)],
      s.ready ∧ s.run.slot = none ∧ s.restsUp = true ∧ s.shortTable = none ∧ s.run.repair.active = false ∧
      (∀ h : Head, (1 : Half).getLsbD h.val = true → (s.head h).gaps ≠ [] ∧ (s.head h).state = .isolated ∧
        (s.monitor h).sensor ≠ .failed ∧ (s.monitor h).fault = none ∧
        ((left (exec (.repair 1 1) s)).head h).gaps.head? = none)) ∧
    ((emptied (armed .halted)).planNeedle = none ∧
      (emptied threaded).planNeedle = (emptied threaded).needle.settled ∧
      (emptied (planned .halted)).planNeedle = some 2 ∧ (emptied (planned .halted)).needle.settled ≠ some 2) := by decide
/-- An accepted REPAIR closes the open gap at the cursor and crosses the turn below it (R166, R171, R172). -/
theorem test_repair_rewinds :
    ((left (exec (.repair 1 1) gapped)).head 0).gaps = [⟨0, some 2⟩] ∧ (left (exec (.repair 1 1) gapped)).store.cursor = 1 := by
  decide
theorem test_meets_StepwiseOperationsBegin_abandon :
    (let s := repairing
     s.ready ∧ s.run.slot = none ∧ s.restsUp = true ∧ s.frame.offset = .zero ∧ s.frame.ref = .referenced ∧ s.shortTable = none ∧
     s.run.state = .halted ∧ s.run.repair.active = true ∧ s.store.cursor < s.run.repair.resume ∧ s.store.cursor < s.store.fill ∧
     s.store.records[s.store.cursor - s.store.retire]? = some (.stitch 5 6) ∧ (Rec.stitch 5 6).move = some ⟨5, 6⟩ ∧
     s.settledFrame.coord ≠ s.designPoint.add ⟨5, 6⟩) := by decide
theorem test_meets_FrameOperationsBegin :
    (0 < (40 : Int) ∧ (1007 : Int) ≤ 1700 ∧ (800 : Int) ≤ 1700 ∧ chunkEnd 40 1007 1700 2400 = 1607 ∧
      chunkEnd 40 1007 1010 2400 = 1010 ∧ chunkEnd 40 1007 0 2400 = 407) ∧
    (let s := armed .ready
     s.ready ∧ s.run.slot = none ∧ s.restsUp = true ∧ s.shortTable = none ∧ s.run.state = .ready ∧ s.frame.ref = .referenced ∧
     -32000 ≤ (-32000 : Half).toInt ∧ (32000 : Half).toInt ≤ 32000 ∧
     s.settledFrame.coord ≠ ⟨max (s.par .limitXMin) (min (1007 + 0 + 32000) (s.par .limitXMax)), 800⟩ ∧ s.designPoint = ⟨1007, 800⟩) ∧
    (out.ready ∧ out.run.slot = none ∧ out.restsUp = true ∧ out.shortTable = none ∧ out.run.state = .ready ∧
      out.frame.ref = .referenced ∧ out.settledFrame.coord ≠ out.designPoint) ∧
    (∃ m, (late out).frame.move = some m ∧ m.purpose = .turnMove ∧ (late out).settledFrame.coord = m.target) ∧
    (∀ m, out.frame.move = some m → m.purpose ≠ .turnMove) :=
  ⟨by decide, by decide, by decide, ⟨_, rfl, by decide, by decide⟩, by intro m h; cases h⟩
/-- A late turn move completes before FRAME RETURN begins its own: with it the step position is the frame's (R60). -/
theorem test_late_move_completes_first :
    (left (exec (.frameReturn 1) (late (armed .ready)))).frame.stepX = 3 ∧
    (left (exec (.frameReturn 1) (late (armed .ready)))).frame.move.map Move.purpose = some .returnMove ∧
    (left (exec (.frameReturn 1) (late (armed .ready)))).frame.coord = ⟨1012, 806⟩ := by decide
/-- A STOP in the dwell of a BACKTRACK ends it though a late turn move is in progress (R80, R103). -/
theorem test_stop_in_a_dwell_under_a_late_move :
    let s := withOp .backtrack (some (.back 1)) (late (armed .halted))
    (left (exec (.stop 1) { s with frame := { s.frame with dwell := some 3 } })).run.slot = none := by decide

/-- The record of a HOME on its way along Y. -/
def homingY : Homing := ⟨.y, false, false, 0, 8, 0, 0, 26400, 17600, 800, 800, true⟩
/-- The record of a HOME from IDLE in its last back-off. -/
def homingX : Homing := ⟨.x, true, false, 40, 40, 3, 4, 26400, 17600, 800, 800, false⟩

theorem test_meets_MovesAreCompleted :
    (let s := withMove .turnMove ⟨1012, 806⟩ ⟨1012, 806⟩ 20 24 sewing
     s.awake ∧ s.frame.move = some ⟨.turnMove, ⟨1012, 806⟩, ⟨1012, 806⟩, 20, 24, none, false, none⟩) ∧
    (let s := withOp .frameOut none (withMove .frameOut ⟨1700, 800⟩ ⟨1607, 800⟩ 2400 0 (armed .ready))
     s.awake ∧ s.run.slot = some ⟨.frameOut, .host, 0, none, false⟩ ∧ (⟨1607, 800⟩ : Pt) ≠ ⟨1700, 800⟩) ∧
    (let s := withOp .frameOut none (withMove .frameOut ⟨1607, 800⟩ ⟨1607, 800⟩ 2400 0 (armed .ready))
     s.awake ∧ s.frame.move = some ⟨.frameOut, ⟨1607, 800⟩, ⟨1607, 800⟩, 2400, 0, none, false, none⟩ ∧
     s.run.slot = some ⟨.frameOut, .host, 0, none, false⟩) ∧
    (let s := withMove .firstMove ⟨1012, 806⟩ ⟨1012, 806⟩ 20 24 (armed .running)
     let s := { s with planner := { s.planner with demand := 250, held := true } }
     s.awake ∧ s.run.state = .running ∧ s.planner.held = true ∧ s.link.restart = .none ∧ s.shaft.line = 0 ∧ 0 < s.planner.demand) ∧
    (let s := withMove .firstMove ⟨1012, 806⟩ ⟨1012, 806⟩ 20 24 (armed .stopping)
     let s := { s with run := { s.run with
       phase := some .starting, kind := some .controlled, work := some .firstMove, rested := some ⟨some 350, .onPosition, true, 0⟩ } }
     s.awake ∧ s.run.state = .stopping ∧ s.run.phase = some .starting ∧ s.run.kind ≠ some .emergency ∧
     s.run.report.primary.map Recorded.cause ≠ some .colour ∧ s.run.rested = some ⟨some 350, .onPosition, true, 0⟩) ∧
    (let s := withMove .stepMove ⟨1003, 804⟩ ⟨1003, 804⟩ (-16) 16 (armed .halted)
     s.awake ∧ s.frame.move = some ⟨.stepMove, ⟨1003, 804⟩, ⟨1003, 804⟩, -16, 16, none, false, none⟩ ∧ 0 < s.nat .backDwell) ∧
    (let s := withMove .homingSearch .zero .zero 0 (-4) calm
     let s := { s with frame := { s.frame with homing := some homingY } }
     s.awake ∧ s.frame.homing = some homingY ∧ homingY.searchY + ceilDiv (s.par .pitchY).toNat 10 < homingY.budgetY) ∧
    (let s := withOp .home none (withMove .homingBackOff .zero .zero 1 0 calm)
     let s := { s with frame := { s.frame with homing := some homingX } }
     s.awake ∧ s.frame.homing = some homingX ∧ homingX.toDesign = false ∧ s.run.slot = some ⟨.home, .host, 0, none, false⟩) ∧
    (calm.awake ∧ calm.frame.move = none) ∧
    (let s := withOp .backtrack (some (.back 0)) { threaded with frame := { threaded.frame with dwell := some 0 } }
     s.awake ∧ s.frame.dwell = some 0 ∧ s.run.slot = some ⟨.backtrack, .host, 0, some (.back 0), false⟩ ∧
     s.planNeedle = some 2 ∧ s.needle.settled = some 2) := by decide

/-- A move toward the design point that is to go no further. -/
def cutShort (p : Purpose) (chunk : Pt) (who : AbortBy) (s : State) : State :=
  { s with frame := { s.frame with move := some ⟨p, ⟨1007, 800⟩, chunk, 3, 0, none, false, some who⟩ } }
/-- A start in RUNNING or STOPPING whose work in progress is a return move that reaches the design point. -/
def returning (r : RunState) (s : State) : State :=
  let s := withMove .returnMove ⟨1007, 800⟩ ⟨1007, 800⟩ (-20) 0 s
  { s with run := { s.run with
    state := r, phase := some .starting, work := some .returnMove, kind := some .controlled
    rested := some ⟨some 350, .onPosition, true, 0⟩ } }
/-- A HOME in READY with its record as given, and this move being made. -/
def homing (h : Homing) (p : Purpose) : State :=
  let s := withOp .home none (withMove p ⟨1007, 800⟩ ⟨1007, 800⟩ 0 (-4) (armed .ready))
  { s with frame := { s.frame with homing := some h } }

theorem test_meets_MovesAreCompleted_chunks :
    (∀ p ∈ [Purpose.frameOut, .returnMove, .homingEnd, .stepMove, .firstMove],
      let s := withMove p ⟨1700, 800⟩ ⟨1607, 800⟩ 2400 0 (armed .ready)
      s.awake ∧ (s.frame.move.map Move.purpose) = some p ∧ (s.frame.move.map Move.abort) = some none) ∧
    (∀ p ∈ [Purpose.stepMove, .firstMove],
      let s := cutShort p ⟨1004, 800⟩ .stop (armed .halted)
      s.awake ∧ s.frame.move = some ⟨p, ⟨1007, 800⟩, ⟨1004, 800⟩, 3, 0, none, false, some .stop⟩) ∧
    (∀ k ∈ [(Purpose.frameOut, OpKind.frameOut), (.returnMove, .frameReturn), (.stepMove, .backtrack), (.homingEnd, .home)],
      let s := withOp k.2 none (cutShort k.1 ⟨1007, 800⟩ .needleDown (armed .halted))
      s.awake ∧ s.run.work ≠ some .returnMove ∧ s.run.slot = some ⟨k.2, .host, 0, none, false⟩ ∧
      s.frame.move = some ⟨k.1, ⟨1007, 800⟩, ⟨1007, 800⟩, 3, 0, none, false, some .needleDown⟩) := by decide
theorem test_meets_MovesAreCompleted_return :
    (∀ s ∈ [returning .running (untested .ready), returning .running (planned .ready), returning .running threaded],
      s.awake ∧ s.run.state = .running ∧ s.run.work = some .returnMove ∧ s.restsUp = true ∧
      s.frame.move = some ⟨.returnMove, ⟨1007, 800⟩, ⟨1007, 800⟩, -20, 0, none, false, none⟩ ∧ s.designPoint = ⟨1007, 800⟩) ∧
    (returning .running (untested .ready)).untested ≠ 0 ∧
    ((returning .running (planned .ready)).untested = 0 ∧ (returning .running (planned .ready)).planNeedle = some 2 ∧
      (returning .running (planned .ready)).needle.settled ≠ some 2) ∧
    ((returning .running threaded).untested = 0 ∧ (returning .running threaded).needle.settled = some 2) ∧
    (let s := cutShort .returnMove ⟨1010, 800⟩ .needleDown (returning .running (armed .ready))
     s.awake ∧ s.run.state = .running ∧ s.run.phase = some .starting ∧ s.shaft.motion = .stopped ∧
     (⟨1010, 800⟩ : Pt) ≠ s.designPoint ∧ s.designPoint = ⟨1007, 800⟩) ∧
    (∀ s ∈ [returning .stopping (armed .ready), cutShort .returnMove ⟨1010, 800⟩ .stop (returning .stopping (armed .ready)),
        cutShort .returnMove ⟨1007, 800⟩ .needleDown (returning .stopping (armed .ready))],
      s.awake ∧ s.run.state = .stopping ∧ s.run.phase = some .starting ∧ s.run.kind ≠ some .emergency ∧
      s.run.rested = some ⟨some 350, .onPosition, true, 0⟩ ∧ s.run.report.primary.map Recorded.cause ≠ some .colour) := by decide
/-- A return cut short in a start is the cause MOVE_LATE, and the start ends (R88). -/
theorem test_return_cut_short :
    (left (exec (.chunkComplete []) (cutShort .returnMove ⟨1010, 800⟩ .needleDown (returning .running (armed .ready))))).run.report.primary
      = some ⟨.moveLate, 2, 0⟩ := by decide
theorem test_meets_MovesAreCompleted_home :
    (∀ p ∈ [Purpose.homingSearch, .homingBackOff], (homing homingY p).awake ∧ homingY.atEnd = false ∧ homingX.atEnd = false ∧
      (homing homingY p).run.slot = some ⟨.home, .host, 0, none, false⟩) ∧
    (let s := withOp .home none (cutShort .homingSearch .zero .stop (armed .ready))
     let s := { s with frame := { s.frame with homing := some homingY } }
     s.awake ∧ s.run.slot = some ⟨.home, .host, 0, none, false⟩ ∧
     s.frame.move = some ⟨.homingSearch, ⟨1007, 800⟩, .zero, 3, 0, none, false, some .stop⟩) ∧
    (∀ h ∈ [{ homingY with searchY := 17596 }, { homingX with axis := .y, backY := 799 }, { homingX with backX := 799 },
        { homingX with backOff := false, searchX := 26396 }],
      let s := homing h .homingSearch
      s.awake ∧ s.frame.homing = some h ∧ h.atEnd = false ∧ s.run.slot = some ⟨.home, .host, 0, none, false⟩ ∧
      (h.counted (if h.backOff then 1 else s.searchSteps h.axis)).spent = true) ∧
    (homingX.backX + 1 < homingX.backLimitX ∧ homingY.backOff = false ∧ { homingX with axis := .y }.backOff = true) ∧
    (let s := homing { homingX with toDesign := true } .homingBackOff
     s.designPoint ≠ ⟨s.par .refX, s.par .refY⟩) ∧
    (let s := homing { homingX with toDesign := true } .homingBackOff
     let s := { s with store := { s.store with origin := ⟨-57, -50⟩ } }
     s.designPoint = ⟨s.par .refX, s.par .refY⟩ ∧ s.run.slot ≠ none) ∧
    (let s := homing { homingX with atEnd := true } .homingEnd
     s.awake ∧ s.run.slot = some ⟨.home, .host, 0, none, false⟩) := by decide
/-- Eight closed gaps. -/
def eightGaps : List Gap := [0, 2, 4, 6, 8, 10, 12, 14].map fun a => ⟨a, some (a + 1)⟩
/-- The dwell of a stepwise operation that goes this way. -/
def dwelling (k : OpKind) (g : Goal) (s : State) : State :=
  withOp k (some g) { s with frame := { s.frame with dwell := some 0 } }
/-- A state with these records stored. -/
def storing (l : List Rec) (s : State) : State := { s with store := { s.store with records := l } }
/-- The three answers of a landing: an empty plan entry, the planned needle in place, another needle in place. -/
def landings : List State := [armed .halted, onNeedleTwo (armed .halted), planned .halted]

theorem test_meets_MovesAreCompleted_dwell :
    (∀ s ∈ landings, ∀ k ∈ [(OpKind.backtrack, Goal.back 0), (.repair, .downTo 2), (.repairAbandon, .upTo 2)],
      let s := dwelling k.1 k.2 s
      s.awake ∧ s.frame.dwell = some 0 ∧ s.run.slot = some ⟨k.1, .host, 0, some k.2, false⟩ ∧ s.run.state = .halted ∧
      s.store.retire ≤ s.store.cursor ∧ s.store.cursor ≤ max 2 s.store.retire ∧ min 2 s.store.fill ≤ s.store.cursor) ∧
    (armed .halted).planNeedle = none ∧ (onNeedleTwo (armed .halted)).planNeedle = some 2 ∧
    (onNeedleTwo (armed .halted)).needle.settled = some 2 ∧ (planned .halted).planNeedle = some 2 ∧
    (planned .halted).needle.settled ≠ some 2 ∧
    (∀ s ∈ [armed .halted, storing [.stitch 4 (-4), .colour, .stitch 5 6, .colour] (armed .halted)],
      ∃ i < 2, ∃ r d, s.store.records[i - s.store.retire]? = some r ∧ r.move = some d ∧ s.store.retire ≤ i ∧ i < s.store.cursor ∧
      ∀ x ∈ (s.store.records.take (s.store.cursor - s.store.retire)).drop (i + 1 - s.store.retire), x.move = none) ∧
    (∀ s ∈ [armed .halted, storing [.stitch 3 4, .stitch 4 (-4), .colour, .jump 1 1] (armed .halted)],
      ∃ i < 4, ∃ r d, s.store.records[i - s.store.retire]? = some r ∧ r.move = some d ∧ s.store.cursor ≤ i ∧ i < min 4 s.store.fill ∧
      ∀ x ∈ (s.store.records.take (i - s.store.retire)).drop (s.store.cursor - s.store.retire), x.move = none) ∧
    (let s := storing [.colour, .function 9, .colour, .function 9] (armed .halted)
     s.store.retire < s.store.cursor ∧ s.store.cursor < min 4 s.store.fill ∧ ∀ x ∈ s.store.records, x.move = none) :=
  ⟨by decide, by decide, by decide, by decide, by decide, by decide,
    by
      intro s h
      fin_cases h
      · exact ⟨1, by decide, .stitch 4 (-4), ⟨4, -4⟩, by decide⟩
      · exact ⟨0, by decide, .stitch 4 (-4), ⟨4, -4⟩, by decide⟩,
    by
      intro s h
      fin_cases h
      · exact ⟨2, by decide, .stitch 5 6, ⟨5, 6⟩, by decide⟩
      · exact ⟨3, by decide, .jump 1 1, ⟨1, 1⟩, by decide⟩,
    by decide⟩
theorem test_meets_MovesAreCompleted_next_step :
    (let s := dwelling .backtrack (.back 1) (armed .halted)
     s.shaft.needleUp = true ∧ s.settledFrame.coord ≠ ⟨1003, 804⟩ ∧ s.designPoint.sub ⟨4, -4⟩ = ⟨1003, 804⟩ ∧ 0 < s.nat .backDwell) ∧
    (let s := dwelling .backtrack (.back 1) (armed .halted)
     { s with frame := { s.frame with coord := ⟨1003, 804⟩ } }.settledFrame.coord = ⟨1003, 804⟩) ∧
    (dwelling .repair (.downTo 0) (down .halted)).shaft.needleUp = false ∧
    (let s := withPar .backDwell 0 (withMove .stepMove ⟨1003, 804⟩ ⟨1003, 804⟩ (-16) 16 (armed .halted))
     s.awake ∧ s.frame.move = some ⟨.stepMove, ⟨1003, 804⟩, ⟨1003, 804⟩, -16, 16, none, false, none⟩ ∧ s.nat .backDwell = 0 ∧
     s.frame.dwell = none) := by decide
/-- The heads at the end of a repair: none opens a gap, one does, and one finds its list full (R176). -/
theorem test_meets_MovesAreCompleted_repair_end :
    (∀ e ∈ [(⟨.isolated, .isolate, false, none, [], false⟩ : HeadEntry), ⟨.isolated, .isolate, false, none, eightGaps, false⟩],
      let s := dwelling .repairAbandon (.upTo 2) (withHead e { repairing with run := { repairing.run with repair := ⟨true, 1, 20⟩ } })
      s.awake ∧ s.run.state = .halted ∧ s.fitted 0 = true ∧ hasOpenGap (s.head 0).gaps = false ∧
      (openGapAt (max s.run.repair.resume s.store.retire) (s.head 0).gaps).isNone = decide (e.gaps = eightGaps)) ∧
    (dwelling .repairAbandon (.upTo 2) repairing).awake := by decide
/-- The next step of a BACKTRACK begins at the end of its dwell (R79), and its landing goes to the planned needle (R137). -/
theorem test_dwell_expiry :
    (left (exec .dwellExpiry (dwelling .backtrack (.back 1) (armed .halted)))).store.cursor = 1 ∧
    ((left (exec .dwellExpiry (dwelling .backtrack (.back 0) (planned .halted)))).needle.change.map NeedleChange.target) = some 2 := by
  decide
/-- A search that has used its budget ends HOME FAILED: its OP_DONE has the result 1 (R72, R73). -/
theorem test_home_fails_at_its_budget :
    ((left (exec (.homingStepComplete false false) (busyLine (homing { homingY with searchY := 17596 } .homingSearch)))).notices.sources[
      srcOpDone].detail.take 3) = [1, 0, 1] := by decide

/-! #### The needle bar and the tests -/

theorem test_meets_NeedleOperationsBegin :
    (calm.ready ∧ calm.run.slot = none ∧ calm.run.state = .idle ∧ calm.driveIsReady = false) ∧
    (let s := armed .ready
     s.ready ∧ s.run.slot = none ∧ s.driveIsReady = true ∧ s.restsUp = true ∧ (1 : Byte).toNat ≤ s.nat .needles ∧
     s.inRun = false ∧ s.run.state ≠ .locked ∧ s.needle.settled ≠ some (1 : Byte).toNat ∧ (15 : Byte).toNat ≤ s.nat .needles ∧
     s.nat .needles < (16 : Byte).toNat) ∧
    (let s := down .ready
     s.ready ∧ s.run.slot = none ∧ s.driveIsReady = true ∧ s.restsUp = false ∧ s.shaft.line = 0 ∧ 0 < s.nat .speedMin) ∧
    (threaded.ready ∧ threaded.restsUp = true ∧ threaded.needle.settled = some (2 : Byte).toNat ∧ threaded.inRun = false ∧
      threaded.run.slot = none) ∧
    (sewing.ready ∧ sewing.inRun = true) ∧
    ((withOp .home none calm).ready ∧ (withOp .home none calm).inRun = false ∧ (withOp .home none calm).run.slot ≠ none) := by decide

/-- A NEEDLE SELECT of needle 2 waits for its reading, which stands on the input. -/
def selecting : State :=
  let s := withOp .needleSelect none (armed .ready)
  { s with
    pins := { s.pins with needle := 2 }
    needle := { s.needle with settle := some 0, target := 2, request := true, change := some ⟨.select, 2, .host, 0, 3000, 0⟩ } }
/-- `sewing` with needle 2 gone and the away timer run out. -/
def astray : State := { sewing with needle := { sewing.needle with watch := some ⟨2, some 0⟩ } }

theorem test_meets_TheNeedleBarFollowsItsInput :
    (calm.awake ∧ (15 : BitVec 4) ≠ calm.pins.needle ∧ (0 : BitVec 4) = calm.pins.needle ∧ calm.needle.watch = none ∧
      calm.needle.settle = none ∧ calm.needle.change = none ∧ calm.needle.watch.bind LostWatch.away = none) ∧
    (let s := { sewing with pins := { sewing.pins with needle := 2 }, needle := { sewing.needle with watch := some ⟨2, none⟩ } }
     s.awake ∧ s.needle.watch = some ⟨2, none⟩ ∧ s.pins.needle.toNat = 2) ∧
    (astray.awake ∧ astray.needle.watch = some ⟨2, some 0⟩ ∧ astray.pins.needle.toNat ≠ 2 ∧ (2 : BitVec 4).toNat = 2 ∧
      astray.run.state = .running ∧ astray.run.phase = some .sewing ∧ astray.shaft.motion = .turning ∧
      astray.shaft.waiting = none ∧ astray.shaft.quiet < astray.nat .stopQuiet) ∧
    (selecting.awake ∧ selecting.needle.settle ≠ none ∧ 1 ≤ selecting.pins.needle.toNat ∧
      selecting.pins.needle.toNat ≤ selecting.nat .needles ∧ selecting.needle.change = some ⟨.select, 2, .host, 0, 3000, 0⟩ ∧
      2 = selecting.pins.needle.toNat ∧ selecting.run.slot = some ⟨.needleSelect, .host, 0, none, false⟩) ∧
    (let s := { selecting with needle := { selecting.needle with change := none } }
     s.awake ∧ s.needle.settle ≠ none ∧ s.needle.change = none) := by decide

/-- A change of this purpose waits for needle 2, which stands on the input. -/
def settling (k : OpKind) (p : ChangePurpose) : State :=
  let s := changing k p
  { s with pins := { s.pins with needle := 2 }, needle := { s.needle with settle := some 0 } }

theorem test_meets_TheNeedleBarFollowsItsInput_purposes :
    (∀ k ∈ [(OpKind.colourChange, ChangePurpose.colour), (.backtrack, .landing)],
      let s := settling k.1 k.2
      s.awake ∧ s.needle.settle ≠ none ∧ 1 ≤ s.pins.needle.toNat ∧ s.pins.needle.toNat ≤ s.nat .needles ∧
      s.needle.change = some ⟨k.2, 2, .host, 9, 9, 0⟩ ∧ 2 = s.pins.needle.toNat ∧
      s.run.slot = some ⟨k.1, .host, 0, none, false⟩) ∧
    (let s := { starting .needle with
       pins := { (armed .ready).pins with needle := 2 }, needle := { (starting .needle).needle with settle := some 0 } }
     s.awake ∧ s.needle.settle ≠ none ∧ s.needle.change = some ⟨.start, 2, .host, 9, 9, 0⟩ ∧ 2 = s.pins.needle.toNat ∧
     s.run.state = .running) ∧
    ((starting .needle).awake ∧ (starting .needle).run.phase = some .starting ∧
      (starting .needle).shaft.motion = .stopped) ∧
    (let s := { settling .colourChange .colour with pins := { (armed .ready).pins with needle := 3 } }
     2 ≠ s.pins.needle.toNat ∧ s.needle.settle ≠ none) := by decide

/-- A SENSOR TEST of head 1 at its end. -/
def measuring : State :=
  withOp .sensorTest none { calm with thread := { calm.thread with testLoad := 1, test := some ⟨1, Vector.replicate 12 0, 0⟩ } }

theorem test_meets_TestsRunAndEnd :
    (calm.ready ∧ (1 : Half).toNat < 4096 ∧ (1 : Half) ≠ 0 ∧ (∀ h : Head, (1 : Half).getLsbD h.val = true → calm.fitted h = true) ∧
      calm.inRun = false ∧ calm.run.state ≠ .locked ∧ calm.run.slot = none ∧ calm.shaft.motion = .stopped ∧
      ¬ (2 : Half).getLsbD 0 = true) ∧
    (measuring.awake ∧ measuring.thread.test = some ⟨1, Vector.replicate 12 0, 0⟩ ∧ measuring.run.work ≠ some .sensorTest ∧
      measuring.run.slot = some ⟨.sensorTest, .host, 0, none, false⟩ ∧ inSet 1 0 = true ∧ inSet 1 1 = false) ∧
    (let m := measuring.nat
     (0 : BitVec 10).toNat ≤ m .sensorIdleMax ∧ ¬ (1023 : BitVec 10).toNat ≤ m .sensorIdleMax ∧
     m .sensorRefLo ≤ (500 : BitVec 10).toNat ∧ (500 : BitVec 10).toNat ≤ m .sensorRefHi ∧
     ¬ (1023 : BitVec 10).toNat ≤ m .sensorRefHi ∧ allHeads.filter (inSet 1) = [0]) ∧
    ((11 : Chan).val = (11 : Byte).toNat ∧ 11 < (12 : Byte).toNat ∧ 1 ≤ (1 : Half).toNat ∧ (2000 : Half).toNat ≤ 2000 ∧
      calm.func.channels[(11 : Chan)].type ≠ .perHead) ∧
    (testing.awake ∧ testing.func.test = some ⟨3, 1, 100, 50⟩ ∧
      testing.run.slot = some ⟨.channelTest, .host, 0, none, false⟩) ∧
    (calm.func.test = none ∧ calm.thread.test = none) ∧
    (sewing.ready ∧ sewing.inRun = true) ∧ (calmIn .locked).run.state = .locked ∧
    (let s := withOp .home none calm
     s.ready ∧ s.inRun = false ∧ s.run.state ≠ .locked ∧ s.run.slot ≠ none) ∧
    (let s := { calm with shaft := { calm.shaft with motion := .turning } }
     s.ready ∧ s.inRun = false ∧ s.run.slot = none ∧ s.shaft.motion = .turning) := by decide

/-- A SENSOR TEST that fails at its reference reading ends FAILED, with the verdict and both readings of its head (R154). -/
theorem test_sensor_test_fails :
    (left (exec (.sensorTestExpiry [1023]) (busyLine measuring))).notices.sources[srcOpDone].detail =
      u8 OpKind.sensorTest.value ++ [0, 1, 1, 2] ++ u16 0 ++ u16 1023 := by decide

/-- The sensor test of a start on head 1, at its end. -/
def startTesting (s : State) : State :=
  { s with
    run := { s.run with state := .running, phase := some .starting, work := some .sensorTest }
    thread := { s.thread with testLoad := 1, test := some ⟨1, Vector.replicate 12 0, 0⟩ } }

theorem test_meets_TestsRunAndEnd_start :
    (∀ s ∈ [startTesting threaded, startTesting (planned .ready)],
      s.awake ∧ s.thread.test = some ⟨1, Vector.replicate 12 0, 0⟩ ∧ s.run.work = some .sensorTest ∧ s.run.state = .running ∧
      s.run.phase = some .starting ∧ s.shaft.motion = .stopped ∧ s.restsUp = true ∧
      (0 : BitVec 10).toNat ≤ s.nat .sensorIdleMax ∧
      (setTension [500] s).pins.tension[(0 : Head)] = 500 ∧ s.nat .sensorRefLo ≤ (500 : BitVec 10).toNat ∧
      (500 : BitVec 10).toNat ≤ s.nat .sensorRefHi ∧ ¬ (1023 : BitVec 10).toNat ≤ s.nat .sensorRefHi) ∧
    allHeads.filter (fun h => inSet 1 h) = [0] ∧
    ((startTesting threaded).planNeedle = some 2 ∧ (startTesting threaded).needle.settled = some 2) ∧
    ((startTesting (planned .ready)).planNeedle = some 2 ∧ (startTesting (planned .ready)).needle.settled ≠ some 2) := by decide
/-- A head that fails the test of a start is the primary cause of its end, and FAULTED (R155, R167). -/
theorem test_start_test_fails :
    let t := left (exec (.sensorTestExpiry [1023]) (startTesting threaded))
    t.run.report.primary = some ⟨.headFault 0, 2, 0⟩ ∧ (t.head 0).state = .faulted ∧ t.run.state = .halted := by decide

/-! #### Heads -/

/-- HALTED with head 1 as given. -/
def oneHeadIn (st : HeadState) (gaps : List Gap) : State := withHead ⟨st, .stop, false, none, gaps, false⟩ (armed .halted)

theorem test_meets_HeadModeChangesTheHead :
    (calm.ready ∧ ∀ h : Head, (2 : Byte).toNat = h.val + 1 → calm.fitted h = false) ∧
    ((1 : Byte).toNat = (0 : Head).val + 1 ∧ calm.fitted 0 = true ∧ (calm.head 0).state = .disabled ∧
      calm.shaft.motion = .stopped ∧ (calm.monitor 0).sensor ≠ .failed ∧ (calm.monitor 0).fault = none) ∧
    (let s := oneHeadIn .active []
     s.ready ∧ s.fitted 0 = true ∧ (s.head 0).state = .active ∧ s.inRun = false ∧ s.run.repair.active = false ∧
     hasOpenGap [] = false ∧ (s.head 0).gaps = [] ∧
     openGapAt (max ((s.head 0).kept.getD s.store.cursor) s.store.retire) (s.head 0).gaps = some [⟨2, none⟩]) ∧
    (let s := { oneHeadIn .faulted eightGaps with store := { (armed .halted).store with cursor := 20 } }
     s.ready ∧ (s.head 0).state = .faulted ∧ s.inRun = false ∧ s.run.repair.active = false ∧
     openGapAt (max ((s.head 0).kept.getD s.store.cursor) s.store.retire) (s.head 0).gaps = none) ∧
    (let s := oneHeadIn .isolated [⟨1, none⟩]
     s.ready ∧ (s.head 0).state = .isolated ∧ 1 < s.store.cursor ∧ (s.head 0).gaps = [] ++ [⟨1, none⟩]) ∧
    ((withHead ⟨.active, .stop, false, none, [], false⟩ repairing).ready ∧
      (withHead ⟨.active, .stop, false, none, [], false⟩ repairing).run.repair.active = true) ∧
    (let s := { calm with thread := { calm.thread with monitors := calm.thread.monitors.set 0 { Monitor.reset with sensor := .failed } } }
     s.ready ∧ (s.head 0).state = .disabled ∧ s.shaft.motion = .stopped ∧ (s.monitor 0).sensor = .failed) ∧
    (let s := { calm with shaft := { calm.shaft with motion := .turning } }
     s.ready ∧ (s.head 0).state = .disabled ∧ s.shaft.motion = .turning) := by decide

/-- `sewing` with two heads, head 1 ACTIVE and head 2 in this state. -/
def twoHeads (st : HeadState) : State :=
  let s := withPar .heads 2 (withHead ⟨.active, .stop, false, none, [], false⟩ sewing)
  { s with table := { s.table with heads := s.table.heads.set 1 ⟨st, .isolate, false, none, [], false⟩ } }

theorem test_meets_HeadModeChangesTheHead_in_a_run :
    ((twoHeads .active).ready ∧ (twoHeads .active).inRun = true ∧ (twoHeads .active).run.repair.active = false ∧
      (twoHeads .active).fitted 0 = true ∧ ((twoHeads .active).head 0).state = .active ∧
      ((1 : Head) ≠ 0 ∧ (twoHeads .active).fitted 1 = true ∧ ((twoHeads .active).head 1).state = .active)) ∧
    ((twoHeads .disabled).ready ∧ (twoHeads .disabled).run.state = .running ∧ (twoHeads .disabled).run.phase = some .sewing ∧
      (twoHeads .disabled).run.repair.active = false ∧ ((twoHeads .disabled).head 0).state = .active ∧
      (∀ k : Head, k ≠ 0 → (twoHeads .disabled).fitted k = true → ((twoHeads .disabled).head k).state ≠ .active) ∧
      openGapAt (max (((twoHeads .disabled).head 0).kept.getD (twoHeads .disabled).store.cursor) (twoHeads .disabled).store.retire)
        ((twoHeads .disabled).head 0).gaps = some [⟨2, none⟩]) := by decide
theorem test_meets_HeadModeChangesTheHead_open_gap :
    (∀ g ∈ eightGaps, ∃ e, g.stop = some e ∧ e < 16) ∧ eightGaps.length = 8 ∧
    (∀ g ∈ eightGaps.take 7, ∃ e, g.stop = some e ∧ e < 16) ∧ (eightGaps.take 7).length < 8 ∧
    (∀ e, (none : Option Nat) = some e → 16 ≤ e) ∧ (∀ e, some 16 = some e → 16 ≤ e) :=
  ⟨by simp [eightGaps], rfl, by simp [eightGaps], by decide, by simp, by simp⟩
theorem test_meets_HeadsAreClearedAndCounted :
    (calm.ready ∧ (∀ h : Head, (2 : Byte).toNat = h.val + 1 → calm.fitted h = false) ∧
      (1 : Byte).toNat = (0 : Head).val + 1 ∧ calm.fitted 0 = true ∧ (calm.head 0).state = .disabled ∧
      (calm.monitor 0).fault = none) ∧
    (let s := oneHeadIn .faulted []
     s.ready ∧ (s.head 0).state = .faulted ∧ s.shaft.motion = .stopped ∧ (s.monitor 0).fault = none) ∧
    (let s := oneHeadIn .faulted []
     let s := { s with shaft := { s.shaft with motion := .turning } }
     s.ready ∧ (s.head 0).state = .faulted ∧ s.shaft.motion = .turning) ∧
    (let s := oneHeadIn .isolated [⟨1, none⟩]
     s.ready ∧ (s.head 0).state = .isolated ∧ s.inRun = false ∧ hasOpenGap [] = false ∧ 1 < s.store.cursor ∧
     (s.head 0).gaps = [] ++ [⟨1, none⟩]) ∧
    (let s := withHead ⟨.isolated, .stop, false, none, [⟨1, none⟩], false⟩ sewing
     s.ready ∧ s.inRun = true ∧ (s.head 0).state = .isolated) ∧
    (let s := withHead ⟨.isolated, .stop, false, none, [], false⟩ sewing
     s.ready ∧ s.inRun = true ∧ hasOpenGap (s.head 0).gaps = false) ∧
    (let s := withHead ⟨.active, .stop, true, some 1, [], false⟩ sewing
     s.ready ∧ (s.head 0).state = .active ∧ (s.head 0).faultHeld = true) ∧
    (let m : Monitor := { Monitor.reset with fault := some ⟨.sensor, 0, 0, 0, .run⟩, sensor := .failed }
     let s := { oneHeadIn .faulted [] with thread := { calm.thread with monitors := calm.thread.monitors.set 0 m } }
     s.ready ∧ (s.monitor 0).fault = some ⟨.sensor, 0, 0, 0, .run⟩ ∧ (s.monitor 0).sensor ≠ .passed) ∧
    (1000000 < (1000001 : Word).toNat ∧ (1000001 : Word) ≠ 0xFFFFFFFF#32 ∧ (1000000 : Word).toNat ≤ 1000000) := by decide

/-- `atMark` STOPPING and BRAKING, with head 1 and its monitor as given. -/
def judging (e : HeadEntry) (m : Monitor) : State :=
  let s := withHead e { atMark with run := { atMark.run with state := .stopping, phase := some .braking } }
  { s with thread := { s.thread with monitors := s.thread.monitors.set 0 m } }
/-- Head 1 ACTIVE under a policy. -/
def activeUnder (p : Policy) (gaps : List Gap) : HeadEntry := ⟨.active, p, false, none, gaps, false⟩
/-- A monitor that gathered turn 1 with this many pulses and this reading, its gate closed. -/
def gathered (pulses : Nat) (reading : Option (BitVec 10)) : Monitor :=
  { Monitor.reset with member := true, gatherings := [⟨1, pulses, .closed, reading⟩] }
/-- `gathered` with its break run one short of a break. -/
def breaking : Monitor := { gathered 0 none with breakRun := 2, breakFirst := 0 }
/-- `judging` in repair, head 1 alone selected. -/
def repairJudging : State :=
  let s := judging (activeUnder .stop [⟨0, some 2⟩]) Monitor.reset
  { s with run := { s.run with repair := ⟨true, 1, 4⟩ } }

theorem test_meets_HeadsAreClearedAndCounted_completion :
    ((judging (activeUnder .stop []) breaking).NearsWindowStart ∧ repairJudging.NearsWindowStart) ∧
    (∀ s ∈ [judging (activeUnder .stop []) breaking, judging (activeUnder .isolate eightGaps) breaking,
        judging (activeUnder .isolate []) breaking, judging (activeUnder .stop []) (gathered 5 none)],
      s.run.state = .stopping ∧ s.run.phase = some .braking ∧ s.run.outstanding = some ⟨1, false, 1⟩ ∧
      s.run.repair.active = false ∧ ∀ k : Head, k ≠ 0 → ∀ y ∈ (s.monitor k).gatherings, y.turn ≠ 1) ∧
    (let s := judging (activeUnder .stop []) breaking
     (s.evaluate 1 ⟨1, 0, .closed, none⟩ breaking).2.1 = some ⟨.breakFault, 0, 1, 0, .run⟩ ∧
     (s.evaluate 1 ⟨1, 5, .closed, none⟩ (gathered 5 none)).2.1 = none ∧
     (s.evaluate 1 ⟨1, 5, .closed, none⟩ { gathered 5 none with bobbin := some 2001 }).2.2 = true) ∧
    (openGapAt 0 [] = some [⟨0, none⟩] ∧ openGapAt 16 eightGaps = none) ∧
    (repairJudging.run.repair.selection = BitVec.ofNat 12 (2 ^ (0 : Head).val) ∧ repairJudging.fitted 0 = true ∧
      (repairJudging.head 0).state = .active ∧ (repairJudging.head 0).faultHeld = false ∧
      ∀ k : Head, ∀ y ∈ (repairJudging.monitor k).gatherings, y.turn ≠ 1) :=
  ⟨⟨⟨by decide, by decide, by decide, by decide, by decide, by decide, by decide, by decide, marks_of_window_start⟩,
    ⟨by decide, by decide, by decide, by decide, by decide, by decide, by decide, by decide, marks_of_window_start⟩⟩,
    by decide, by decide, by decide, by decide⟩
/-- `judging` of head 1, to be isolated at a break, with head 2 in this state. -/
def judgingTwo (st : HeadState) : State :=
  let s := withPar .heads 2 (judging (activeUnder .isolate []) { breaking with bobbin := some 2001 })
  { s with table := { s.table with heads := s.table.heads.set 1 ⟨st, .isolate, false, none, [], false⟩ } }
theorem test_meets_HeadsAreClearedAndCounted_isolated :
    ((judgingTwo .active).NearsWindowStart ∧ (judgingTwo .disabled).NearsWindowStart) ∧
    (∀ st ∈ [HeadState.active, .disabled],
      (judgingTwo st).run.outstanding = some ⟨1, false, 1⟩ ∧ (judgingTwo st).run.repair.active = false ∧
      ((judgingTwo st).monitor 0).gatherings = [⟨1, 0, .closed, none⟩] ∧ ((judgingTwo st).head 0).policy = .isolate ∧
      openGapAt 0 ((judgingTwo st).head 0).gaps = some [⟨0, none⟩] ∧ (judgingTwo st).fitted 1 = true ∧
      ((judgingTwo st).head 1).state = st ∧ ((judgingTwo st).evaluate 1 ⟨1, 0, .closed, none⟩ ((judgingTwo st).monitor 0)).2.1 =
        some ⟨.breakFault, 0, 1, 0, .run⟩) ∧
    (∀ k : Head, k ≠ 0 → (judgingTwo .disabled).fitted k = true → ((judgingTwo .disabled).head k).state ≠ .active) :=
  ⟨⟨⟨by decide, by decide, by decide, by decide, by decide, by decide, by decide, by decide, marks_of_window_start⟩,
    ⟨by decide, by decide, by decide, by decide, by decide, by decide, by decide, by decide, marks_of_window_start⟩⟩,
    by decide, by decide⟩
/-- A head isolated by its policy gives its fault record and the start of its gap (R158, R167). -/
theorem test_head_fault_detail :
    (left (exec (.encoderCount .forward [] []) (busyLine (judgingTwo .active)))).notices.sources[srcHeadFault 0].detail =
      faultBytes ⟨.breakFault, 0, 1, 0, .run⟩ ++ [0, 1] ++ u24 0 := by decide
/-- `repairJudging` with a policy, a gap that begins past the cursor and a monitor. -/
def repairGathered (p : Policy) (m : Monitor) : State :=
  let s := judging (activeUnder p [⟨2, some 3⟩]) m
  { s with run := { s.run with repair := ⟨true, 1, 4⟩ } }
theorem test_meets_HeadsAreClearedAndCounted_repair :
    ((repairGathered .isolate breaking).NearsWindowStart ∧ (repairGathered .stop breaking).NearsWindowStart ∧
      (repairGathered .stop (gathered 5 none)).NearsWindowStart) ∧
    (∀ s ∈ [repairGathered .isolate breaking, repairGathered .stop breaking, repairGathered .stop (gathered 5 none)],
      s.run.state = .stopping ∧ s.run.phase = some .braking ∧ s.run.outstanding = some ⟨1, false, 1⟩ ∧
      s.run.repair.active = true ∧ s.run.repair.selection = BitVec.ofNat 12 (2 ^ (0 : Head).val) ∧ s.fitted 0 = true ∧
      (s.head 0).state = .active ∧ (s.head 0).faultHeld = false ∧
      (∀ k : Head, k ≠ 0 → ∀ y ∈ (s.monitor k).gatherings, y.turn ≠ 1) ∧
      ((s.monitor 0).gatherings.map Gathering.turn) = [1]) ∧
    ((repairGathered .stop breaking).evaluate 1 ⟨1, 0, .closed, none⟩ breaking).2.1 = some ⟨.breakFault, 0, 1, 0, .run⟩ ∧
    ((repairGathered .stop breaking).evaluate 1 ⟨1, 5, .closed, none⟩ (gathered 5 none)).2.1 = none :=
  ⟨⟨⟨by decide, by decide, by decide, by decide, by decide, by decide, by decide, by decide, marks_of_window_start⟩,
    ⟨by decide, by decide, by decide, by decide, by decide, by decide, by decide, by decide, marks_of_window_start⟩,
    ⟨by decide, by decide, by decide, by decide, by decide, by decide, by decide, by decide, marks_of_window_start⟩⟩,
    by decide, by decide, by decide⟩
/-- A fault in repair lowers the start of the first gap to its detection start, and the head leaves the selection (R175). -/
theorem test_repair_fault :
    let t := left (exec (.encoderCount .forward [] []) (repairGathered .isolate breaking))
    (t.head 0).gaps = [⟨0, some 3⟩] ∧ t.run.repair.selection = 0 := by decide
theorem test_meets_HeadsAreClearedAndCounted_evaluation :
    (8 ≤ ({ gathered 5 (some 1023) with railRun := 7 } : Monitor).railRun + 1 ∧
      ¬ 8 ≤ ({ gathered 5 (some 0) with railRun := 6 } : Monitor).railRun + 1) ∧
    (let m : Monitor := { gathered 5 none with stuckRun := 63, stuckReading := 500 }
     64 ≤ (if m.stuckRun ≠ 0 ∧ some (500 : BitVec 10) = some m.stuckReading then m.stuckRun + 1 else 1)) ∧
    (let m : Monitor := { gathered 0 none with holdCount := 1, holdFrom := 1 }
     m.fault = none ∧ 0 < m.holdCount ∧ m.holdFrom ≤ 1) ∧
    (breaking.fault = none ∧ breaking.holdCount = 0 ∧ (0 : Nat) < calm.nat .pulseMin ∧ calm.nat .breakRun ≤ breaking.breakRun + 1) ∧
    (∀ r ∈ [(179, Tension.low), (821, Tension.high)],
      let m : Monitor := { gathered 5 (some r.1) with window := List.replicate 5 ⟨r.2, 0⟩ }
      calm.nat .tenCount ≤ ((m.window ++ [(⟨r.2, 1⟩ : WindowEntry)]).filter fun w : WindowEntry => decide (w.verdict = r.2)).length ∧
      tensionVerdict 180 820 r.1 = r.2) ∧
    ((calm.evaluate 1 ⟨1, 5, .closed, none⟩ { gathered 5 none with bobbin := some 1 }).1.bobbin = some 0 ∧
      (calm.evaluate 1 ⟨1, 5, .closed, none⟩ { gathered 5 none with bobbin := some 2 }).1.bobbin ≠ some 0) ∧
    (let m : Monitor := { gathered 5 none with fault := some ⟨.bobbin, 0, 0, 0, .run⟩ }
     m.fault ≠ none) := by decide

/-! #### The shaft -/

/-- `sewing` at a count. -/
def sewingAt (c : Int) : State := { sewing with shaft := { sewing.shaft with count := c } }

/-- `sewing` at a count, with a pulse of channel 3 due at the index. -/
def pulsedAtIndex (c : Int) : State :=
  { sewingAt c with func := { sewing.func with channels := sewing.func.channels.set 3 { Channel.reset with
    pulse := some ⟨false, 1, true, some ⟨0, 1⟩, some ⟨220, 2⟩⟩ } } }
/-- A state with the revolution since the last index timed, or not. -/
def timed (b : Bool) (s : State) : State := { s with shaft := { s.shaft with timedRev := b } }

/-- A timed revolution has no part in which takers a mark has. -/
theorem timed_takesAt (b : Bool) (s : State) (a : Nat) (t : Taker) : (timed b s).takesAt a t = s.takesAt a t := by cases t <;> rfl
theorem no_mark_at_151 : ∀ t, (sewingAt 604).takesAt 151 t = false := every_taker (by decide)
theorem no_mark_at_0 : ∀ t, (sewingAt 1438).takesAt 0 t = false := every_taker (by decide)
theorem no_mark_at_0_off_check (c : Int) : ∀ t, c ∈ [700, 1437, 1443] → (sewingAt c).takesAt 0 t = false :=
  every_taker (P := fun t => c ∈ [700, 1437, 1443] → (sewingAt c).takesAt 0 t = false) fun t h hc => by
    revert t; revert c; decide
theorem only_channel_at_0 : ∀ t, (pulsedAtIndex 700).takesAt 0 t = true → ∃ k, t = .channel k :=
  fun t h => ⟨3, ((every_taker (by decide) : ∀ t, (pulsedAtIndex 700).takesAt 0 t = true ↔ t = .channel 3) t).1 h⟩
theorem only_gate_start_at_80 : ∀ t, (sewingAt 319).takesAt 80 t = true ↔ t = .gateStart := every_taker (by decide)
theorem only_gate_end_at_200 : ∀ t, (sewingAt 799).takesAt 200 t = true ↔ t = .gateEnd := every_taker (by decide)
theorem only_sample_at_150 : ∀ t, (sewingAt 599).takesAt 150 t = true ↔ t = .sample := every_taker (by decide)
theorem only_brake_at_345 : ∀ t, stopping.takesAt 345 t = true ↔ t = .brake := every_taker (by decide)

theorem test_meets_TheShaftCounts :
    ((sewingAt 604).awake ∧ (sewingAt 604).shaft.motion = .turning ∧ (sewingAt 604).shaft.synced = true ∧
      angleOfCount ((sewingAt 604).nat .encCounts) 605 = 151 ∧ -2 ≤ (-1 : Int) - 1 ∧ (1441 : Int) + 1 ≤ sewing.nat .encCounts + 2) ∧
    (let s := sewingAt 1442
     s.awake ∧ s.shaft.motion = .turning ∧ (s.nat .encCounts : Int) + 2 < s.shaft.count + 1 ∧ 0 < s.nat .stopQuiet) ∧
    (let s := { sewing with shaft := { sewing.shaft with synced := false, count := 1441 } }
     s.awake ∧ s.shaft.motion = .turning ∧ s.shaft.synced = false ∧ s.shaft.count + 1 ≤ (s.nat .encCounts : Int) + 2 ∧
     -((s.nat .encCounts : Int) + 2) ≤ s.shaft.count - 1) ∧
    (let s := sewingAt (-3)
     s.shaft.synced = true ∧ s.shaft.count < -2 ∧ 2 < (sewingAt 3).shaft.count ∧ 0 < s.nat .stopQuiet) ∧
    (let s := sewingAt (-2)
     s.awake ∧ s.shaft.synced = true ∧ -2 ≤ s.shaft.count ∧ s.shaft.count ≤ 2) ∧
    (let s := sewingAt 1438
     s.awake ∧ s.angle = some 359 ∧ (s.nat .encCounts : Int) - 2 ≤ s.shaft.count ∧ s.shaft.count ≤ (s.nat .encCounts : Int) + 2) ∧
    (∀ c ∈ [(700 : Int), 1437, 1443], ∀ b ∈ [true, false],
      let s := timed b (sewingAt c)
      s.awake ∧ s.shaft.synced = true ∧ s.shaft.timedRev = b ∧
      (s.shaft.count < (s.nat .encCounts : Int) - 2 ∨ (s.nat .encCounts : Int) + 2 < s.shaft.count) ∧ 0 < s.nat .stopQuiet) ∧
    (∀ p ∈ [(319, 80), (799, 200), (599, 150)], ∀ b ∈ [true, false],
      let s := timed b (sewingAt p.1)
      s.awake ∧ s.shaft.motion = .turning ∧ s.shaft.timedRev = b ∧ s.angle ≠ some p.2 ∧
      angleOfCount (s.nat .encCounts) (p.1 + 1) = p.2) ∧
    (let s := { stopping with shaft := { stopping.shaft with count := 1379 } }
     s.awake ∧ s.shaft.motion = .turning ∧ s.shaft.synced = true ∧ s.angle ≠ some 345 ∧
     angleOfCount (s.nat .encCounts) (s.shaft.count + 1) = 345 ∧ s.shaft.waiting = some .atBrakeMark ∧ s.shaft.brake = false) := by
  decide

/-- `sewing` at a count, with a first move that this late watch, or none, stands for. -/
def watched (c : Int) (w : Option LateWatch) : State :=
  { sewingAt c with frame := { sewing.frame with late := w, move := some ⟨.firstMove, .zero, .zero, 1, 1, some 2, false, none⟩ } }
/-- `sewing` one count before 100 degrees, with a pulse of these dues on channel 3. -/
def pulsed (b d : Option Due) : State :=
  { sewingAt 399 with func := { sewing.func with channels := sewing.func.channels.set 3 { Channel.reset with
    pulse := some ⟨false, 1, true, b, d⟩ } } }
/-- `atMark` with its turn completed already, n overruns counted, in a run state and phase. -/
def overrunning (n : Nat) (st : RunState) (ph : Option Phase) : State :=
  { atMark with
    run := { atMark.run with state := st, phase := ph, outstanding := none }
    shaft := { atMark.shaft with counting := true, overrun := n, brake := true, line := 0 } }

theorem only_window_end_at_60 : ∀ t, (watched 239 none).takesAt 60 t = true ↔ t = .windowEnd := every_taker (by decide)
theorem only_jump_end_at_160 : ∀ t, (watched 639 none).takesAt 160 t = true ↔ t = .jumpEnd := every_taker (by decide)
theorem only_rest_at_10 : ∀ t, (sewingAt 39).takesAt 10 t = true ↔ t = .rest := every_taker (by decide)
theorem only_channel_3_at_100 :
    ∀ t, (pulsed (some ⟨100, 1⟩) (some ⟨220, 2⟩)).takesAt 100 t = true ↔ t = .channel 3 := every_taker (by decide)
theorem only_channel_3_at_100_off :
    ∀ t, (pulsed none (some ⟨100, 1⟩)).takesAt 100 t = true ↔ t = .channel 3 := every_taker (by decide)
theorem overrun_at_220 :
    ∀ t, (overrunning 2 .stopping (some .braking)).takesAt 220 t = true ↔ t ∈ [Taker.overrun, .completion, .retention, .call] :=
  every_taker (by decide)

theorem test_meets_TheShaftCounts_marks :
    (∀ p ∈ [((239 : Int), 60), (639, 160)], ∀ w ∈ [none, some LateWatch.windowEnd, some .jumpEnd], ∀ b ∈ [true, false],
      let s := timed b (watched p.1 w)
      s.awake ∧ s.shaft.motion = .turning ∧ s.shaft.synced = true ∧ s.shaft.timedRev = b ∧ s.angle ≠ some p.2 ∧
      angleOfCount (s.nat .encCounts) (p.1 + 1) = p.2 ∧ s.run.state = .running ∧ s.run.phase = some .sewing ∧
      s.frame.move = some ⟨.firstMove, .zero, .zero, 1, 1, some 2, false, none⟩ ∧ 0 < s.nat .stopQuiet) ∧
    (∀ p ∈ [((none : Option Due), some (⟨100, 1⟩ : Due)), (some ⟨100, 1⟩, some ⟨220, 2⟩), (some ⟨100, 1⟩, some ⟨100, 2⟩),
        (some ⟨100, 2⟩, some ⟨100, 3⟩), (some ⟨220, 1⟩, none)], ∀ b ∈ [true, false],
      let s := timed b (pulsed p.1 p.2)
      s.awake ∧ s.shaft.motion = .turning ∧ s.shaft.timedRev = b ∧ s.angle ≠ some 100 ∧
      angleOfCount (s.nat .encCounts) 400 = 100 ∧ s.func.channels[(3 : Chan)].pulse = some ⟨false, 1, true, p.1, p.2⟩) ∧
    (∀ b ∈ [true, false],
     let s := timed b (withOp .needleUp none (sewingAt 39))
     let s := { s with run := { s.run with state := .ready, phase := none } }
     s.awake ∧ s.shaft.motion = .turning ∧ s.angle ≠ some 10 ∧ angleOfCount (s.nat .encCounts) 40 = 10 ∧
     s.run.slot = some ⟨.needleUp, .host, 0, none, false⟩ ∧ 0 < s.shaft.line ∧ s.shaft.brake = false) ∧
    (∀ n ∈ [0, 1, 2, 3], ∀ s ∈ [overrunning n .stopping (some .braking), timed true (overrunning n .ready none)],
      s.awake ∧ s.shaft.motion = .turning ∧ s.shaft.counting = true ∧ s.angle ≠ some 220 ∧
      angleOfCount (s.nat .encCounts) 880 = 220 ∧ s.run.outstanding = none ∧ s.run.slot = none ∧ s.run.work = none ∧
      s.shaft.brake = true ∧ 0 < s.nat .stopQuiet) := by decide

/-- At rest on the window-start mark with needle-up, one reverse count from needle-down. -/
def onTheEdge (r : RunState) : State := { armed r with shaft := { (armed r).shaft with count := 880 } }

theorem test_meets_TheShaftCounts_at_rest :
    (calm.awake ∧ calm.shaft.motion = .stopped ∧ calm.shaft.synced = false ∧ calm.shaft.line = 0 ∧ calm.shaft.needleUp = false) ∧
    (let s := { calm with shaft := { calm.shaft with line := 200, stall := some 9 } }
     s.awake ∧ s.shaft.motion = .stopped ∧ s.shaft.synced = false ∧ 0 < s.shaft.line) ∧
    (let s := onTheEdge .halted
     s.awake ∧ s.shaft.motion = .stopped ∧ s.shaft.line = 0 ∧ s.shaft.needleUp = true ∧ -2 ≤ s.shaft.count - 1 ∧
     s.shaft.count - 1 ≤ (s.nat .encCounts : Int) + 2 ∧ s.flagNow = true ∧
     ({ s with shaft := { s.shaft with count := 879 } } : State).flagNow = false ∧ s.frame.move = none ∧ s.frame.dwell = none ∧
     s.needle.change = none) ∧
    (let s := { armed .halted with shaft := { (armed .halted).shaft with line := 200 } }
     s.awake ∧ s.shaft.motion = .stopped ∧ 0 < s.shaft.line) ∧
    (withMove .stepMove ⟨1003, 804⟩ ⟨1003, 804⟩ (-16) 16 (onTheEdge .halted)).frame.move =
      some ⟨.stepMove, ⟨1003, 804⟩, ⟨1003, 804⟩, -16, 16, none, false, none⟩ ∧
    (let s := onTheEdge .running
     { s with frame := { s.frame with move := some ⟨.firstMove, .zero, .zero, 1, 1, some 2, false, none⟩ } }.frame.move =
       some ⟨.firstMove, .zero, .zero, 1, 1, some 2, false, none⟩) ∧
    (let s := withOp .backtrack none (onTheEdge .halted)
     let s := { s with frame := { s.frame with dwell := some 3 } }
     s.frame.ownMove = none ∧ s.frame.dwell = some 3 ∧ s.needle.change = none ∧
     s.run.slot = some ⟨.backtrack, .host, 0, none, false⟩) ∧
    (∀ k ∈ [(OpKind.needleSelect, ChangePurpose.select), (.colourChange, .colour), (.backtrack, .landing)],
     let s := { changing k.1 k.2 with shaft := (onTheEdge .halted).shaft }
     s.frame.ownMove = none ∧ s.frame.dwell = none ∧ s.needle.change = some ⟨k.2, 2, .host, 9, 9, 0⟩ ∧
     s.run.slot = some ⟨k.1, .host, 0, none, false⟩) ∧
    (let s := { starting .needle with shaft := (onTheEdge .halted).shaft }
     s.awake ∧ s.frame.ownMove = none ∧ s.frame.dwell = none ∧ s.run.state = .running ∧
     s.needle.change = some ⟨.start, 2, .host, 9, 9, 0⟩) := by decide
theorem test_meets_TheShaftComesToRest :
    (let s := { sewing with
       run := { sewing.run with state := .halted, phase := none }, shaft := { sewing.shaft with line := 0 } }
     s.awake ∧ s.shaft.motion = .turning ∧ s.shaft.line = 0 ∧ s.run.state ≠ .stopping ∧ s.run.slot = none) ∧
    (calm.awake ∧ calm.shaft.motion = .stopped ∧ calm.shaft.stall = none) ∧ (0 < sewing.shaft.line) ∧
    (stopping.awake ∧ stopping.shaft.motion = .turning ∧ stopping.shaft.line = 0 ∧ stopping.run.state = .stopping ∧
      stopping.run.phase = some .braking ∧ stopping.run.kind ≠ some .emergency ∧
      stopping.run.report.primary.map Recorded.cause ≠ some .colour) ∧
    (let s := { calm with run := { calm.run with colourTimer := .running 0 } }
     s.run.colourTimer = .running 0 ∧ s.run.resume ≠ some .colour) ∧
    (let s := withOp .home none (waitingFor .colour)
     s.run.colourTimer = .running 0 ∧ s.run.slot ≠ none) ∧ calm.run.colourTimer = .stopped := by decide
/-- A colour stop with the shaft slowing down, its planned and its settled needle, the angle it stops at and its slot. -/
def colourStopping (plan settled : Option Nat) (count : Int) (slot : Option Op) : State :=
  { stopping with
    run := { stopping.run with slot := slot, report := { StopReport.empty with primary := some ⟨.colour, 2, 0⟩ } }
    shaft := { stopping.shaft with count := count }
    needle := { stopping.needle with plan := stopping.needle.plan.set 0 plan, settled := settled } }

theorem test_meets_TheShaftComesToRest_kinds :
    (let s := { stopping with run := { stopping.run with kind := some .emergency } }
     s.awake ∧ s.shaft.motion = .turning ∧ s.shaft.line = 0 ∧ s.run.state = .stopping ∧ s.run.phase = some .braking ∧
     s.run.kind = some .emergency) ∧
    (let s := withPar .autoResume 1 { stopping with run := { stopping.run with
       report := { StopReport.empty with primary := some ⟨.data, 2, 0⟩ } } }
     s.run.kind ≠ some .emergency ∧ s.run.report.primary.map Recorded.cause = some .data ∧ s.run.report.secondary = [] ∧
     s.nat .autoResume = 1) ∧
    (stopping.awake ∧ stopping.shaft.line = 0 ∧ calm.pins.driveReady = false) := by decide
theorem test_meets_TheShaftComesToRest_needle_up :
    (let s := { turningUp with shaft := { turningUp.shaft with line := 0 } }
     s.awake ∧ s.shaft.motion = .turning ∧ s.shaft.line = 0 ∧ s.run.state ≠ .stopping ∧
     s.run.slot = some ⟨.needleUp, .host, 0, none, false⟩) := by decide
theorem test_meets_TheShaftComesToRest_colour :
    (∀ s ∈ [colourStopping none none 1400 none, colourStopping (some 2) none 1400 (some ⟨.home, .host, 0, none, false⟩),
        colourStopping (some 2) (some 2) 800 none, colourStopping (some 2) (some 2) 1400 none,
        colourStopping (some 2) (some 1) 1400 none, withPar .colourRestart 1 (colourStopping (some 2) (some 2) 1400 none)],
      s.awake ∧ s.shaft.motion = .turning ∧ s.shaft.line = 0 ∧ s.run.state = .stopping ∧ s.run.phase = some .braking ∧
      s.run.kind ≠ some .emergency ∧ s.run.report.primary.map Recorded.cause = some .colour ∧
      s.flagNow = decide (s.shaft.count = 1400)) ∧
    (colourStopping (some 2) none 1400 none).planNeedle = some 2 ∧ (colourStopping none none 1400 none).planNeedle = none ∧
    (withPar .colourRestart 1 calm).nat .colourRestart = 1 := by decide
/-- E-STOP, the fault of the drive, DRIVE_READY withdrawn under a demand, and a stall timer's expiry (R35, R91). -/
theorem test_meets_TheShaftComesToRest_causes :
    (∀ s : State, s.MeetsEmergency (.estop true) .estop { s.pins with estop := true }) ∧
    sewing.MeetsEmergency .stall .stall sewing.pins ∧
    (∀ ready : Bool, calm.MeetsEmergency (.driveLineChange ready true) .drive
      { calm.pins with driveReady := ready, driveFault := true }) ∧
    sewing.MeetsEmergency (.driveLineChange false false) .drive { sewing.pins with driveReady := false, driveFault := false } :=
  ⟨fun _ => .inl ⟨rfl, rfl, rfl⟩, .inr (.inl ⟨rfl, rfl, rfl, by decide⟩),
    fun ready => .inr (.inr ⟨ready, true, rfl, rfl, rfl, .inl (by decide)⟩),
    .inr (.inr ⟨false, false, rfl, rfl, rfl, .inr (by decide)⟩)⟩
theorem test_meets_TheShaftComesToRest_emergency :
    (∀ r ∈ [RunState.idle, .ready, .halted, .locked], (armed r).awake ∧ (armed r).run.state = r ∧ (armed r).run.slot = none ∧
      (armed r).run.work = none ∧ (armed r).run.report.secondary.length < 8 ∧ (armed r).shaft.motion = .stopped) ∧
    (∀ w ∈ [Work.returnMove, .sensorTest, .needle, .firstMove], (starting w).awake ∧ (starting w).run.state = .running ∧
      (starting w).run.phase = some .starting ∧ (starting w).run.slot = none ∧ (starting w).shaft.motion = .stopped) ∧
    (∀ s ∈ [sewing, stopping, { stopping with run := { stopping.run with phase := some .sewing } }],
      s.awake ∧ s.run.slot = none ∧ s.run.work = none ∧ s.shaft.motion = .turning ∧ s.shaft.quiet < s.nat .stopQuiet) ∧
    (sewing.run.state = .running ∧ stopping.run.state = .stopping ∧ sewing.nat .stopQuiet ≤ sewing.nat .stallTime) ∧
    (let s := { stopping with shaft := { stopping.shaft with quiet := 100000 } }
     s.nat .stopQuiet ≤ s.shaft.quiet ∧ s.shaft.motion = .turning) := by decide
theorem test_meets_TheShaftComesToRest_slot :
    (turningUp.awake ∧ turningUp.run.slot = some ⟨.needleUp, .host, 0, none, false⟩ ∧ turningUp.run.state = .ready ∧
      turningUp.run.work = none ∧ turningUp.needle.change = none ∧ turningUp.shaft.motion = .turning ∧
      turningUp.shaft.quiet < turningUp.nat .stopQuiet) ∧
    (let s := withOp .needleUp none (armed .ready)
     s.awake ∧ s.shaft.motion = .stopped ∧ s.run.work = none ∧ s.needle.change = none) ∧
    (∀ k ∈ [(OpKind.needleSelect, ChangePurpose.select), (.colourChange, .colour), (.backtrack, .landing)],
      let s := changing k.1 k.2
      s.awake ∧ s.run.state = .halted ∧ s.run.work = none ∧ s.needle.change = some ⟨k.2, 2, .host, 9, 9, 0⟩ ∧ k.2 ≠ .start) ∧
    (∀ k ∈ [OpKind.home, .frameOut, .frameReturn, .sensorTest, .channelTest, .backtrack, .repair, .repairAbandon],
      let s := withOp k none (armed .halted)
      s.awake ∧ s.run.slot = some ⟨k, .host, 0, none, false⟩ ∧ s.run.state = .halted ∧ s.run.work = none ∧
      s.needle.change = none) := by decide
/-- E-STOP locks a part in READY with the slot empty, and a stop in STOPPING keeps its primary cause (R94). -/
theorem test_estop_by_run_state :
    ((left (exec (.estop true) (armed .ready))).run.state, (left (exec (.estop true) (armed .ready))).run.report.primary) =
      (.locked, some ⟨.estop, 2, 0⟩) ∧
    ((left (exec (.estop true) stopping)).run.state, (left (exec (.estop true) stopping)).run.report.secondary) =
      (.stopping, [⟨.estop, 2, 0⟩]) := by decide

/-! #### Arithmetic -/

theorem test_meets_TheAllowedSpeedIsTheLeastTerm :
    allowedSpeed 40 [⟨0, false, 0, 0, none, 0, 300⟩, ⟨1, false, 0, 0, none, 0, 120⟩] = some 160 ∧
    (calm.nat .speedMin < 600 ∧ 600 ≤ calm.nat .speedTop ∧ calm.moveCeiling 200 (some 35000) = 952) ∧
    (sewing.planner.stopPoint = none ∧ sewing.store.pendingRecords = [(2, .stitch 5 6), (3, .jump 1 1)] ∧
      (Rec.stitch 5 6).move = some ⟨5, 6⟩ ∧ (Rec.jump 1 1).move = some ⟨1, 1⟩) ∧
    (let s := { sewing with store := { sewing.store with records := [.stitch 3 4, .stitch 4 (-4), .stitch 5 6, .endRec] } }
     s.store.pendingRecords = [(2, .stitch 5 6), (3, .endRec)] ∧ (s.func.stopType .endRec).isSome = true) ∧
    (let s := { sewing with store := { sewing.store with
       records := [.stitch 3 4, .stitch 4 (-4), .stitch 5 6], fill := 3, endLoaded := false } }
     s.store.pendingRecords = [(2, .stitch 5 6)]) ∧
    (let s := { calm with func := { calm.func with bankA := calm.func.bankA.set 9 ⟨.slow 300 2, [], .sewing, false⟩ } }
     (s.func.entry 9).effect = .slow 300 2) ∧
    (calm.func.entry 9).effect = .none ∧ sewing.planner.prev = some 300 := by decide

end Sys2Proof.Tests
end

section
/-! PROOFS. The Design Store's laws, R2 and R5: what each operation of the store keeps of them, whatever the part is doing. -/

namespace Sys2Proof.Machine

/-! ### Displacements and the targets of a list of records -/

@[simp] theorem Pt.add_zero (p : Pt) : p.add .zero = p := by simp [Pt.add, Pt.zero]
@[simp] theorem Pt.zero_add (p : Pt) : Pt.zero.add p = p := by simp [Pt.add, Pt.zero]
@[simp] theorem Pt.sub_zero (p : Pt) : p.sub .zero = p := by simp [Pt.sub, Pt.zero]
theorem Pt.add_assoc (a b c : Pt) : (a.add b).add c = a.add (b.add c) := by simp [Pt.add, Int.add_assoc]
/-- What is added at the end of a stretch leaves its beginning. -/
theorem Pt.add_sub_add_right (a b c : Pt) : (a.add c).sub (b.add c) = a.sub b := by
  simp only [Pt.sub, Pt.add, Pt.mk.injEq]; omega
/-- What is taken off the beginning of a stretch moves the beginning. -/
theorem Pt.sub_eq_sub_add_add (a b c : Pt) : a.sub c = (a.sub (b.add c)).add b := by
  simp only [Pt.sub, Pt.add, Pt.mk.injEq]; omega
/-- What is taken off the end of a stretch leaves its beginning. -/
theorem Pt.sub_sub_eq (a b c : Pt) : (a.sub c).sub b = a.sub (b.add c) := by
  simp only [Pt.sub, Pt.add, Pt.mk.injEq]; omega

/-- Two lists of records lead as far as the one and then the other. -/
theorem travel_append (l m : List Rec) : travel (l ++ m) = (travel l).add (travel m) := by
  induction l with
  | nil => simp [travel]
  | cons r l ih => simp [travel, ih, Pt.add_assoc]

/-- The targets of two lists of records, the second going on from where the first leads. -/
theorem turnTargets_append (origin : Pt) (l m : List Rec) (pos : Pt) :
    turnTargets origin pos (l ++ m) = turnTargets origin pos l ++ turnTargets origin (pos.add (travel l)) m := by
  induction l generalizing pos with
  | nil => simp [turnTargets, travel]
  | cons r l ih =>
    cases hr : r.move <;> simp [turnTargets, travel, hr, ih, Pt.add_assoc]

/-- Records with no turn among them lead nowhere. -/
theorem travel_of_zero_turns {l : List Rec} (h : ∀ r ∈ l, r.move = none) : travel l = .zero := by
  induction l with
  | nil => rfl
  | cons r l ih => simp [travel, h r (by simp), ih fun x hx => h x (by simp [hx])]

/-- The positions that indexed records add up to are those of the records. -/
theorem foldl_moves (l : List (Nat × Rec)) (p : Pt) :
    l.foldl (fun p r => p.add (r.2.move.getD .zero)) p = p.add (travel (l.map Prod.snd)) := by
  induction l generalizing p with
  | nil => simp [travel]
  | cons r l ih => simp [travel, ih, Pt.add_assoc]

/-- The records of a list with their indices, without them. -/
theorem map_snd_indexed (k : Nat) (l : List Rec) : (indexed k l).map Prod.snd = l := by
  induction l generalizing k with
  | nil => rfl
  | cons r l ih => simp [indexed, ih]

/-- The index of each record of a list. -/
theorem indexed_getElem? (k : Nat) (l : List Rec) (i : Nat) : (indexed k l)[i]? = l[i]?.map fun r => (k + i, r) := by
  induction l generalizing k i with
  | nil => simp [indexed]
  | cons r l ih =>
    cases i with
    | zero => simp [indexed]
    | succ i => simp [indexed, ih, Nat.add_assoc, Nat.add_comm 1]

@[simp] theorem indexed_length (k : Nat) (l : List Rec) : (indexed k l).length = l.length := by
  rw [← List.length_map (f := Prod.snd), map_snd_indexed]

/-- The index of a record by the records before it. -/
theorem index_of_indexed_eq {k : Nat} {l : List Rec} {before after : List (Nat × Rec)} {p : Nat × Rec}
    (h : indexed k l = before ++ p :: after) : p.1 = k + before.length := by
  have hp := indexed_getElem? k l before.length
  rw [h, List.getElem?_append_right (Nat.le_refl _), Nat.sub_self, List.getElem?_cons_zero, eq_comm,
    Option.map_eq_some_iff] at hp
  obtain ⟨r, -, hr⟩ := hp
  rw [← hr]

/-- The index of the last record of a beginning of an indexed list. -/
theorem index_of_prefix_indexed {k : Nat} {l : List Rec} {before : List (Nat × Rec)} {p : Nat × Rec}
    (h : before ++ [p] <+: indexed k l) : p.1 + 1 = k + (before ++ [p]).length := by
  obtain ⟨after, ha⟩ := h
  have := index_of_indexed_eq (k := k) (l := l) (before := before) (after := after) (p := p) (by simp [← ha])
  simp [this, Nat.add_assoc]

/-! ### The two laws of a store, and what keeps them -/

/-- The soft-limit law of R5 as a law of the store alone, `ok` being the coordinates within the limits. -/
def Store.Within (ok : Pt → Bool) (st : Store) : Prop :=
  (st.isOpen = false → st.records = []) ∧ st.fillPos = st.basePos.add (travel st.records) ∧
  ∀ p ∈ turnTargets st.origin st.basePos st.records, ok p = true

theorem limitLaw_iff (s : State) : s.LimitLaw ↔ s.store.Law ∧ s.store.Within s.inLimits := Iff.rfl

/-- A change of the store keeps the law of the ring, and with it the soft-limit law of whatever limits stand. -/
def Store.Safe (st st' : Store) : Prop := st.Law → st'.Law ∧ ∀ ok, st.Within ok → st'.Within ok

/-- A store with nothing in it meets both laws, whatever the limits. -/
theorem Store.safe_of_cleared {st st' : Store} (hr : st'.records = []) (hp : st'.fillPos = st'.cursorPos)
    (hc : st'.retire = st'.cursor) (hf : st'.fill = st'.cursor) (h0 : st'.cursor = 0) : st.Safe st' := by
  intro _
  refine ⟨⟨by omega, by omega, by simp [hf, h0], by omega, by simp [hr, hc, hf]⟩, fun ok _ => ⟨fun _ => hr, ?_, ?_⟩⟩
  · simp [Store.basePos, hr, hp, travel]
  · simp [hr, turnTargets]

/-- The store emptied, for a design or for none (R4, R6, R23). -/
theorem Store.safe_empty (st : Store) (check : StoreCheck) (isOpen : Bool) (origin : Pt) :
    st.Safe { Store.empty check with isOpen := isOpen, origin := origin } :=
  Store.safe_of_cleared rfl rfl rfl rfl rfl

/-- A change that leaves the records, the positions and the three indices (R20, R21, R22). -/
theorem Store.safe_flags (st : Store) (fillColour cursorColour : Nat) (endLoaded lowArmed : Bool) (check : StoreCheck) :
    st.Safe { st with
      fillColour := fillColour, cursorColour := cursorColour, endLoaded := endLoaded, lowArmed := lowArmed, check := check } :=
  fun hl => ⟨hl, fun _ hw => hw⟩

/-- Retention frees records from the front, never past the cursor (R18). -/
theorem Store.safe_retireTo (st : Store) {k : Nat} (hk : k ≤ st.cursor) : st.Safe (st.retireTo k) := by
  intro ⟨hrc, hcf, htop, hsl, hlen⟩
  unfold Store.retireTo
  split
  case isFalse => exact ⟨⟨hrc, hcf, htop, hsl, hlen⟩, fun _ hw => hw⟩
  case isTrue hlt =>
    refine ⟨⟨hk, hcf, htop, by dsimp only; omega, by simp only [List.length_drop]; omega⟩, ?_⟩
    rintro ok ⟨hopen, hfill, hall⟩
    have hsplit : st.records.take (k - st.retire) ++ st.records.drop (k - st.retire) = st.records :=
      List.take_append_drop _ _
    have hbase : ({ st with records := st.records.drop (k - st.retire), retire := k } : Store).basePos =
        st.basePos.add (travel (st.records.take (k - st.retire))) := by
      have htake : st.records.take (st.cursor - st.retire) =
          st.records.take (k - st.retire) ++ (st.records.drop (k - st.retire)).take (st.cursor - k) := by
        rw [← List.take_add]; congr 1; omega
      simp only [Store.basePos, htake, travel_append]
      exact Pt.sub_eq_sub_add_add _ _ _
    refine ⟨fun ho => by simp [hopen ho], ?_, ?_⟩
    · rw [hbase, Pt.add_assoc, ← travel_append, hsplit]; exact hfill
    · intro p hp
      rw [hbase] at hp
      refine hall p ?_
      rw [← hsplit, turnTargets_append]
      exact List.mem_append_right _ hp

/-- The cursor moves over records with its position: where the history begins and what is held stay as they are. -/
theorem Store.safe_moveCursor (st : Store) {c : Nat} {pos : Pt} (colour : Nat) (low : Bool) (hc : st.retire ≤ c) (hf : c ≤ st.fill)
    (hpos : st.Law → pos.sub (travel (st.records.take (c - st.retire))) = st.basePos) :
    st.Safe { st with cursor := c, cursorPos := pos, cursorColour := colour, lowArmed := low } := by
  intro hl
  have hbase : ({ st with cursor := c, cursorPos := pos, cursorColour := colour, lowArmed := low } : Store).basePos = st.basePos :=
    hpos hl
  obtain ⟨-, -, htop, hsl, hlen⟩ := hl
  refine ⟨⟨hc, hf, htop, hsl, hlen⟩, ?_⟩
  rintro ok ⟨hopen, hfill, hall⟩
  exact ⟨hopen, by rw [hbase]; exact hfill, by rw [hbase]; exact hall⟩

/-- The records a cursor has gone past, when it goes forward over n more. -/
theorem Store.take_history_add (st : Store) {n c : Nat} (hc : st.retire ≤ st.cursor) (hn : c = st.cursor + n) :
    st.records.take (c - st.retire) =
      st.records.take (st.cursor - st.retire) ++ (st.records.drop (st.cursor - st.retire)).take n := by
  rw [← List.take_add]; congr 1; omega

/-- Records that begin the pending ones do not go past fill. -/
theorem Store.pending_length (st : Store) (hl : st.Law) {records : List (Nat × Rec)} (hp : records <+: st.pendingRecords) :
    st.cursor + records.length ≤ st.fill := by
  have h := hp.length_le
  obtain ⟨hrc, hcf, -, -, hlen⟩ := hl
  simp only [Store.pendingRecords, indexed_length, List.length_drop] at h
  omega

/-- The cursor advances over records that begin the pending ones (R11, R16). -/
theorem Store.safe_advance (st : Store) {records : List (Nat × Rec)} {c : Nat} (hp : records <+: st.pendingRecords)
    (hc : c = st.cursor + records.length) : st.Safe (st.advance records c) := by
  intro hl
  have hfill := st.pending_length hl hp
  have hrc := hl.1
  refine st.safe_moveCursor _ _ (by omega) (by omega) ?_ hl
  intro _
  have hr : records.map Prod.snd = (st.records.drop (st.cursor - st.retire)).take records.length := by
    have h := List.prefix_iff_eq_take.mp (hp.map Prod.snd)
    rwa [Store.pendingRecords, map_snd_indexed, List.length_map] at h
  rw [foldl_moves, st.take_history_add hrc hc, travel_append, hr]
  exact Pt.add_sub_add_right _ _ _

/-! ### Steps (R15, R16) -/

/-- The records up to the first turn begin the list, and the turn is the last of them. -/
theorem upToTurn_spec (l : List (Nat × Rec)) :
    (∃ zero p, upToTurn l = (zero ++ [p], some p) ∧ zero ++ [p] <+: l ∧ p.2.move.isSome ∧ ∀ x ∈ zero, x.2.move = none) ∨
    (upToTurn l = (l, none) ∧ ∀ x ∈ l, x.2.move = none) := by
  induction l with
  | nil => exact .inr ⟨rfl, by simp⟩
  | cons q l ih =>
    by_cases hq : q.2.move.isSome = true
    · exact .inl ⟨[], q, by simp [upToTurn, hq], by simp, hq, by simp⟩
    · have hn : q.2.move = none := by simpa using hq
      rcases ih with ⟨zero, p, he, hpre, hp, hz⟩ | ⟨he, hz⟩
      · exact .inl ⟨q :: zero, p, by simp [upToTurn, hn, he], by simpa using hpre, hp, by simpa [hn] using hz⟩
      · exact .inr ⟨by simp [upToTurn, hn, he], by simpa [hn] using hz⟩

/-- A step forward with its bound between the cursor and fill (R16). -/
theorem Store.safe_stepForward (st : Store) {e : Nat} (he : st.cursor < e) (hf : e ≤ st.fill) :
    st.Safe (st.stepForward e).store := by
  intro hl
  obtain ⟨hrc, hcf, -, -, hlen⟩ := id hl
  have hlen' : (st.pendingRecords.take (e - st.cursor)).length = e - st.cursor := by
    simp only [Store.pendingRecords, List.length_take, indexed_length, List.length_drop]; omega
  have hpre : st.pendingRecords.take (e - st.cursor) <+: st.pendingRecords := List.take_prefix _ _
  unfold Store.stepForward
  rcases upToTurn_spec (st.pendingRecords.take (e - st.cursor)) with ⟨zero, p, hu, hz, -, -⟩ | ⟨hu, -⟩
  · have hp := hz.trans hpre
    have hlast : p.1 + 1 = st.cursor + (zero ++ [p]).length := index_of_prefix_indexed hp
    simp only [hu]
    exact st.safe_advance hp hlast hl
  · simp only [hu]
    exact st.safe_advance hpre (by omega) hl

/-- A step back with its bound between retire and the cursor (R15). -/
theorem Store.safe_stepBack (st : Store) {b : Nat} (hb : st.retire ≤ b) (hc : b < st.cursor) :
    st.Safe (st.stepBack b).store := by
  intro hl
  obtain ⟨hrc, hcf, -, -, hlen⟩ := id hl
  have hsplit : st.records.take (st.cursor - st.retire) = st.records.take (b - st.retire) ++
      (st.records.take (st.cursor - st.retire)).drop (b - st.retire) := by
    conv_lhs => rw [← List.take_append_drop (b - st.retire) (st.records.take (st.cursor - st.retire)), List.take_take]
    rw [Nat.min_eq_left (by omega)]
  unfold Store.stepBack
  generalize (st.records.take (st.cursor - st.retire)).drop (b - st.retire) = span at hsplit
  rcases upToTurn_spec (indexed b span).reverse with ⟨zero, p, hu, ⟨rest, hr⟩, hp, hz⟩ | ⟨hu, hz⟩
  · have hspan : indexed b span = rest.reverse ++ p :: zero.reverse := by
      rw [← List.reverse_reverse (indexed b span), ← hr]; simp
    have hrecs : span = rest.reverse.map Prod.snd ++ p.2 :: zero.reverse.map Prod.snd := by
      rw [← map_snd_indexed b span, hspan]; simp
    have hat : p.1 = b + rest.length := by simpa using index_of_indexed_eq hspan
    have hturn : p.1 < st.cursor := by
      have h := congrArg List.length (hsplit.trans (by rw [hrecs]))
      simp only [List.length_take, List.length_append, List.length_map, List.length_reverse, List.length_cons] at h
      omega
    have hbefore : st.records.take (p.1 - st.retire) = st.records.take (b - st.retire) ++ rest.reverse.map Prod.snd := by
      have h := congrArg (List.take (p.1 - st.retire)) (hsplit.trans (by rw [hrecs, ← List.append_assoc]))
      rwa [List.take_take, Nat.min_eq_left (by omega), List.take_left'] at h
      simp only [List.length_append, List.length_take, List.length_map, List.length_reverse]
      omega
    simp only [hu]
    refine st.safe_moveCursor _ st.lowArmed (by omega) (by omega) (fun _ => ?_) hl
    have hzero : travel (zero.reverse.map Prod.snd) = .zero := travel_of_zero_turns (by simpa using fun r k h => hz (k, r) h)
    rw [Store.basePos, hbefore, hsplit, hrecs, ← List.append_assoc, travel_append _ (p.2 :: _), travel, hzero, Pt.add_zero]
    exact Pt.sub_sub_eq _ _ _
  · have hzero : travel span = .zero :=
      travel_of_zero_turns fun r hr => by
        rw [← map_snd_indexed b span, List.mem_map] at hr
        obtain ⟨x, hx, rfl⟩ := hr
        exact hz x (by simpa using hx)
    simp only [hu]
    refine st.safe_moveCursor _ st.lowArmed hb (by omega) (fun _ => ?_) hl
    rw [Store.basePos, hsplit, travel_append, hzero, Pt.add_zero]

/-! ### Intake (R8, R9) -/

/-- What the checks of R8 have found of a record that passes them. -/
theorem State.of_intakeCheck {s : State} {r : Rec} (h : s.intakeCheck (some r) = none) :
    s.store.isOpen = true ∧ s.store.free ≠ 0 ∧ s.store.fill ≠ Config.indexTop ∧
    ∀ d, r.move = some d → s.inLimits ((s.store.origin.add s.store.fillPos).add d) = true := by
  simp only [State.intakeCheck] at h
  split at h; · cases h
  next ho =>
  split at h; · cases h
  split at h; · cases h
  next hfull =>
  simp only [Bool.or_eq_true, Bool.not_eq_true', not_or, Bool.not_eq_false] at ho
  refine ⟨ho.1, fun h => hfull (.inl h), fun h => hfull (.inr h), ?_⟩
  intro d hd
  rw [hd] at h
  simpa using h

/-- The fill position after an accepted record (R9). -/
theorem Store.accept_fillPos (r : Rec) (st : Store) : (st.accept r).fillPos = st.fillPos.add (r.move.getD .zero) := by
  cases r <;> simp [Store.accept, Rec.move]

/-- The records and the indices after an accepted record (R9). -/
theorem Store.accept_ring (r : Rec) (st : Store) :
    (st.accept r).records = st.records ++ [r] ∧ (st.accept r).fill = st.fill + 1 ∧ (st.accept r).retire = st.retire ∧
    (st.accept r).cursor = st.cursor ∧ (st.accept r).cursorPos = st.cursorPos ∧ (st.accept r).isOpen = st.isOpen ∧
    (st.accept r).origin = st.origin := by
  cases r <;> simp [Store.accept]

/-- A record that passes its checks is accepted within the laws (R2, R5, R8, R9). -/
theorem State.accept_safe {s : State} {r : Rec} (hc : s.intakeCheck (some r) = none) (hl : s.store.Law) :
    (s.store.accept r).Law ∧ (s.store.Within s.inLimits → (s.store.accept r).Within s.inLimits) := by
  obtain ⟨hopen, hfree, htop', hlimit⟩ := State.of_intakeCheck hc
  obtain ⟨hrecs, hfill, hret, hcur, hpos, hopen', horigin⟩ := s.store.accept_ring r
  have hfp := s.store.accept_fillPos r
  generalize s.store.accept r = st' at *
  obtain ⟨hrc, hcf, htop, hsl, hlen⟩ := hl
  simp only [Store.free] at hfree
  refine ⟨⟨by omega, by omega, by omega, by omega, by simp only [hrecs, List.length_append, List.length_singleton]; omega⟩, ?_⟩
  rintro ⟨-, hp, hall⟩
  have hbase : st'.basePos = s.store.basePos := by
    simp only [Store.basePos, hrecs, hret, hcur, hpos]
    rw [List.take_append_of_le_length (by omega)]
  refine ⟨fun h => by simp [hopen', hopen] at h, ?_, ?_⟩
  · rw [hfp, hp, hbase, hrecs, travel_append, Pt.add_assoc]; simp [travel]
  · intro p hp'
    rw [hrecs, hbase, horigin, turnTargets_append, List.mem_append, ← hp] at hp'
    rcases hp' with hp' | hp'
    · exact hall p hp'
    · cases hd : r.move <;> simp only [turnTargets, hd, List.not_mem_nil, List.mem_singleton] at hp'
      rw [hp', ← Pt.add_assoc]
      exact hlimit _ hd

end Sys2Proof.Machine
end

section
/-! PROOFS. Every step keeps the store's laws (R2, R5): one lemma for each operation of the machine, from the smallest up to the
commands, says that what held of the store before still holds after it. -/

namespace Sys2Proof.Machine

/-- What the two laws of the store said of state a, they say of state s. -/
def State.Keeps (a s : State) : Prop := (a.store.Law → s.store.Law) ∧ (a.LimitLaw → s.LimitLaw)

variable {a s : State}

theorem State.Keeps.refl (s : State) : s.Keeps s := ⟨id, id⟩

theorem State.Keeps.trans {t : State} (h : a.Keeps s) (h' : s.Keeps t) : a.Keeps t := ⟨h'.1 ∘ h.1, h'.2 ∘ h.2⟩

/-- The limits stand in the parameters. -/
theorem inLimits_congr {t : State} (hp : t.params = s.params) : t.inLimits = s.inLimits := by
  funext p
  unfold State.inLimits State.par
  rw [hp]

/-- The laws read the store and the parameters alone. -/
theorem keeps_congr {t : State} (hs : t.store = s.store) (hp : t.params = s.params) : a.Keeps t ↔ a.Keeps s := by
  simp only [State.Keeps, limitLaw_iff, hs, inLimits_congr hp]

/-- A change of the store that is safe. -/
theorem State.Keeps.of_safe {t : State} (h : a.Keeps s) (hs : s.store.Safe t.store) (hp : t.params = s.params) : a.Keeps t := by
  refine h.trans ⟨fun hl => (hs hl).1, fun hw => ?_⟩
  rw [limitLaw_iff] at hw ⊢
  rw [inLimits_congr hp]
  exact ⟨(hs hw.1).1, (hs hw.1).2 _ hw.2⟩

theorem State.Keeps.modStore (h : a.Keeps s) {f : Store → Store} (hf : s.store.Safe (f s.store)) : a.Keeps (s.modStore f) :=
  h.of_safe hf rfl

/-! ### Operations that leave the store and the parameters as they are -/

@[simp] theorem keeps_modPins (f : Pins → Pins) : a.Keeps (s.modPins f) ↔ a.Keeps s := keeps_congr rfl rfl
@[simp] theorem keeps_modShaft (f : Shaft → Shaft) : a.Keeps (s.modShaft f) ↔ a.Keeps s := keeps_congr rfl rfl
@[simp] theorem keeps_modPlanner (f : Planner → Planner) : a.Keeps (s.modPlanner f) ↔ a.Keeps s := keeps_congr rfl rfl
@[simp] theorem keeps_modFrame (f : Frame → Frame) : a.Keeps (s.modFrame f) ↔ a.Keeps s := keeps_congr rfl rfl
@[simp] theorem keeps_modRun (f : Run → Run) : a.Keeps (s.modRun f) ↔ a.Keeps s := keeps_congr rfl rfl
@[simp] theorem keeps_modFunc (f : FuncUnit → FuncUnit) : a.Keeps (s.modFunc f) ↔ a.Keeps s := keeps_congr rfl rfl
@[simp] theorem keeps_modNeedle (f : NeedleBar → NeedleBar) : a.Keeps (s.modNeedle f) ↔ a.Keeps s := keeps_congr rfl rfl
@[simp] theorem keeps_modThread (f : ThreadUnit → ThreadUnit) : a.Keeps (s.modThread f) ↔ a.Keeps s := keeps_congr rfl rfl
@[simp] theorem keeps_modTable (f : HeadTable → HeadTable) : a.Keeps (s.modTable f) ↔ a.Keeps s := keeps_congr rfl rfl
@[simp] theorem keeps_modNotices (f : NoticeUnit → NoticeUnit) : a.Keeps (s.modNotices f) ↔ a.Keeps s := keeps_congr rfl rfl
@[simp] theorem keeps_modLink (f : Link → Link) : a.Keeps (s.modLink f) ↔ a.Keeps s := keeps_congr rfl rfl
@[simp] theorem keeps_modHead (h : Head) (f : HeadEntry → HeadEntry) : a.Keeps (s.modHead h f) ↔ a.Keeps s := keeps_congr rfl rfl
@[simp] theorem keeps_modHeads (f : Head → HeadEntry → HeadEntry) : a.Keeps (s.modHeads f) ↔ a.Keeps s := keeps_congr rfl rfl
@[simp] theorem keeps_modMonitor (h : Head) (f : Monitor → Monitor) : a.Keeps (s.modMonitor h f) ↔ a.Keeps s := keeps_congr rfl rfl
@[simp] theorem keeps_modMonitors (f : Head → Monitor → Monitor) : a.Keeps (s.modMonitors f) ↔ a.Keeps s := keeps_congr rfl rfl
@[simp] theorem keeps_modChannel (c : Chan) (f : Channel → Channel) : a.Keeps (s.modChannel c f) ↔ a.Keeps s := keeps_congr rfl rfl
@[simp] theorem keeps_modChannels (f : Chan → Channel → Channel) : a.Keeps (s.modChannels f) ↔ a.Keeps s := keeps_congr rfl rfl

/-- The two ways of a choice, however it is decided. -/
@[simp] theorem keeps_ite (c : Prop) {_ : Decidable c} (t : State) :
    a.Keeps (if c then s else t) ↔ if c then a.Keeps s else a.Keeps t := by split <;> rfl

@[simp] theorem keeps_rebuild : a.Keeps (rebuild s) ↔ a.Keeps s := keeps_congr rfl rfl
@[simp] theorem keeps_raiseNotice (src : Source) (i : Nat) (d : List Byte) : a.Keeps (raiseNotice src i d s) ↔ a.Keeps s :=
  keeps_congr rfl rfl
@[simp] theorem keeps_setRunState (r : RunState) : a.Keeps (setRunState r s) ↔ a.Keeps s := keeps_congr (by simp) (by simp)
@[simp] theorem keeps_endOperation (r : OpResult) (d : List Byte) : a.Keeps (endOperation r d s) ↔ a.Keeps s :=
  keeps_congr (by simp) (by simp)
@[simp] theorem keeps_fillSlot (k : OpKind) (w : Starter) (g : Option Goal) : a.Keeps (fillSlot k w g s) ↔ a.Keeps s :=
  keeps_congr rfl rfl
@[simp] theorem keeps_clearResume : a.Keeps (clearResume s) ↔ a.Keeps s := keeps_congr rfl rfl
@[simp] theorem keeps_discardInject : a.Keeps (discardInject s) ↔ a.Keeps s := by
  unfold discardInject; split <;> simp
@[simp] theorem keeps_setTension (l : List (BitVec 10)) : a.Keeps (setTension l s) ↔ a.Keeps s := keeps_congr rfl rfl
@[simp] theorem keeps_setSwitches (l : Option (Bool × Bool)) : a.Keeps (setSwitches l s) ↔ a.Keeps s := by
  unfold setSwitches; split <;> simp
@[simp] theorem keeps_setPosition (v : BitVec 4) : a.Keeps (setPosition v s) ↔ a.Keeps s := keeps_congr rfl rfl
@[simp] theorem keeps_setDrive (ready fault : Bool) : a.Keeps (setDrive ready fault s) ↔ a.Keeps s := keeps_congr rfl rfl
@[simp] theorem keeps_setEstop (b : Bool) : a.Keeps (setEstop b s) ↔ a.Keeps s := keeps_congr rfl rfl
@[simp] theorem keeps_tick : a.Keeps (tick s) ↔ a.Keeps s := keeps_congr rfl rfl

/-! #### The planner (chapter 3) -/

@[simp] theorem keeps_enterEffect (c : Code) : a.Keeps (enterEffect c s) ↔ a.Keeps s := by
  unfold enterEffect; split <;> simp
@[simp] theorem keeps_enterAll (l : List Code) : a.Keeps (enterAll l s) ↔ a.Keeps s := by
  induction l generalizing s with
  | nil => rfl
  | cons c l ih => simp [enterAll, ih]
@[simp] theorem keeps_zeroDemand : a.Keeps (zeroDemand s) ↔ a.Keeps s := keeps_congr rfl rfl
@[simp] theorem keeps_requestStopPoint (c : Cause) : a.Keeps (requestStopPoint c s) ↔ a.Keeps s := keeps_congr rfl rfl
@[simp] theorem keeps_clearStopPoint : a.Keeps (clearStopPoint s) ↔ a.Keeps s := keeps_congr rfl rfl
@[simp] theorem keeps_plannerAtRest : a.Keeps (plannerAtRest s) ↔ a.Keeps s := keeps_congr rfl rfl
@[simp] theorem keeps_rebuildAtLoad : a.Keeps (rebuildAtLoad s) ↔ a.Keeps s := keeps_congr (by simp) (by simp)

/-! #### The functions and the channels (chapter 6) -/

@[simp] theorem keeps_restartHoldoff (hs : HeadSet) (f : Nat) : a.Keeps (restartHoldoff hs f s) ↔ a.Keeps s := keeps_congr rfl rfl
@[simp] theorem keeps_carryItems (angle : Nat) (owed : Owed) (hs : HeadSet) (common : Bool) (l : List Action) :
    a.Keeps (carryItems angle owed hs common l s) ↔ a.Keeps s := by
  induction l generalizing s with
  | nil => rfl
  | cons x l ih => simp [carryItems, ih]
@[simp] theorem keeps_carryOut (owed : Owed) (hs : HeadSet) (f : Nat) (c : Code) : a.Keeps (carryOut owed hs f c s) ↔ a.Keeps s := by
  simp [carryOut]
@[simp] theorem keeps_carryAll (owed : Owed) (hs : HeadSet) (f : Nat) (l : List Code) :
    a.Keeps (carryAll owed hs f l s) ↔ a.Keeps s := by
  induction l generalizing s with
  | nil => rfl
  | cons c l ih => simp [carryAll, ih]
@[simp] theorem keeps_cancelPulses : a.Keeps (cancelPulses s) ↔ a.Keeps s := keeps_congr rfl rfl
@[simp] theorem keeps_idleChannels : a.Keeps (idleChannels s) ↔ a.Keeps s := keeps_congr rfl rfl
@[simp] theorem keeps_endChannelTest : a.Keeps (endChannelTest s) ↔ a.Keeps s := by
  unfold endChannelTest; split <;> simp

/-! #### The needle bar and the frame (chapters 4 and 7) -/

@[simp] theorem keeps_beginChange (p : ChangePurpose) (n : Nat) (w : Starter) : a.Keeps (beginChange p n w s).1 ↔ a.Keeps s := by
  unfold beginChange; split <;> simp
@[simp] theorem keeps_releaseChange : a.Keeps (releaseChange s) ↔ a.Keeps s := keeps_congr rfl rfl
@[simp] theorem keeps_movePosition (v : BitVec 4) : a.Keeps (movePosition v s) ↔ a.Keeps s := by
  simp [movePosition]
@[simp] theorem keeps_startSettle : a.Keeps (startSettle s) ↔ a.Keeps s := keeps_congr rfl rfl
@[simp] theorem keeps_takeSettled : a.Keeps (takeSettled s) ↔ a.Keeps s := keeps_congr rfl rfl
@[simp] theorem keeps_lowerNeedles (n : Nat) : a.Keeps (lowerNeedles n s) ↔ a.Keeps s := keeps_congr rfl rfl
@[simp] theorem keeps_watchAfterCheck : a.Keeps (watchAfterCheck s) ↔ a.Keeps s := by
  unfold watchAfterCheck; split <;> simp
@[simp] theorem keeps_arriveAt (c : Pt) (m : Move) : a.Keeps (arriveAt c m s) ↔ a.Keeps s := keeps_congr rfl rfl
@[simp] theorem keeps_turnMoveEnds : a.Keeps (turnMoveEnds s) ↔ a.Keeps s := by
  rw [turnMoveEnds_eq]; exact keeps_congr rfl rfl
@[simp] theorem keeps_beginChunked (p : Purpose) (target : Pt) (turn : Option Nat) :
    a.Keeps (beginChunked p target turn s).1 ↔ a.Keeps s := by
  rw [beginChunked_eq]; split <;> simp
@[simp] theorem keeps_beginTurnMove (t : Nat) (j : Bool) (target : Pt) : a.Keeps (beginTurnMove t j target s) ↔ a.Keeps s := by
  rw [beginTurnMove_eq]; exact keeps_congr rfl rfl
@[simp] theorem keeps_offsetToFrame : a.Keeps (offsetToFrame s) ↔ a.Keeps s := keeps_congr rfl rfl
@[simp] theorem keeps_markAbort (w : AbortBy) : a.Keeps (markAbort w s) ↔ a.Keeps s := keeps_congr rfl rfl
@[simp] theorem keeps_haltFrame : a.Keeps (haltFrame s) ↔ a.Keeps s := keeps_congr rfl rfl
@[simp] theorem keeps_emitStep (ax : Axis) : a.Keeps (emitStep ax s) ↔ a.Keeps s := keeps_congr rfl rfl
@[simp] theorem keeps_homingMove (h : Homing) : a.Keeps (homingMove h s) ↔ a.Keeps s := by simp [homingMove]
@[simp] theorem keeps_beginAxis (h : Homing) (ax : Axis) : a.Keeps (beginAxis h ax s) ↔ a.Keeps s := by simp [beginAxis]
@[simp] theorem keeps_applyReference : a.Keeps (applyReference s) ↔ a.Keeps s := keeps_congr rfl rfl

/-! #### The threads and the heads (chapters 8 and 9) -/

@[simp] theorem keeps_reportTurn (t : Nat) (hs : HeadSet) : a.Keeps (reportTurn t hs s) ↔ a.Keeps s := keeps_congr rfl rfl
@[simp] theorem keeps_beginSensorTest (hs : HeadSet) : a.Keeps (beginSensorTest hs s) ↔ a.Keeps s := keeps_congr rfl rfl
@[simp] theorem keeps_releaseSensorTest : a.Keeps (releaseSensorTest s) ↔ a.Keeps s := keeps_congr rfl rfl
@[simp] theorem keeps_giveVerdicts (x : SensorTest) : a.Keeps (giveVerdicts x s) ↔ a.Keeps s := keeps_congr rfl rfl
@[simp] theorem keeps_faultHeldHeads : a.Keeps (faultHeldHeads s) ↔ a.Keeps s := keeps_congr rfl rfl
@[simp] theorem keeps_leaveSelection (h : Head) : a.Keeps (leaveSelection h s) ↔ a.Keeps s := keeps_congr rfl rfl
@[simp] theorem keeps_clearFault (h : Head) : a.Keeps (clearFault h s) ↔ a.Keeps s := keeps_congr rfl rfl
@[simp] theorem keeps_raiseHeadFault (h : Head) (f : FaultRecord) (o : FaultOutcome) (g : Option Nat) :
    a.Keeps (raiseHeadFault h f o g s) ↔ a.Keeps s := keeps_congr rfl rfl
@[simp] theorem keeps_latchStartFaults (l : List (Head × FaultRecord)) : a.Keeps (latchStartFaults l s) ↔ a.Keeps s := by
  induction l generalizing s with
  | nil => rfl
  | cons x l ih => simp [latchStartFaults, ih]

/-- A gap that is opened leaves the store alone. -/
theorem openHeadGap_frame {h : Head} {i : Nat} {t : State} (ho : openHeadGap h i s = some t) :
    t.store = s.store ∧ t.params = s.params := by
  simp only [openHeadGap, Option.map_eq_some_iff] at ho
  obtain ⟨gaps, -, rfl⟩ := ho
  exact ⟨rfl, rfl⟩
theorem keeps_of_openHeadGap {h : Head} {i : Nat} {t : State} (ho : openHeadGap h i s = some t) : a.Keeps t ↔ a.Keeps s :=
  keeps_congr (openHeadGap_frame ho).1 (openHeadGap_frame ho).2
@[simp] theorem keeps_openHeadGap_getD (h : Head) (i : Nat) : a.Keeps ((openHeadGap h i s).getD s) ↔ a.Keeps s := by
  cases ho : openHeadGap h i s with
  | none => rfl
  | some t => exact keeps_of_openHeadGap ho
@[simp] theorem keeps_openAtStart (l : List Head) : a.Keeps (openAtStart l s) ↔ a.Keeps s := by
  induction l generalizing s with
  | nil => rfl
  | cons h l ih => simp [openAtStart, ih]
@[simp] theorem keeps_openAtRepairEnd (i : Nat) (l : List Head) : a.Keeps (openAtRepairEnd i l s).1 ↔ a.Keeps s := by
  induction l generalizing s with
  | nil => rfl
  | cons h l ih =>
    unfold openAtRepairEnd
    split
    · split
      · next ho => rw [ih, keeps_of_openHeadGap ho]
      · simp [ih]
    · exact ih
@[simp] theorem keeps_endRepair : a.Keeps (endRepair s).1 ↔ a.Keeps s := by simp [endRepair]
@[simp] theorem keeps_judgeRepair (l : List (Nat × Rec)) : a.Keeps (judgeRepair l s).1 ↔ a.Keeps s := by
  unfold judgeRepair; split <;> simp

/-! #### The shaft's line and the causes' records (chapters 2 and 5) -/

@[simp] theorem keeps_restShaft : a.Keeps (restShaft s) ↔ a.Keeps s := keeps_congr rfl rfl
@[simp] theorem keeps_dropLine : a.Keeps (dropLine s) ↔ a.Keeps s := keeps_congr rfl rfl
@[simp] theorem keeps_assertBrake : a.Keeps (assertBrake s) ↔ a.Keeps s := keeps_congr rfl rfl
@[simp] theorem keeps_placeLine (v : Nat) : a.Keeps (placeLine v s) ↔ a.Keeps s := by simp [placeLine]
@[simp] theorem keeps_planTurn : a.Keeps (planTurn s) ↔ a.Keeps s := by simp [planTurn]
@[simp] theorem keeps_noteCount : a.Keeps (noteCount s) ↔ a.Keeps s := keeps_congr rfl rfl
@[simp] theorem keeps_endRevolution (us : Nat) : a.Keeps (endRevolution us s) ↔ a.Keeps s := keeps_congr rfl rfl
@[simp] theorem keeps_indexReverse : a.Keeps (indexReverse s) ↔ a.Keeps s := keeps_congr rfl rfl
@[simp] theorem keeps_restMark : a.Keeps (restMark s) ↔ a.Keeps s := by simp [restMark]
@[simp] theorem keeps_brakeMark : a.Keeps (brakeMark s) ↔ a.Keeps s := by simp [brakeMark]
@[simp] theorem keeps_takeWindowStart : a.Keeps (takeWindowStart s).1 ↔ a.Keeps s := by
  unfold takeWindowStart; split <;> simp
@[simp] theorem keeps_appendCause (c : Cause) (i : Nat) : a.Keeps (appendCause c i s) ↔ a.Keeps s := by simp [appendCause]
@[simp] theorem keeps_causeInHalted (c : Cause) (i : Nat) : a.Keeps (causeInHalted c i s) ↔ a.Keeps s := by simp [causeInHalted]
@[simp] theorem keeps_recordPrimary (c : Cause) (i : Nat) : a.Keeps (recordPrimary c i s) ↔ a.Keeps s := by simp [recordPrimary]
@[simp] theorem keeps_convertKind (c : Cause) : a.Keeps (convertKind c s) ↔ a.Keeps s := by simp [convertKind]
@[simp] theorem keeps_recordAlone (c : Cause) (i : Nat) : a.Keeps (recordAlone c i s) ↔ a.Keeps s := by simp [recordAlone]
@[simp] theorem keeps_fillReport (r : StoppedReport) : a.Keeps (fillReport r s) ↔ a.Keeps s := by simp [fillReport]
@[simp] theorem keeps_startColourTimer : a.Keeps (startColourTimer s) ↔ a.Keeps s := by simp [startColourTimer]

/-! #### Ends of operations (chapter 5) -/

@[simp] theorem keeps_endHome (r : OpResult) : a.Keeps (endHome r s) ↔ a.Keeps s := by simp [endHome]
@[simp] theorem keeps_endOffsetMove (r : OpResult) : a.Keeps (endOffsetMove r s) ↔ a.Keeps s := by simp [endOffsetMove]
@[simp] theorem keeps_endStepwise (r : OpResult) (w : Option DetailWord) : a.Keeps (endStepwise r w s) ↔ a.Keeps s := by
  simp [endStepwise]
@[simp] theorem keeps_abortSensorTest : a.Keeps (abortSensorTest s) ↔ a.Keeps s := by
  unfold abortSensorTest; split <;> simp
@[simp] theorem keeps_finishSensorTest (x : SensorTest) : a.Keeps (finishSensorTest x s) ↔ a.Keeps s := by simp [finishSensorTest]
@[simp] theorem keeps_finishChannelTest (r : OpResult) : a.Keeps (finishChannelTest r s) ↔ a.Keeps s := by
  unfold finishChannelTest; split <;> simp
@[simp] theorem keeps_endColourChange (r : OpResult) (n ms : Nat) (w : Option DetailWord) :
    a.Keeps (endColourChange r n ms w s) ↔ a.Keeps s := by
  cases r <;> simp [endColourChange]
@[simp] theorem keeps_endChange (r : OpResult) (w : Option DetailWord) : a.Keeps (endChange r w s) ↔ a.Keeps s := by
  unfold endChange
  split
  · rfl
  · next c _ => cases c.purpose <;> simp
@[simp] theorem keeps_abortOperation (w : DetailWord) : a.Keeps (abortOperation w s) ↔ a.Keeps s := by
  unfold abortOperation
  split
  · rfl
  · next op _ => cases op.kind <;> simp
@[simp] theorem keeps_endNeedleUp (r : StoppedReport) : a.Keeps (endNeedleUp r s) ↔ a.Keeps s := by
  unfold endNeedleUp; split <;> simp
@[simp] theorem keeps_ceaseWork : a.Keeps (ceaseWork s) ↔ a.Keeps s := by
  simp only [ceaseWork, keeps_modRun]; split <;> simp
@[simp] theorem keeps_colourStop : a.Keeps (colourStop s) ↔ a.Keeps s := by
  simp only [colourStop]; split <;> simp
@[simp] theorem keeps_afterHalt : a.Keeps (afterHalt s) ↔ a.Keeps s := by simp [afterHalt]
@[simp] theorem keeps_landingCheck : a.Keeps (landingCheck s) ↔ a.Keeps s := by
  unfold landingCheck; split <;> simp
@[simp] theorem keeps_homeFound (h : Homing) : a.Keeps (homeFound h s) ↔ a.Keeps s := by simp [homeFound]
@[simp] theorem keeps_afterHomingMove (h : Homing) : a.Keeps (afterHomingMove h s) ↔ a.Keeps s := by
  unfold afterHomingMove
  split
  · simp
  · simp
  · split <;> simp
  · simp
@[simp] theorem keeps_homingStepEnds : a.Keeps (homingStepEnds s) ↔ a.Keeps s := by
  unfold homingStepEnds; split <;> simp
@[simp] theorem keeps_moveOffset (p : Purpose) (target : Pt) : a.Keeps (moveOffset p target s) ↔ a.Keeps s := by
  simp [moveOffset]
@[simp] theorem keeps_setGoal (g : Goal) : a.Keeps (setGoal g s) ↔ a.Keeps s := keeps_congr rfl rfl

/-! ### Retention, and what a stop brings with it (R18, R96, R166) -/

theorem runRetention_keeps (h : a.Keeps s) : a.Keeps (runRetention s) := h.modStore (s.store.safe_retireTo (retentionCandidate_le s))

theorem closeHeadGap_keeps (h : a.Keeps s) (x : Head) (c : Nat) : a.Keeps (closeHeadGap x c s) := by
  simp only [closeHeadGap, retainIf]
  split
  · exact runRetention_keeps (by simpa using h)
  · simpa using h

theorem closePending_keeps (h : a.Keeps s) (c : Nat) (x : Head) : a.Keeps (closePending c x s) := by
  simp [closePending, closeHeadGap_keeps, h]

theorem closeAllPending_keeps (h : a.Keeps s) (c : Nat) (l : List Head) : a.Keeps (closeAllPending c l s) := by
  induction l generalizing s with
  | nil => exact h
  | cons x l ih => exact ih (closePending_keeps h c x)

theorem closeAtTurn_keeps (h : a.Keeps s) (t : Nat) (hs : HeadSet) (l : List Head) : a.Keeps (closeAtTurn t hs l s) := by
  induction l generalizing s with
  | nil => exact h
  | cons x l ih => exact ih (by simp [closePending_keeps, h])

theorem blocksAtRest_keeps (h : a.Keeps s) : a.Keeps (blocksAtRest s) := by
  simp [blocksAtRest, closeAllPending_keeps, h]

theorem endStop_keeps (h : a.Keeps s) (r : StoppedReport) : a.Keeps (endStop r s) := by
  simp [endStop, blocksAtRest_keeps, h]

theorem tryEndStop_keeps (h : a.Keeps s) : a.Keeps (tryEndStop s) := by
  unfold tryEndStop
  split
  · simp [endStop_keeps, h]
  · exact h

theorem deliverReport_keeps (h : a.Keeps s) (r : StoppedReport) : a.Keeps (deliverReport r s) := by
  simp [deliverReport, tryEndStop_keeps, h]

theorem detectStop_keeps (h : a.Keeps s) : a.Keeps (detectStop s) := by
  simp [detectStop, deliverReport_keeps, h]

theorem brakeOrder_keeps (h : a.Keeps s) (k : BrakeOrder) : a.Keeps (brakeOrder k s) := by
  simp [brakeOrder, deliverReport_keeps, detectStop_keeps, h]

/-! ### Causes (R88, R90 to R95) -/

theorem emergency_keeps (h : a.Keeps s) : a.Keeps (emergency s) := by
  simp only [emergency]
  exact brakeOrder_keeps (by simp [h]) _

theorem goBraking_keeps (h : a.Keeps s) : a.Keeps (goBraking s) := by
  simp [goBraking, brakeOrder_keeps, h]

theorem endStart_keeps (h : a.Keeps s) : a.Keeps (endStart s) := by
  refine brakeOrder_keeps ?_ _
  split <;> simpa using h

theorem actOnRun_keeps (h : a.Keeps s) (c : Cause) (first : Bool) : a.Keeps (actOnRun c first s) := by
  unfold actOnRun
  split <;> simp [endStart_keeps, goBraking_keeps, h]

/-- A cause changes the store by the retention of a stop it ends, if by anything (R93, R94). -/
theorem takeCause_keeps (h : a.Keeps s) (c : Cause) (i : Nat) : a.Keeps (takeCause c i s) := by
  unfold takeCause
  split <;> simp [emergency_keeps, actOnRun_keeps, h]

theorem reachedAtIssue_keeps (h : a.Keeps s) (c : Cause) (i : Nat) (again : Bool) : a.Keeps (reachedAtIssue c i again s) := by
  simp [reachedAtIssue, goBraking_keeps, takeCause_keeps, h]

theorem failStartChange_keeps (h : a.Keeps s) : a.Keeps (failStartChange s) := by
  simp only [failStartChange, keeps_ite]
  simp [takeCause_keeps, tryEndStop_keeps, h]

theorem needleDownAtFrame_keeps (h : a.Keeps s) : a.Keeps (needleDownAtFrame s) := by
  unfold needleDownAtFrame
  split
  · split <;> simp [takeCause_keeps, h]
  · simp [h]

theorem needleDownAtBar_keeps (h : a.Keeps s) : a.Keeps (needleDownAtBar s) := by
  unfold needleDownAtBar
  split <;> simp [failStartChange_keeps, h]

theorem followFlag_keeps (h : a.Keeps s) (old : Bool) : a.Keeps (followFlag old s) := by
  simp [followFlag, needleDownAtBar_keeps, needleDownAtFrame_keeps, h]

/-! ### The heads (chapter 9) -/

theorem checkAllIsolated_keeps (h : a.Keeps s) : a.Keeps (checkAllIsolated s) := by
  simp [checkAllIsolated, takeCause_keeps, h]

theorem holdFault_keeps (h : a.Keeps s) (x : Head) (f : FaultRecord) (o : FaultOutcome) (g : Option Nat) :
    a.Keeps (holdFault x f o g s) := by
  simp [holdFault, takeCause_keeps, h]

theorem takeRepairFault_keeps (h : a.Keeps s) (x : Head) (f : FaultRecord) : a.Keeps (takeRepairFault x f s) := by
  simp only [takeRepairFault]
  split <;> simp [holdFault_keeps, h]

theorem takeFault_keeps (h : a.Keeps s) (x : Head) (f : FaultRecord) : a.Keeps (takeFault x f s) := by
  unfold takeFault
  split
  · exact takeRepairFault_keeps h x f
  · split
    · exact holdFault_keeps h x f _ _
    · split
      · exact holdFault_keeps h x f _ _
      · next ho => simp [checkAllIsolated_keeps, keeps_of_openHeadGap ho, h]

theorem advanceHead_keeps (h : a.Keeps s) (t : Nat) (x : Head) : a.Keeps (advanceHead t x s) := by
  simp [advanceHead, runRetention_keeps, h]

theorem completeAtHead_keeps (h : a.Keeps s) (t : Nat) (x : Head) : a.Keeps (completeAtHead t x s).1 := by
  unfold completeAtHead
  split
  · exact h
  · dsimp only
    split <;> simp [takeFault_keeps, h]

theorem completeAtHeads_keeps (h : a.Keeps s) (t : Turn) (sel : HeadSet) (l : List Head) :
    a.Keeps (completeAtHeads t sel l s) := by
  induction l generalizing s with
  | nil => exact h
  | cons x l ih => exact ih (by simp [advanceHead_keeps, completeAtHead_keeps, h])

theorem engageTurn_keeps (h : a.Keeps s) (t : Turn) : a.Keeps (engageTurn t s) := by
  simp [engageTurn, closeAtTurn_keeps, h]

theorem causesOf_keeps (h : a.Keeps s) (i : Nat) (l : List Head) : a.Keeps (causesOf i l s) := by
  induction l generalizing s with
  | nil => exact h
  | cons x l ih => exact ih (takeCause_keeps h _ i)

theorem enlist_keeps (h : a.Keeps s) (l : List Head) : a.Keeps (enlist l s) := by
  induction l generalizing s with
  | nil => exact h
  | cons x l ih => exact ih (by simp [closeHeadGap_keeps, h])

/-! ### The low mark (R20, R21) -/

theorem rearmLowMark_keeps (h : a.Keeps s) : a.Keeps (rearmLowMark s) := by
  unfold rearmLowMark
  split
  · exact h.modStore (s.store.safe_flags _ _ _ _ _)
  · exact h

theorem lowMarkTest_keeps (h : a.Keeps s) : a.Keeps (lowMarkTest s) := by
  simp only [lowMarkTest]
  split
  · exact (keeps_raiseNotice ..).mpr (h.modStore (s.store.safe_flags _ _ _ _ _))
  · exact h

/-! ### Steps of the store (R15, R16) -/

theorem afterStep_keeps (h : a.Keeps s) (back : Bool) : a.Keeps (afterStep back s) := by
  simp [afterStep, rearmLowMark_keeps, h]

theorem storeBack_keeps (h : a.Keeps s) {b : Nat} (hb : s.store.retire ≤ b) (hc : b < s.store.cursor) :
    a.Keeps (storeBack b s).1 :=
  afterStep_keeps (h.modStore (s.store.safe_stepBack hb hc)) true

theorem storeForward_keeps (h : a.Keeps s) {e : Nat} (he : s.store.cursor < e) (hf : e ≤ s.store.fill) :
    a.Keeps (storeForward e s).1 :=
  afterStep_keeps (h.modStore (s.store.safe_stepForward he hf)) false

/-! ### The outcome of a call (R10, R11) -/

/-- A scan that answers a turn: zero-turn records that do not stop, and then a turn below the stop point (R11). -/
theorem scan_eq_turn {s : State} {l records : List (Nat × Rec)} {i : Nat} {r : Rec} (h : scan s l = .turn records i r) :
    records <+: l ∧ s.planner.stopsAt i = false ∧ r.move.isSome = true ∧
    ∃ zero, records = zero ++ [(i, r)] ∧ ∀ p ∈ zero, p.2.move = none ∧ s.func.stopType p.2 = none := by
  induction l generalizing records with
  | nil => simp only [scan] at h; split at h <;> cases h
  | cons p l ih =>
    obtain ⟨k, q⟩ := p
    simp only [scan] at h
    split at h
    · cases h
    next hstop =>
    split at h
    case isTrue hmove =>
      suffices hs : s.planner.stopsAt k = false ∧ records = [(k, q)] ∧ k = i ∧ q = r by
        obtain ⟨hat, rfl, rfl, rfl⟩ := hs
        exact ⟨by simp, hat, hmove, [], rfl, by simp⟩
      split at h
      · next sp hsp => split at h <;> cases h; simp_all [Planner.stopsAt]
      · next hsp => cases h; simp_all [Planner.stopsAt]
    case isFalse hmove =>
      cases hrest : scan s l with
      | turn rs t x =>
        rw [hrest] at h
        cases h
        obtain ⟨hpre, hat, hm, zero, rfl, hz⟩ := ih hrest
        exact ⟨by simpa using hpre, hat, hm, (k, q) :: zero, rfl, 
          by simpa [hstop] using ⟨by simpa using hmove, fun a b hab => hz (a, b) hab⟩⟩
      | stop rs c x again => rw [hrest] at h; cases again <;> cases h

/-- A record that stops the machine has no move (R1, R11). -/
theorem FuncUnit.move_of_stopType {f : FuncUnit} {r : Rec} {c : Cause} (h : f.stopType r = some c) : r.move = none := by
  cases r <;> simp_all [FuncUnit.stopType, Rec.move]

/-- A scan that answers a stop: at the stop point nothing is issued; else the records are zero-turn records up to one that stops,
or all there are (R11). -/
theorem scan_eq_stop {s : State} {l records : List (Nat × Rec)} {c : Cause} {i : Nat} {again : Bool}
    (h : scan s l = .stop records c i again) :
    records <+: l ∧ (∀ p ∈ records, p.2.move = none) ∧
    (again = true → records = [] ∧ i = s.store.cursor ∧ s.planner.stopPoint.map StopPoint.cause = some c) ∧
    (again = false →
      (∃ p, records.getLast? = some p ∧ s.func.stopType p.2 = some c ∧ i = p.1) ∨
      ((∀ p ∈ records, s.func.stopType p.2 = none) ∧ records = l ∧ c = (if s.store.endLoaded then .endRec else .data) ∧
        i = (if s.store.endLoaded then s.store.fill - 1 else s.store.fill))) := by
  induction l generalizing records with
  | nil =>
    simp only [scan] at h
    split at h <;> cases h <;> simp_all
  | cons p l ih =>
    obtain ⟨k, q⟩ := p
    simp only [scan] at h
    split at h
    case h_1 c' hstop =>
      cases h
      exact ⟨by simp, by simpa using FuncUnit.move_of_stopType hstop, by simp, fun _ => .inl ⟨(i, q), by simp [hstop]⟩⟩
    next hstop =>
    split at h
    case isTrue hmove =>
      split at h
      · next sp hsp => split at h <;> cases h; simp [hsp]
      · cases h
    case isFalse hmove =>
      have hq : q.move = none := by simpa using hmove
      cases hrest : scan s l with
      | turn rs t x => rw [hrest] at h; cases h
      | stop rs c' x b =>
        rw [hrest] at h
        cases b with
        | true =>
          cases h
          obtain ⟨-, -, hat, -⟩ := ih hrest
          obtain ⟨rfl, hpoint⟩ := hat rfl
          exact ⟨by simp, by simp, fun _ => ⟨rfl, hpoint⟩, by simp⟩
        | false =>
          cases h
          obtain ⟨hpre, hz, -, hend⟩ := ih hrest
          refine ⟨by simpa using hpre, by simpa [hq] using hz, by simp, fun _ => ?_⟩
          rcases hend rfl with ⟨p, hp, hpc⟩ | ⟨hns, rfl, hci⟩
          · exact .inl ⟨p, by simp [List.getLast?_cons, hp], hpc⟩
          · exact .inr ⟨by simpa [hstop] using hns, rfl, hci⟩

/-- A call that answers a turn (R10, R11). -/
theorem callOutcome_eq_turn {s : State} {records : List (Nat × Rec)} {i : Nat} {r : Rec} (h : s.callOutcome = .turn records i r) :
    scan s s.store.pendingRecords = .turn records i r ∧ ∃ n, s.planNeedle = some n ∧ s.needle.settled = some n := by
  simp only [State.callOutcome, State.needleCheck] at h
  cases hp : s.planNeedle with
  | none => simp [hp] at h
  | some n =>
    by_cases hn : s.needle.settled = some n
    · simp only [hp, hn, if_true] at h; exact ⟨h, n, rfl, hn⟩
    · simp [hp, hn] at h

/-- A call that answers a stop, by the needle check and the scan (R10, R11). -/
theorem callOutcome_eq_stop {s : State} {records : List (Nat × Rec)} {c : Cause} {i : Nat} {again : Bool}
    (h : s.callOutcome = .stop records c i again) :
    (s.planNeedle = none ∧ records = [] ∧ c = .needlePlan ∧ i = s.store.cursor ∧ again = false) ∨
    (s.planNeedle ≠ none ∧ s.planNeedle ≠ s.needle.settled ∧ records = [] ∧ c = .needleLost ∧ i = s.store.cursor ∧
      again = false) ∨
    (s.planNeedle ≠ none ∧ s.planNeedle = s.needle.settled ∧ scan s s.store.pendingRecords = .stop records c i again) := by
  simp only [State.callOutcome, State.needleCheck] at h
  cases hp : s.planNeedle with
  | none => simp [hp] at h; simp [h]
  | some n =>
    by_cases hn : s.needle.settled = some n
    · simp only [hp, hn, if_true] at h; simp [hn, h]
    · simp only [hp, hn, if_false] at h
      cases h
      exact .inr (.inl ⟨by simp, fun e => hn e.symm, rfl, rfl, rfl, rfl⟩)

/-- The records of a call begin the pending ones, and the index past the last of them is that many past the cursor (R11). -/
theorem callOutcome_turn_records {s : State} {records : List (Nat × Rec)} {i : Nat} {r : Rec}
    (h : s.callOutcome = .turn records i r) : records <+: s.store.pendingRecords ∧ i + 1 = s.store.cursor + records.length := by
  obtain ⟨hpre, -, -, zero, rfl, -⟩ := scan_eq_turn (callOutcome_eq_turn h).1
  exact ⟨hpre, index_of_prefix_indexed hpre⟩

theorem callOutcome_stop_records {s : State} {records : List (Nat × Rec)} {c : Cause} {i : Nat} {again : Bool}
    (h : s.callOutcome = .stop records c i again) : records <+: s.store.pendingRecords := by
  rcases callOutcome_eq_stop h with ⟨-, rfl, -⟩ | ⟨-, -, rfl, -⟩ | ⟨-, -, h⟩
  · simp
  · simp
  · exact (scan_eq_stop h).1

/-- The index past the last of the records issued (R11). -/
theorem pastLast_of_prefix {k : Nat} {l : List Rec} {records : List (Nat × Rec)} (h : records <+: indexed k l) :
    pastLast records k = k + records.length := by
  rcases List.eq_nil_or_concat records with rfl | ⟨before, p, rfl⟩
  · rfl
  · rw [List.concat_eq_append] at h ⊢
    rw [pastLast, List.getLast?_append_cons, List.getLast?_singleton]
    exact index_of_prefix_indexed h

/-! ### What an issue does before the cursor moves -/

@[simp] theorem enterEffect_store (c : Code) (s : State) : (enterEffect c s).store = s.store := by
  unfold enterEffect; split <;> rfl
@[simp] theorem enterAll_store (l : List Code) (s : State) : (enterAll l s).store = s.store := by
  induction l generalizing s with
  | nil => rfl
  | cons c l ih => simp [enterAll, ih]
@[simp] theorem placeLine_store (v : Nat) (s : State) : (placeLine v s).store = s.store := by
  unfold placeLine; split <;> rfl
@[simp] theorem planTurn_store (s : State) : (planTurn s).store = s.store := by
  simp only [planTurn]; split <;> simp
@[simp] theorem watchAfterCheck_store (s : State) : (watchAfterCheck s).store = s.store := by
  unfold watchAfterCheck; split <;> rfl

/-- The end of a repair touches the repair context and the heads alone (R176). -/
theorem endRepair_frame (s : State) : ∃ heads, (endRepair s).1 =
    { s with run := { s.run with repair := .inactive }, table := { s.table with heads := heads } } := by
  obtain ⟨-, heads, h, -⟩ := openAtRepairEnd_eq (s.modRun fun r => { r with repair := .inactive }) s.run.repair.resume allHeads
    (by decide) (s.modRun fun r => { r with repair := .inactive }) (fun _ _ => rfl) rfl rfl
  exact ⟨heads, h⟩

@[simp] theorem judgeRepair_store (l : List (Nat × Rec)) (s : State) : (judgeRepair l s).1.store = s.store := by
  unfold judgeRepair
  split
  · obtain ⟨heads, h⟩ := endRepair_frame s
    rw [h]
  · rfl

/-! ### Calls, and what their causes bring (R10 to R12, R90) -/

theorem firstMoveComplete_keeps (h : a.Keeps s) : a.Keeps (firstMoveComplete s) := by
  simp only [firstMoveComplete, keeps_ite]
  simp [tryEndStop_keeps, h]

theorem moveFrame_keeps (h : a.Keeps s) (t : Turn) : a.Keeps (moveFrame t s) := by
  simp [moveFrame, takeCause_keeps, firstMoveComplete_keeps, h]

theorem issueTurn_keeps (h : a.Keeps s) (come : StillToCome) {records : List (Nat × Rec)} {i : Nat} (r : Rec)
    (hpre : records <+: s.store.pendingRecords) (hi : i + 1 = s.store.cursor + records.length) :
    a.Keeps (issueTurn come records i r s) := by
  have hadvance (codes : List Code) :
      a.Keeps ((planTurn (enterAll codes (judgeRepair records s).1)).modStore (Store.advance records (i + 1))) :=
    State.Keeps.modStore (by simpa using h) (by simpa using s.store.safe_advance hpre hi)
  have hissued (codes : List Code) (t : Turn) (owed : Owed) (f : Run → Run) (l : List Head) (k : Nat) :
      a.Keeps (causesOf k l (moveFrame t (lowMarkTest (carryAll owed t.sewSet i codes ((engageTurn t
        (rebuild ((planTurn (enterAll codes (judgeRepair records s).1)).modStore (Store.advance records (i + 1))))).modRun f))))) :=
    causesOf_keeps (moveFrame_keeps (lowMarkTest_keeps (by simpa using engageTurn_keeps (by simpa using hadvance codes) t)) t) k l
  simp only [issueTurn]
  split
  · exact takeCause_keeps (hissued ..) _ _
  · exact hissued ..

theorem answerStop_keeps (h : a.Keeps s) (come : StillToCome) {records : List (Nat × Rec)} (c : Cause) (i : Nat) (again : Bool)
    (hpre : records <+: s.store.pendingRecords) : a.Keeps (answerStop come records c i again s) := by
  have hadvance : a.Keeps ((enterAll (functionCodes records) (judgeRepair records s).1).modStore
      (Store.advance records (pastLast records (judgeRepair records s).1.store.cursor))) :=
    State.Keeps.modStore (by simpa using h) (by simpa using s.store.safe_advance hpre (pastLast_of_prefix hpre))
  have htrim (owed : Owed) (hs : HeadSet) (f : Nat) {t : State} (ht : a.Keeps t) : a.Keeps (carryTrim owed hs f c t) := by
    unfold carryTrim
    split
    · split <;> simpa using ht
    · exact ht
  refine reachedAtIssue_keeps (causesOf_keeps (lowMarkTest_keeps (htrim _ _ _ ?_)) _ _) _ _ _
  simpa using hadvance

/-- A call keeps the store's laws: the cursor moves over the records it issues (R11). -/
theorem call_keeps (h : a.Keeps s) (come : StillToCome) : a.Keeps (call come s) := by
  have hw : a.Keeps (watchAfterCheck s) := by simpa using h
  simp only [call]
  split
  · next ho =>
    obtain ⟨hpre, hi⟩ := callOutcome_turn_records ho
    exact issueTurn_keeps hw come _ (by simpa using hpre) (by simpa using hi)
  · next ho => exact answerStop_keeps hw come _ _ _ (by simpa using callOutcome_stop_records ho)

/-! ### Starts (R78, R87, R88, R99 to R101, R136, R155) -/

theorem needleStep_keeps (h : a.Keeps s) : a.Keeps (needleStep s) := by
  unfold needleStep
  split <;> simp [firstCall, call_keeps, failStartChange_keeps, h]

theorem sensorStep_keeps (h : a.Keeps s) : a.Keeps (sensorStep s) := by
  simp [sensorStep, needleStep_keeps, h]

theorem returnStep_keeps (h : a.Keeps s) : a.Keeps (returnStep s) := by
  simp [returnStep, sensorStep_keeps, h]

theorem startRun_keeps (h : a.Keeps s) (who : Starter) : a.Keeps (startRun who s) := by
  refine returnStep_keeps ?_
  simp only [keeps_modRun, keeps_setRunState, keeps_ite]
  simp [h]

theorem startItself_keeps (h : a.Keeps s) : a.Keeps (startItself s) := by
  unfold startItself
  split
  · split
    · exact startRun_keeps h .part
    · simpa using h
  · exact h

theorem colourDelayExpires_keeps (h : a.Keeps s) : a.Keeps (colourDelayExpires s) := by
  unfold colourDelayExpires
  split
  · simp only [keeps_ite]
    simp [startItself_keeps, h]
  · exact h

theorem returnEnds_keeps (h : a.Keeps s) (m : Move) : a.Keeps (returnEnds m s) := by
  simp only [returnEnds, keeps_ite]
  simp [sensorStep_keeps, takeCause_keeps, tryEndStop_keeps, h]

theorem settleNeedle_keeps (h : a.Keeps s) : a.Keeps (settleNeedle s) := by
  simp only [settleNeedle]
  split <;> simp [firstCall, call_keeps, tryEndStop_keeps, h]

theorem needleTimesOut_keeps (h : a.Keeps s) : a.Keeps (needleTimesOut s) := by
  unfold needleTimesOut
  split <;> simp [failStartChange_keeps, h]

theorem causeStartFaults_keeps (h : a.Keeps s) (l : List (Head × FaultRecord)) : a.Keeps (causeStartFaults l s) := by
  induction l generalizing s with
  | nil => exact h
  | cons x l ih => exact ih (takeCause_keeps h _ _)

theorem startTestEnds_keeps (h : a.Keeps s) (x : SensorTest) : a.Keeps (startTestEnds x s) := by
  simp only [startTestEnds, keeps_ite]
  simp [needleStep_keeps, tryEndStop_keeps, causeStartFaults_keeps, h]

theorem sensorTestExpires_keeps (h : a.Keeps s) : a.Keeps (sensorTestExpires s) := by
  unfold sensorTestExpires
  split <;> simp [startTestEnds_keeps, h]

/-! ### Stepwise operations (R15, R16, R79, R170 to R177) -/

theorem stepwiseLands_keeps (h : a.Keeps s) (k : OpKind) : a.Keeps (stepwiseLands k s) := by
  simp [stepwiseLands, causesOf_keeps, h]

/-- A step towards a goal stays between retire and fill (R2, R15, R16). -/
theorem goalStep_keeps (h : a.Keeps s) {g g' : Goal} {t : State} {turn : Bool} (ho : goalStep g s = some (t, g', turn)) :
    a.Keeps t := by
  unfold goalStep at ho
  split at ho <;> dsimp only at ho <;> split at ho <;> cases ho
  · exact storeBack_keeps h (by omega) (by omega)
  · exact storeBack_keeps h (by omega) (by omega)
  · exact storeForward_keeps h (by omega) (by omega)

theorem stepOn_keeps (h : a.Keeps s) (k : OpKind) (fuel : Nat) (g : Goal) : a.Keeps (stepOn k fuel g s) := by
  induction fuel generalizing s g with
  | zero => simpa [stepOn] using h
  | succ fuel ih =>
    unfold stepOn
    split
    · exact stepwiseLands_keeps h k
    · next ho =>
      have ht := goalStep_keeps h ho
      simp [ih, ht]

theorem nextStep_keeps (h : a.Keeps s) : a.Keeps (nextStep s) := by
  unfold nextStep
  split
  · split <;> simp [stepOn_keeps, h]
  · exact h

theorem dwellExpires_keeps (h : a.Keeps s) : a.Keeps (dwellExpires s) := by simp [dwellExpires, nextStep_keeps, h]

theorem startDwell_keeps (h : a.Keeps s) : a.Keeps (startDwell s) := by simp [startDwell, nextStep_keeps, h]

theorem beginRepair_keeps (h : a.Keeps s) (hs : HeadSet) : a.Keeps (beginRepair hs s) :=
  stepOn_keeps (by simp [enlist_keeps, h]) _ _ _

theorem chunkedMoveEnds_keeps (h : a.Keeps s) (m : Move) : a.Keeps (chunkedMoveEnds m s) := by
  unfold chunkedMoveEnds
  split <;> simp [firstMoveComplete_keeps, startDwell_keeps, returnEnds_keeps, h]

theorem chunkEnds_keeps (h : a.Keeps s) : a.Keeps (chunkEnds s) := by
  unfold chunkEnds
  split
  · exact h
  · split <;> simp [chunkedMoveEnds_keeps, h]

/-! ### The shaft's events (chapter 2) -/

theorem overrunArrival_keeps (h : a.Keeps s) : a.Keeps (overrunArrival s) := by
  simp only [overrunArrival, keeps_ite]
  simp [takeCause_keeps, h]

theorem lateMark_keeps (h : a.Keeps s) (w : LateWatch) : a.Keeps (lateMark w s) := by simp [lateMark, takeCause_keeps, h]

theorem completeTurn_keeps (h : a.Keeps s) (w : WindowStart) : a.Keeps (completeTurn w s) := by
  unfold completeTurn
  split <;> simp [completeAtHeads_keeps, h]

theorem takeOne_keeps (h : a.Keeps s) (angle : Nat) (later : List Taker) (t : Taker) (w : Option WindowStart) :
    a.Keeps (takeOne angle later t (s, w)).1 := by
  have hbegun : a.Keeps (takeWindowStart s).1 := by simpa using h
  cases t with
  | overrun => exact overrunArrival_keeps h
  | completion => cases w with
    | some w => exact completeTurn_keeps h w
    | none => exact completeTurn_keeps hbegun _
  | retention => cases w with
    | some w => simp [takeOne, runRetention_keeps, h]
    | none => simp [takeOne, runRetention_keeps, hbegun]
  | call =>
    cases w <;> simp only [takeOne] <;> split
    · exact call_keeps hbegun _
    · exact hbegun
    · exact call_keeps h _
    · exact h
  | windowEnd | jumpEnd => exact lateMark_keeps h _
  | rest | brake | gateStart | gateEnd | sample => simpa [takeOne] using h
  | channel c => simpa [takeOne] using h

theorem takeAll_keeps (angle : Nat) (l : List Taker) {x : State × Option WindowStart} (h : a.Keeps x.1) :
    a.Keeps (takeAll angle l x).1 := by
  induction l generalizing x with
  | nil => exact h
  | cons t l ih => exact ih (takeOne_keeps h angle l t x.2)

theorem arrive_keeps (h : a.Keeps s) (order : List Taker) (angle : Nat) : a.Keeps (arrive order angle s) :=
  takeAll_keeps angle _ h

theorem arriveAll_keeps (h : a.Keeps s) (order : List Taker) (angles : List Nat) : a.Keeps (arriveAll order angles s) := by
  induction angles generalizing s with
  | nil => exact h
  | cons x l ih => exact ih (arrive_keeps (by simpa using h) order x)

theorem countShaft_keeps (h : a.Keeps s) (d : Dir) (order : List Taker) : a.Keeps (countShaft d order s) := by
  simp only [countShaft]
  split
  · split
    · split
      · exact followFlag_keeps (by simpa using h) _
      · exact arrive_keeps (followFlag_keeps (by simpa using h) _) order _
    · exact followFlag_keeps (by simpa using h) _
  · exact followFlag_keeps (takeCause_keeps (by simpa using h) _ _) _

theorem indexForward_keeps (h : a.Keeps s) (ok : Bool) (us : Nat) (order : List Taker) : a.Keeps (indexForward ok us order s) := by
  simp [indexForward, arriveAll_keeps, h]

theorem indexShaft_keeps (h : a.Keeps s) (d : Dir) (us : Nat) (order : List Taker) : a.Keeps (indexShaft d us order s) := by
  simp only [indexShaft]
  split
  · exact followFlag_keeps (by simpa using h) _
  · refine followFlag_keeps ?_ _
    cases d <;> simp [indexForward_keeps, takeCause_keeps, h]

theorem stoppedEvent_keeps (h : a.Keeps s) : a.Keeps (stoppedEvent s) := by simp [stoppedEvent, detectStop_keeps, h]

theorem stallEvent_keeps (h : a.Keeps s) : a.Keeps (stallEvent s) := by simp [stallEvent, takeCause_keeps, h]

theorem driveEvent_keeps (h : a.Keeps s) (r f : Bool) : a.Keeps (driveEvent r f s) := by
  simp only [driveEvent]
  split
  · exact takeCause_keeps h _ _
  · exact h

theorem watchFires_keeps (h : a.Keeps s) : a.Keeps (watchFires s) := by simp [watchFires, takeCause_keeps, h]

/-! ### A design begun or dropped, and records taken (R4 to R9) -/

/-- A design dropped or begun leaves the store empty, and the laws hold of it (R4, R6). -/
theorem dropDesign_keeps (h : a.Keeps s) (check : StoreCheck) (isOpen : Bool) (origin : Pt) :
    a.Keeps (dropDesign { Store.empty check with isOpen := isOpen, origin := origin } s) := by
  simp only [dropDesign, keeps_rebuild, keeps_modPlanner, keeps_modHeads]
  exact h.modStore (s.store.safe_empty check isOpen origin)

theorem openDesign_keeps (h : a.Keeps s) (x y : Int) : a.Keeps (openDesign x y s).1 := by
  unfold openDesign
  split
  · exact h
  · split
    · exact h
    · exact (keeps_modRun _).mpr (dropDesign_keeps h ..)

theorem discardDesign_keeps (h : a.Keeps s) : a.Keeps (discardDesign s).1 := by
  unfold discardDesign
  split
  · exact h
  · split
    · exact h
    · have hempty : a.Keeps (dropDesign (.empty s.store.check) s) := dropDesign_keeps h s.store.check false .zero
      simpa using hempty

/-- The records of a LOAD are taken within the laws (R8, R9). -/
theorem intake_keeps (h : a.Keeps s) (data : List Byte) (n : Nat) : a.Keeps (intake data n s).1 := by
  induction data, n, s using intake.induct with
  | case1 k c1 c2 rest n s st hc => simpa [intake, hc] using h
  | case2 k c1 c2 rest n s hc hr => rw [hr] at hc; simpa [intake, hc, hr] using h
  | case3 k c1 c2 rest n s hc r hr ih =>
    rw [hr] at hc
    simp only [intake, hr, hc]
    refine ih (h.trans ⟨fun hl => (State.accept_safe hc hl).1, fun hw => ?_⟩)
    rw [limitLaw_iff] at hw ⊢
    exact ⟨(State.accept_safe hc hw.1).1, (State.accept_safe hc hw.1).2 hw.2⟩
  | case4 data n s hd => simpa [intake] using h

theorem loadRecords_keeps (h : a.Keeps s) (start : Index3) (count : Byte) (data : List Byte) :
    a.Keeps (loadRecords start count data s).1 := by
  unfold loadRecords
  split
  · exact h
  · split
    · exact h
    · simp [rearmLowMark_keeps, intake_keeps, h]

/-! ### Parameters (R5, R195, R206) -/

/-- A parameter that is no soft limit is no part of the laws. -/
theorem keeps_setPar_of_not_limit {p : Param} (v : Int)
    (hp : p ≠ .limitXMin ∧ p ≠ .limitXMax ∧ p ≠ .limitYMin ∧ p ≠ .limitYMax) : a.Keeps (s.setPar p v) ↔ a.Keeps s := by
  have hok : (s.setPar p v).inLimits = s.inLimits := by
    funext c
    simp only [State.inLimits, State.setPar_par_other hp.1, State.setPar_par_other hp.2.1, State.setPar_par_other hp.2.2.1,
      State.setPar_par_other hp.2.2.2]
  simp only [State.Keeps, limitLaw_iff, hok, State.setPar_store]

/-- With no design open any limits hold of the records, for there are none (R5). -/
theorem setPar_keeps_of_closed (h : a.Keeps s) (hc : s.store.isOpen = false) (p : Param) (v : Int) : a.Keeps (s.setPar p v) := by
  refine h.trans ⟨id, fun ⟨hl, hopen, hfill, _⟩ => ⟨hl, hopen, hfill, ?_⟩⟩
  simp [hopen hc, turnTargets]

@[simp] theorem keeps_lowerDemand (v : Nat) : a.Keeps (lowerDemand v s) ↔ a.Keeps s := by simp [lowerDemand]
@[simp] theorem keeps_setSpeed (v : Nat) : a.Keeps (setSpeed v s) ↔ a.Keeps s := by
  have hset (w : Int) := keeps_setPar_of_not_limit (a := a) (s := s) (p := .speedSet) w (by decide)
  simp [setSpeed, hset]
@[simp] theorem keeps_reclampSpeed : a.Keeps (reclampSpeed s) ↔ a.Keeps s := keeps_setPar_of_not_limit _ (by decide)
@[simp] theorem keeps_loseSync : a.Keeps (loseSync s) ↔ a.Keeps s := keeps_congr rfl rfl
@[simp] theorem keeps_loseReference : a.Keeps (loseReference s) ↔ a.Keeps s := keeps_congr rfl rfl
@[simp] theorem keeps_shortenWindows (n : Nat) : a.Keeps (shortenWindows n s) ↔ a.Keeps s := keeps_congr rfl rfl
@[simp] theorem keeps_endWait (w : Resume) : a.Keeps (endWait w s) ↔ a.Keeps s := by simp [endWait]

theorem dropHeads_keeps (h : a.Keeps s) (n : Nat) : a.Keeps (dropHeads n s) := runRetention_keeps (by simpa using h)

theorem paramEffects_keeps (h : a.Keeps s) (p : Param) (old v : Int) : a.Keeps (paramEffects p old v s) := by
  unfold paramEffects
  split <;> simp [dropHeads_keeps, followFlag_keeps, h]

/-- A soft limit is written only while no design is open (R5). -/
theorem closed_of_limitBar {p : Param} {v : Int} (hb : s.paramBar p v = none)
    (hp : p = .limitXMin ∨ p = .limitXMax ∨ p = .limitYMin ∨ p = .limitYMax) : s.store.isOpen = false := by
  by_contra ho
  rw [Bool.not_eq_false] at ho
  unfold State.paramBar at hb
  split at hb
  · cases hb
  · split at hb
    · cases hb
    · rcases hp with rfl | rfl | rfl | rfl <;> simp [State.ownBar, ho] at hb

theorem writeParam_keeps (h : a.Keeps s) {p : Param} {v : Int} (hb : s.paramBar p v = none) : a.Keeps (writeParam p v s) := by
  unfold writeParam
  split
  · simpa using h
  · dsimp only
    split
    · exact h
    · refine paramEffects_keeps ?_ _ _ _
      by_cases hp : p = .limitXMin ∨ p = .limitXMax ∨ p = .limitYMin ∨ p = .limitYMax
      · exact setPar_keeps_of_closed h (closed_of_limitBar hb hp) p v
      · exact (keeps_setPar_of_not_limit v (by simpa only [not_or] using hp)).mpr h

theorem setParamRequest_keeps (h : a.Keeps s) (id : Byte) (value : Word) : a.Keeps (setParamRequest id value s).1 := by
  unfold setParamRequest
  split
  · exact h
  · split
    · exact h
    · next hb => exact writeParam_keeps h hb

/-! ### The other requests -/

theorem enableHead_keeps (h : a.Keeps s) (b : Byte) : a.Keeps (enableHead b s).1 := by
  unfold enableHead
  split
  · exact h
  · split
    · exact h
    · exact h
    · exact h
    · split
      · exact h
      · split <;> simpa using h

theorem disableHead_keeps (h : a.Keeps s) (b : Byte) : a.Keeps (disableHead b s).1 := by
  unfold disableHead
  split
  · exact h
  · simp [checkAllIsolated_keeps, closeHeadGap_keeps, h]

theorem isolateHead_keeps (h : a.Keeps s) (b : Byte) : a.Keeps (isolateHead b s).1 := by
  unfold isolateHead
  split
  · exact h
  · split
    · exact h
    · exact h
    all_goals
      split
      · simpa using h
      · split
        · exact h
        · next ho => simp [checkAllIsolated_keeps, keeps_of_openHeadGap ho, h]

theorem setPolicy_keeps (h : a.Keeps s) (p : Policy) (b : Byte) : a.Keeps (setPolicy p b s).1 := by
  unfold setPolicy
  split <;> simpa using h

theorem clearHead_keeps (h : a.Keeps s) (b : Byte) : a.Keeps (clearHead b s).1 := by
  unfold clearHead
  split
  · exact h
  · split
    · exact h
    · split
      · split <;> simpa using h
      · dsimp only
        split <;> simp [closeHeadGap_keeps, h]
      · split <;> simpa using h
      · simpa using h

theorem dropGaps_keeps (h : a.Keeps s) (b : Byte) : a.Keeps (dropGaps b s).1 := by
  unfold dropGaps
  split
  · exact h
  · refine runRetention_keeps ?_
    simp only [keeps_ite]
    simp [h]

theorem setBobbin_keeps (h : a.Keeps s) (b : Byte) (v : Word) : a.Keeps (setBobbin b v s).1 := by
  unfold setBobbin
  split
  · exact h
  · split
    · simpa using h
    · split <;> simpa using h

theorem loadAxisTable_keeps (h : a.Keeps s) (axis : Byte) (points : List RawPoint) : a.Keeps (loadAxisTable axis points s).1 := by
  unfold loadAxisTable
  split
  · exact h
  · split
    · exact h
    · split
      · exact h
      · split <;> simpa using h

theorem loadPlan_keeps (h : a.Keeps s) (first : Byte) (values : List Byte) : a.Keeps (loadPlan first values s).1 := by
  unfold loadPlan
  dsimp only
  split
  · exact h
  · split <;> simpa using h

theorem loadEntry_keeps (h : a.Keeps s) (raw : RawEntry) : a.Keeps (loadEntry raw s).1 := by
  unfold loadEntry
  split <;> simpa using h

theorem swapBanks_keeps (h : a.Keeps s) : a.Keeps (swapBanks s).1 := by
  unfold swapBanks
  split <;> simpa using h

theorem setupChannel_keeps (h : a.Keeps s) (chan type polarity : Byte) : a.Keeps (setupChannel chan type polarity s).1 := by
  unfold setupChannel
  split
  · exact h
  · split
    · exact h
    · split
      · exact h
      · split <;> simpa using h

theorem armDesign_keeps (h : a.Keeps s) : a.Keeps (armDesign s).1 := by
  unfold armDesign
  split
  · exact h
  · split
    · exact h
    · split
      · exact h
      · split <;> simpa using h

theorem startRequest_keeps (h : a.Keeps s) : a.Keeps (startRequest s).1 := by
  unfold startRequest
  split
  · exact h
  · exact startRun_keeps h .host

theorem stopAtRest_keeps (h : a.Keeps s) : a.Keeps (stopAtRest s) := by
  simp only [stopAtRest, keeps_ite]
  simp [brakeOrder_keeps, h]

theorem stopRequest_keeps (h : a.Keeps s) : a.Keeps (stopRequest s).1 := by
  unfold stopRequest
  split
  · exact takeCause_keeps h _ _
  · exact h
  · exact h
  all_goals exact stopAtRest_keeps h

theorem injectRequest_keeps (h : a.Keeps s) (code : Byte) : a.Keeps (injectRequest code s).1 := by
  unfold injectRequest
  split
  · exact h
  · split
    · exact h
    · split <;> simpa using h

theorem backtrackRequest_keeps (h : a.Keeps s) (count : Half) : a.Keeps (backtrackRequest count s).1 := by
  unfold backtrackRequest
  split
  · exact h
  · split
    · exact h
    · split
      · exact h
      · split
        · exact h
        · exact stepOn_keeps (by simpa using h) _ _ _

theorem repairRequest_keeps (h : a.Keeps s) (heads : Half) : a.Keeps (repairRequest heads s).1 := by
  unfold repairRequest
  split
  · exact h
  · split
    · exact h
    · split
      · exact h
      · split
        · exact h
        · split
          · exact h
          · split
            · exact h
            · exact beginRepair_keeps h _

theorem repairAbandonRequest_keeps (h : a.Keeps s) : a.Keeps (repairAbandonRequest s).1 := by
  unfold repairAbandonRequest
  split
  · exact h
  · split
    · exact h
    · split
      · exact h
      · exact stepOn_keeps (by simpa using h) _ _ _

theorem frameOutRequest_keeps (h : a.Keeps s) (dx dy : Half) : a.Keeps (frameOutRequest dx dy s).1 := by
  unfold frameOutRequest
  dsimp only
  split
  · exact h
  · split
    · exact h
    · split <;> simpa using h

theorem frameReturnRequest_keeps (h : a.Keeps s) : a.Keeps (frameReturnRequest s).1 := by
  unfold frameReturnRequest
  split
  · exact h
  · split <;> simpa using h

theorem homeRequest_keeps (h : a.Keeps s) : a.Keeps (homeRequest s).1 := by
  unfold homeRequest
  split
  · exact h
  · split
    · exact h
    · split <;> simpa using h

theorem needleUpRequest_keeps (h : a.Keeps s) : a.Keeps (needleUpRequest s).1 := by
  unfold needleUpRequest
  split
  · exact h
  · split
    · exact h
    · dsimp only
      split <;> simpa using h

theorem needleSelectRequest_keeps (h : a.Keeps s) (needle : Byte) : a.Keeps (needleSelectRequest needle s).1 := by
  unfold needleSelectRequest
  split
  · exact h
  · split
    · exact h
    · split
      · exact h
      · simp [h]

theorem sensorTestRequest_keeps (h : a.Keeps s) (heads : Half) : a.Keeps (sensorTestRequest heads s).1 := by
  unfold sensorTestRequest
  split
  · exact h
  · split
    · exact h
    · split
      · exact h
      · split <;> simpa using h

theorem channelTestRequest_keeps (h : a.Keeps s) (chan : Byte) (heads duration : Half) :
    a.Keeps (channelTestRequest chan heads duration s).1 := by
  unfold channelTestRequest
  split
  · split
    · exact h
    · split
      · exact h
      · split <;> simpa using h
  · exact h

theorem clearRequest_keeps (h : a.Keeps s) : a.Keeps (clearRequest s).1 := by
  unfold clearRequest
  split
  · exact h
  · split
    · exact h
    · split
      · exact h
      · split <;> simpa using h

theorem restartRequest_keeps (h : a.Keeps s) : a.Keeps (restartRequest s).1 := by
  unfold restartRequest
  split <;> simpa using h

theorem noticeMaskRequest_keeps (h : a.Keeps s) (mask : Word) : a.Keeps (noticeMaskRequest mask s).1 := by
  unfold noticeMaskRequest
  split <;> simpa using h

theorem noticeTakeRequest_keeps (h : a.Keeps s) (source : Byte) : a.Keeps (noticeTakeRequest source s).1 := by
  unfold noticeTakeRequest
  split
  · exact h
  · simp [clearSource, h]

/-- A query and a read of a parameter leave the state as it is (R196, R204). -/
theorem query_unchanged (s : State) :
    (∀ page, (queryStateRequest page s).1 = s) ∧ (∀ head, (queryHeadRequest head s).1 = s) ∧
    (∀ head, (queryGapsRequest head s).1 = s) ∧ ∀ id, (getParamRequest id s).1 = s := by
  refine ⟨fun page => ?_, fun head => ?_, fun head => ?_, fun id => ?_⟩
  · unfold queryStateRequest; split <;> rfl
  · unfold queryHeadRequest; split <;> rfl
  · unfold queryGapsRequest; split <;> rfl
  · unfold getParamRequest; split <;> rfl

/-- Whatever a request does, it keeps the store's laws. -/
theorem answerOf_keeps (h : a.Keeps s) (i : Instr) : a.Keeps (answerOf i s).1 := by
  obtain ⟨hstate, hhead, hgaps, hparam⟩ := query_unchanged s
  unfold answerOf
  split
  · rw [hstate]; exact h
  · rw [hhead]; exact h
  · rw [hgaps]; exact h
  · exact setParamRequest_keeps h ..
  · rw [hparam]; exact h
  · split
    · exact loadAxisTable_keeps h ..
    · exact h
  · exact loadPlan_keeps h ..
  · exact loadEntry_keeps h ..
  · exact swapBanks_keeps h
  · exact setupChannel_keeps h ..
  · exact openDesign_keeps h ..
  · split
    · exact loadRecords_keeps h ..
    · exact h
  · exact discardDesign_keeps h
  · exact armDesign_keeps h
  · exact startRequest_keeps h
  · exact stopRequest_keeps h
  · simpa [speedRequest] using h
  · exact injectRequest_keeps h _
  · exact backtrackRequest_keeps h _
  · exact repairRequest_keeps h _
  · exact repairAbandonRequest_keeps h
  · exact frameOutRequest_keeps h ..
  · exact frameReturnRequest_keeps h
  · exact homeRequest_keeps h
  · exact needleUpRequest_keeps h
  · exact needleSelectRequest_keeps h _
  · exact sensorTestRequest_keeps h _
  · exact channelTestRequest_keeps h ..
  · exact enableHead_keeps h _
  · exact disableHead_keeps h _
  · exact isolateHead_keeps h _
  · exact setPolicy_keeps h ..
  · exact setPolicy_keeps h ..
  · exact clearHead_keeps h _
  · exact dropGaps_keeps h _
  · exact setBobbin_keeps h ..
  · exact noticeMaskRequest_keeps h _
  · exact noticeTakeRequest_keeps h _
  · exact clearRequest_keeps h
  · exact restartRequest_keeps h
  · exact h

/-! ### The link (chapter 10) -/

@[simp] theorem keeps_enqueue (r : Reply) : a.Keeps (enqueue r s) ↔ a.Keeps s := keeps_congr rfl rfl
@[simp] theorem keeps_hunt : a.Keeps (hunt s) ↔ a.Keeps s := keeps_congr rfl rfl
@[simp] theorem keeps_bufferFrame (f : RxFrame) : a.Keeps (bufferFrame f s) ↔ a.Keeps s := by simp [bufferFrame]
@[simp] theorem keeps_completeFrame (f : RxFrame) : a.Keeps (completeFrame f s) ↔ a.Keeps s := by simp [completeFrame]
@[simp] theorem keeps_listen (r : Receiver) : a.Keeps (listen r s) ↔ a.Keeps s := keeps_congr rfl rfl
@[simp] theorem keeps_huntByte (b : Byte) : a.Keeps (huntByte b s) ↔ a.Keeps s := keeps_congr rfl rfl
@[simp] theorem keeps_takeByte (b : Byte) : a.Keeps (takeByte b s) ↔ a.Keeps s := by
  unfold takeByte; split <;> simp
@[simp] theorem keeps_abandonFrame : a.Keeps (abandonFrame s) ↔ a.Keeps s := by simp [abandonFrame]
@[simp] theorem keeps_endSending : a.Keeps (endSending s) ↔ a.Keeps s := by
  unfold endSending; split <;> simp
@[simp] theorem keeps_arbitrate : a.Keeps (arbitrate s) ↔ a.Keeps s := by
  unfold arbitrate
  split
  · rfl
  · split
    · simp
    · split <;> simp [sendNotice]

theorem takeFrame_keeps (h : a.Keeps s) (f : RxFrame) : a.Keeps (takeFrame f s) := by
  unfold takeFrame
  split
  · simpa using h
  · split
    · simpa using h
    · exact (keeps_enqueue _).mpr (answerOf_keeps h _)

theorem pump_keeps (h : a.Keeps s) (n : Nat) : a.Keeps (pump n s) := by
  induction n generalizing s with
  | zero => exact h
  | succ n ih =>
    unfold pump
    split
    · exact h
    · split
      · exact ih (takeFrame_keeps (by simpa using h) _)
      · exact h

theorem settle_keeps (h : a.Keeps s) : a.Keeps (settle s) := by simp [settle, pump_keeps, h]

theorem ask_keeps (h : a.Keeps s) (i : Instr) : a.Keeps (ask i s) := by
  unfold ask
  split
  · exact h
  · split
    · exact h
    · dsimp only
      split
      · exact settle_keeps ((keeps_enqueue _).mpr (answerOf_keeps (by simpa using h) i))
      · exact settle_keeps (by simpa using h)

theorem event_keeps {levels effect : State → State} (hl : a.Keeps (levels s)) (he : a.Keeps (effect s)) :
    a.Keeps (event levels effect s) := by
  simp [event, settle_keeps, hl, he]

/-! ### Resets (R22, R23, R193, R194) -/

/-- An empty store and whatever parameters meet the laws. -/
theorem keeps_of_empty {t : State} {check : StoreCheck} (ht : t.store = .empty check) : a.Keeps t := by
  have hl : t.store.Law := by rw [ht]; simp [Store.empty]
  refine ⟨fun _ => hl, fun _ => ⟨hl, ?_, ?_, ?_⟩⟩ <;> rw [ht]
  · simp [Store.empty]
  · simp [Store.empty, Store.basePos, travel]
  · simp [Store.empty, turnTargets]

theorem causeIf_keeps (h : a.Keeps s) (p : Prop) [Decidable p] (c : Cause) (i : Nat) :
    a.Keeps (if p then takeCause c i s else s) := by
  split
  · exact takeCause_keeps h c i
  · exact h

theorem endReset_keeps (h : a.Keeps s) (k : ResetKind) : a.Keeps (endReset k s) := by
  unfold endReset
  exact causeIf_keeps (causeIf_keeps (causeIf_keeps (by simpa using h) ..) ..) ..

theorem storeCheckEnds_keeps (h : a.Keeps s) (failed : Option Half) : a.Keeps (storeCheckEnds failed s) :=
  endReset_keeps ((keeps_startSettle).mpr (h.modStore (s.store.safe_flags _ _ _ _ _))) _

/-! ### Commands and steps -/

/-- Whatever a command does, it keeps the store's laws. -/
theorem exec_keeps (h : a.Keeps s) {c : Instr} {t : State} (hx : exec c s = .next t) : a.Keeps t := by
  have hasked (i : Instr) : a.Keeps (ask i s) := ask_keeps h i
  cases c <;> cases hx <;> try exact hasked _
  case powerOn => exact keeps_of_empty rfl
  case storeCheckDone failed => simp [settle_keeps, storeCheckEnds_keeps, h]
  case restartReset =>
    have hreset : a.Keeps (makeRestart s) := endReset_keeps (keeps_of_empty rfl) _
    simp [settle_keeps, hreset, h]
  case frameComplete => exact event_keeps h (by simpa using h)
  case interByteTimeout => exact event_keeps h (by simpa using h)
  case unknownKindFrame => exact event_keeps h (by simpa using h)
  case transmitEnd => exact event_keeps h (by simpa using h)
  case start => exact ask_keeps (by simpa using h) _
  case home => exact ask_keeps (by simpa using h) _
  case sensorTest => exact ask_keeps (by simpa using h) _
  case encoderCount d l order => exact event_keeps (by simpa using h) (countShaft_keeps (by simpa using h) d order)
  case encoderIndex d us l order => exact event_keeps (by simpa using h) (indexShaft_keeps (by simpa using h) d _ order)
  case stoppedDetection => exact event_keeps h (stoppedEvent_keeps h)
  case stall => exact event_keeps h (stallEvent_keeps h)
  case driveLineChange => exact event_keeps (by simpa using h) (driveEvent_keeps (by simpa using h) _ _)
  case estop =>
    refine event_keeps (by simpa using h) ?_
    dsimp only
    split
    · exact takeCause_keeps (by simpa using h) _ _
    · simpa using h
  case moveComplete => exact event_keeps h (by simpa using h)
  case chunkComplete => exact event_keeps (by simpa using h) (chunkEnds_keeps (by simpa using h))
  case homingStepComplete => exact event_keeps (by simpa using h) (by simpa using h)
  case dwellExpiry => exact event_keeps h (dwellExpires_keeps h)
  case automaticStart => exact event_keeps (by simpa using h) (startItself_keeps (by simpa using h))
  case colourDelayExpiry => exact event_keeps h (colourDelayExpires_keeps h)
  case channelTestExpiry => exact event_keeps h (by simpa using h)
  case needlePositionChange => exact event_keeps (by simpa using h) (by simpa using h)
  case needleSettleExpiry => exact event_keeps h (by simp [settleNeedle_keeps, h])
  case needleTimeoutExpiry => exact event_keeps h (needleTimesOut_keeps h)
  case lostWatchExpiry => exact event_keeps h (watchFires_keeps h)
  case threadPulse => exact event_keeps h (by simpa using h)
  case sensorTestExpiry => exact event_keeps (by simpa using h) (sensorTestExpires_keeps (by simpa using h))
  case byteReceived => exact event_keeps h (by simpa using h)
  case stepEmitted => exact event_keeps h (by simpa using h)

/-- Whatever a step does, it keeps the store's laws. -/
theorem step_keeps {t : State} (ht : step s = .next t) : s.Keeps t := by
  unfold step at ht
  split at ht
  · next i rest _ => exact exec_keeps (s := { s with pending := rest }) ((keeps_congr rfl rfl).mpr (State.Keeps.refl s)) ht
  · cases ht; exact keeps_tick.mpr (State.Keeps.refl s)

/-- Settles O4: each operation that a step is made of keeps the law of the ring. -/
theorem stepKeepsTheStoreLaw : Obligations.StepKeepsTheStoreLaw := fun _ _ hl ht => (step_keeps ht).1 hl

/-- Settles O5: each operation that a step is made of keeps the targets of the records held within the soft limits. -/
theorem stepKeepsTheLimitLaw : Obligations.StepKeepsTheLimitLaw := fun _ _ hl ht => (step_keeps ht).2 hl

end Sys2Proof.Machine
end

section
/-! PROOFS. The state after reset meets the laws. -/

namespace Sys2Proof.Machine

/-- Settles O3: the state after reset is a closed term, and each of its laws is decided on it. -/
theorem resetMeetsTheLaws : Obligations.ResetMeetsTheLaws := by
  unfold Obligations.ResetMeetsTheLaws
  decide

end Sys2Proof.Machine
end

section
/-! PROOFS. The ends of the resets (R22, R193, R194). -/

namespace Sys2Proof.Machine

/-- With no lock cause standing a reset ends with the notice STARTUP alone (R106, R193). -/
theorem endReset_of_no_lock {s : State} (hc : s.store.check.slot = none) (he : s.pins.estop = false)
    (hd : s.pins.driveFault = false) (k : ResetKind) :
    endReset k s = raiseNotice srcStartup 0 (startupDetail k s.store.check) s := by
  simp [endReset, hc, he, hd]

/-- The STARTUP detail of a passed and of a failed check (R199, R204). -/
theorem startupDetail_passed (k : ResetKind) : startupDetail k .passed = [1, BitVec.ofNat 8 k.value, 0, 0, 0, 0] := by
  cases k <;> decide
theorem startupDetail_failed (slot : Half) : startupDetail .powerOn (.failed slot) = [1, 0, 1, 1] ++ u16 slot.toNat := by
  simp [startupDetail, StoreCheck.slot, whenBytes, flagByte, ResetKind.value, Config.partRevision]

/-- A power-on reset ends as the store check does (R22, R193). -/
theorem exec_storeCheckDone {s : State} (hs : s.store.check = .running) (failed : Option Half) :
    exec (.storeCheckDone failed) s = .next (settle (storeCheckEnds failed s)) := by
  have hc : s.checking = true := by simp [State.checking, hs]
  show Host.Outcome.next _ = _
  rw [if_pos hc]

/-- Settles O14: with no lock cause standing the end of the reset raises STARTUP and nothing more. -/
theorem aPassedStoreCheckEndsTheReset : Obligations.APassedStoreCheckEndsTheReset := by
  intro s hs he hd
  have h := endReset_of_no_lock (s := startSettle (s.modStore fun st => { st with check := .passed })) rfl he hd .powerOn
  rw [show (startSettle (s.modStore fun st => { st with check := .passed })).store.check = .passed from rfl,
    startupDetail_passed] at h
  rw [exec_storeCheckDone hs]
  exact congrArg (fun t => Host.Outcome.next (settle t)) h

/-- The cause STORE, taken in IDLE, is recorded alone and locks the part, with no effect on the other blocks (R94). -/
theorem takeCause_store_of_idle {s : State} (hs : s.run.state = .idle) (i : Nat) :
    takeCause .store i s =
      setRunState .locked ((clearResume (recordAlone .store i s)).modRun fun r => { r with kind := some .emergency }) := by
  have he : Cause.isEmergency .store = false := rfl
  simp only [takeCause, hs, he, Bool.false_eq_true, if_false, if_true]

/-- Entering LOCKED from IDLE raises STATE (R84, R187). -/
theorem setRunState_locked_notices {s : State} (hs : s.run.state = .idle) :
    (setRunState .locked s).notices =
      (raiseNotice srcState s.store.cursor (stateDetail .idle .locked s.store.cursor none) s).notices := by
  simp [setRunState, hs, raiseNotice]

/-- With a failed store check and no other lock cause standing a reset ends with STARTUP and then the cause STORE (R106, R193). -/
theorem endReset_of_failed {s : State} {slot : Half} (hc : s.store.check = .failed slot) (hs : s.run.state = .idle)
    (he : s.pins.estop = false) (hd : s.pins.driveFault = false) (k : ResetKind) :
    endReset k s = takeCause .store 0 (raiseNotice srcStartup 0 (startupDetail k (.failed slot)) s) := by
  have hpins : (takeCause .store 0 (raiseNotice srcStartup 0 (startupDetail k (.failed slot)) s)).pins = s.pins := by
    rw [takeCause_store_of_idle (by exact hs)]
    simp [clearResume, recordAlone]
  simp [endReset, hc, StoreCheck.slot, hpins, he, hd]

/-- Settles O15: the store check's result stands in the store, STARTUP is raised, and then the cause STORE is taken. -/
theorem aFailedStoreCheckLocks : Obligations.AFailedStoreCheckLocks := by
  intro slot s hs hidle he hd
  have hend := endReset_of_failed (s := startSettle (s.modStore fun st => { st with check := .failed slot })) (slot := slot)
    rfl hidle he hd .powerOn
  rw [takeCause_store_of_idle (by exact hidle), startupDetail_failed] at hend
  refine ⟨_, exec_storeCheckDone hs _, ?_⟩
  rw [storeCheckEnds, hend]
  refine ⟨by simp; rfl, by simp, by simp; rfl, by simp; rfl, ?_, by simp; rfl, by simp; rfl, by simp; rfl, by simp; rfl⟩
  rw [setRunState_locked_notices (by exact hidle)]
  rfl

/-- Settles O16: the reset that becomes due gives every block its RESTART value. -/
theorem restartLeavesTheRestartValues : Obligations.RestartLeavesTheRestartValues := by
  intro s hdue hs he hd
  refine ⟨s.restarted, ?_, ?_⟩
  · have hc : s.restarted.store.check = .passed := hs
    have h := endReset_of_no_lock (s := s.restarted) (by rw [hc]; rfl) he hd .restart
    show Host.Outcome.next _ = _
    rw [if_pos hdue, makeRestart, h, hc, startupDetail_passed]
    rfl
  · refine ⟨rfl, rfl, rfl, rfl, ?_, rfl, rfl, ⟨rfl, rfl, rfl, rfl, rfl, ?_, rfl, rfl, rfl, rfl⟩, rfl,
      ⟨rfl, rfl, rfl, rfl, fun c => ?_⟩, rfl, ⟨fun h => ?_, rfl, rfl⟩, ⟨fun h => ?_, rfl, rfl⟩, ⟨fun n => ?_, rfl, rfl, rfl⟩, rfl⟩
    · simp [State.restarted, hs]
    · simp [State.restarted, Frame.restart, Option.isSome_iff_ne_none]
    · exact mapTwelve_get _ _ _
    · exact mapTwelve_get _ _ _
    · have hh : s.restarted.head h = (s.head h).restart := mapTwelve_get _ _ _
      rw [hh]
      refine ⟨rfl, rfl, rfl, rfl, rfl, ?_⟩
      cases hst : (s.head h).state <;> simp [HeadEntry.restart, hst]
    · simp [State.restarted, NoticeUnit.restart, NoticeUnit.reset]

end Sys2Proof.Machine
end

section
/-! PROOFS. DESIGN OPEN and DESIGN DISCARD (R4, R6). -/

namespace Sys2Proof.Machine

/-- A request taken at once, with the answer its block gives (R184). -/
theorem exec_answered {i : Instr} {kind tag : Byte} {body : List Byte} {s t : State} {a : Answer}
    (hx : exec i s = .next (ask i s)) (hs : s.ready) (he : encodeRequest i = some (kind, tag, body)) (hk : kind ≠ 36#8)
    (ha : answerOf i (hunt s) = (t, a)) : exec i s = .next (replied kind tag a.status a.payload t) := by
  rw [hx, ask_answered hs he hk ha]

/-- A design is dropped: the store is the new one, with no record in it the list is empty, and of the heads the gaps go and a kept
detection start falls to 0 (R4, R6, R45, R54). -/
theorem dropDesign_emptied {st : Store} (hr : st.records = []) (s : State) :
    s.Emptied (dropDesign st s) ∧ (dropDesign st s).store = st ∧ (dropDesign st s).run = s.run ∧
    (dropDesign st s).frame = s.frame ∧ (dropDesign st s).needle = s.needle ∧ (dropDesign st s).notices = s.notices := by
  have hlist (t : State) (ht : t.store = st) : t.freshLookahead = [] := by
    rw [State.freshLookahead, ht, Store.pendingRecords, hr]; simp [indexed, planTurns]
  refine ⟨⟨rfl, rfl, rfl, rfl, rfl, ?_, fun h => mapTwelve_get _ _ h, rfl, rfl, rfl, rfl, rfl⟩, rfl, rfl, rfl, rfl, rfl⟩
  have hl := hlist ((((s.modStore fun _ => st).modHeads fun _ h => { h with gaps := [], kept := h.kept.map fun _ => 0 }).modPlanner
    fun p => { p with caps := [], stopPoint := none })) rfl
  exact congrArg (fun l => { s.planner with caps := [], stopPoint := none, lookahead := l }) hl

/-- What a dropped design leaves does not hang on the run, the frame, the notices and the link. -/
theorem State.Emptied.of_eq {s t u : State} (h : s.Emptied t) (hp : u.params = t.params) (hi : u.pins = t.pins)
    (hs : u.shaft = t.shaft) (hf : u.func = t.func) (ht : u.thread = t.thread) (hl : u.planner = t.planner)
    (hb : u.table = t.table) (hc : u.clock = t.clock) (hq : u.pending = t.pending) : s.Emptied u := by
  simpa only [State.Emptied, State.head, hp, hi, hs, hf, ht, hl, hb, hc, hq] using h

/-- DESIGN OPEN is refused outside IDLE (R4). -/
theorem openDesign_of_not_idle {s : State} (h : s.run.state ≠ .idle) (x y : Int) : openDesign x y s = (s, plain .state) := by
  simp [openDesign, h]

/-- DESIGN OPEN is refused with its origin outside the soft limits (R4). -/
theorem openDesign_of_outside {s : State} (h : s.run.state = .idle) {x y : Int} (hl : ¬ s.inLimits ⟨x, y⟩ = true) :
    openDesign x y s = (s, plain .limit) := by
  simp [openDesign, h, hl]

/-- DESIGN OPEN begins a design at the origin (R4). -/
theorem openDesign_of_inside {s : State} (h : s.run.state = .idle) {x y : Int} (hl : s.inLimits ⟨x, y⟩ = true) :
    openDesign x y s = ((dropDesign { Store.empty s.store.check with isOpen := true, origin := ⟨x, y⟩ } s).modRun
      fun r => { r with armed := false }, plain .done) := by
  simp [openDesign, h, hl]

/-- DESIGN DISCARD is refused in a run and in LOCKED (R6). -/
theorem discardDesign_of_state {s : State} (h : s.inRun = true ∨ s.run.state = .locked) : discardDesign s = (s, plain .state) := by
  have h' : s.run.state = .running ∨ s.run.state = .stopping ∨ s.run.state = .locked := by
    simpa [State.inRun, or_assoc] using h
  simp [discardDesign, h']

/-- Neither in a run nor in LOCKED. -/
theorem not_run_or_locked {s : State} (h : s.inRun = false) (hl : s.run.state ≠ .locked) :
    ¬ (s.run.state = .running ∨ s.run.state = .stopping ∨ s.run.state = .locked) := by
  simp only [State.inRun, decide_eq_false_iff_not, not_or] at h
  simp [h, hl]

/-- DESIGN DISCARD is refused with an operation in the slot (R6). -/
theorem discardDesign_of_busy {s : State} (h : s.inRun = false) (hl : s.run.state ≠ .locked) (hs : s.run.slot ≠ none) :
    discardDesign s = (s, plain .busy) := by
  have hb : s.slotEmpty = false := by simp [State.slotEmpty, Option.isSome_iff_ne_none, hs]
  simp [discardDesign, not_run_or_locked h hl, hb]

/-- DESIGN DISCARD empties the store, ends repair and every wait, and leaves the part in IDLE (R6, R78, R99, R104). -/
theorem discardDesign_of_empty_slot {s : State} (h : s.inRun = false) (hl : s.run.state ≠ .locked) (hs : s.run.slot = none) :
    discardDesign s = (setRunState .idle (clearResume (((dropDesign (.empty s.store.check) s).modRun
      fun r => { r with repair := .inactive, armed := false, inject := none }).modFrame fun f => { f with offset := .zero })),
      plain .done) := by
  have hb : s.slotEmpty = true := by simpa [State.slotEmpty] using hs
  simp [discardDesign, not_run_or_locked h hl, hb]

theorem inLimits_iff (s : State) (p : Pt) : s.inLimits p = true ↔
    s.par .limitXMin ≤ p.x ∧ p.x ≤ s.par .limitXMax ∧ s.par .limitYMin ≤ p.y ∧ p.y ≤ s.par .limitYMax := by
  simp [State.inLimits, and_assoc]

/-- Entering IDLE raises STATE where another state is left (R84, R187). -/
theorem setRunState_idle_notices (s : State) :
    (setRunState .idle s).notices = if s.run.state = .idle then s.notices
      else (raiseNotice srcState s.store.cursor (stateDetail s.run.state .idle s.store.cursor none) s).notices := by
  unfold setRunState
  split <;> rfl

/-- What DESIGN OPEN leaves (R4). -/
theorem designOpen_leaves (x y : Int) (s : State) :
    let t := (dropDesign { Store.empty s.store.check with isOpen := true, origin := ⟨x, y⟩ } s).modRun
      fun r => { r with armed := false }
    s.Emptied t ∧ t.store = { Store.empty s.store.check with isOpen := true, origin := ⟨x, y⟩ } ∧
    t.run = { s.run with armed := false } ∧ t.frame = s.frame ∧ t.needle = s.needle ∧ t.notices = s.notices := by
  obtain ⟨hempty, hstore, hrun, hframe, hneedle, hnotices⟩ :=
    dropDesign_emptied (st := { Store.empty s.store.check with isOpen := true, origin := ⟨x, y⟩ }) rfl s
  exact ⟨hempty.of_eq rfl rfl rfl rfl rfl rfl rfl rfl rfl, hstore, by simp [hrun], hframe, hneedle, hnotices⟩

/-- What DESIGN DISCARD leaves (R6, R78, R99, R104). -/
theorem designDiscard_leaves (s : State) :
    let t := setRunState .idle (clearResume (((dropDesign (.empty s.store.check) s).modRun
      fun r => { r with repair := .inactive, armed := false, inject := none }).modFrame fun f => { f with offset := .zero }))
    s.Emptied t ∧ t.store = .empty s.store.check ∧
    t.run = { s.run with
      repair := ⟨false, 0, 0⟩, armed := false, inject := none, resume := none, colourTimer := .stopped, state := .idle } ∧
    t.frame = { s.frame with offset := ⟨0, 0⟩ } ∧
    t.notices = if s.run.state = .idle then s.notices
      else (raiseNotice srcState 0 (stateDetail s.run.state .idle 0 none) s).notices := by
  obtain ⟨hempty, hstore, hrun, hframe, -, hnotices⟩ := dropDesign_emptied (st := .empty s.store.check) rfl s
  intro t
  refine ⟨hempty.of_eq ?_ ?_ ?_ ?_ ?_ ?_ ?_ ?_ ?_, ?_, ?_, ?_, ?_⟩
  · simp [t, clearResume]
  · simp [t, clearResume]
  · simp [t, clearResume]
  · simp [t, clearResume]
  · simp [t, clearResume]
  · simp [t, clearResume]
  · simp [t, clearResume]
  · simp [t, clearResume]
  · simp [t, clearResume]
  · simpa [t, clearResume] using hstore
  · simp [t, clearResume, hrun, Repair.inactive]
  · simp [t, clearResume, hframe, Pt.zero]
  · simp only [t, setRunState_idle_notices]
    rfl

/-- Settles O41: the refusals come from the checks in order, and what is left from the store emptied. -/
theorem designOpenAndDiscardEmptyTheStore : Obligations.DesignOpenAndDiscardEmptyTheStore := by
  refine ⟨fun tag x y s hs => ?_, fun tag s hs => ?_⟩
  · have hanswer {t : State} {st : Status} (h : openDesign x.toInt y.toInt (hunt s) = (t, plain st)) :
        exec (.designOpen tag x y) s = .next (replied 0x0B tag st [] t) :=
      exec_answered (a := plain st) rfl hs rfl (by decide) h
    refine ⟨fun hi => hanswer (openDesign_of_not_idle (s := hunt s) hi _ _), fun hi hg => hanswer (openDesign_of_outside (s := hunt s) hi ?_),
      fun hi hg => ⟨_, hanswer (openDesign_of_inside (s := hunt s) hi ((inLimits_iff (hunt s) ⟨x.toInt, y.toInt⟩).mpr hg)), designOpen_leaves _ _ (hunt s)⟩⟩
    exact fun hl => hg ((inLimits_iff _ _).mp hl)
  · have hanswer {t : State} {st : Status} (h : discardDesign (hunt s) = (t, plain st)) :
        exec (.designDiscard tag) s = .next (replied 0x0D tag st [] t) :=
      exec_answered (a := plain st) rfl hs rfl (by decide) h
    refine ⟨fun hr => hanswer (discardDesign_of_state (s := hunt s) hr), fun hr hl hb => hanswer (discardDesign_of_busy (s := hunt s) hr hl hb),
      fun hr hl hb => ⟨_, hanswer (discardDesign_of_empty_slot (s := hunt s) hr hl hb), ?_⟩⟩
    obtain ⟨hempty, hstore, hrun, hframe, hnotices⟩ := designDiscard_leaves (hunt s)
    refine ⟨hempty, hstore, hrun, hframe, fun hi => ?_, fun hi => ?_⟩
    · exact hnotices.trans (if_pos hi)
    · exact hnotices.trans (if_neg hi)

end Sys2Proof.Machine
end

section
/-! PROOFS. LOAD (R7 to R9): the bytes of a record, its checks, and the records taken in order up to the first that fails. -/

namespace Sys2Proof.Machine

/-! ### The bytes of a record (R8, R201) -/

theorem toInt_eq_neg_128 (c : Byte) : c.toInt = -128 ↔ c = 0x80#8 := by
  rw [← BitVec.toInt_inj]; rfl

/-- A record's bytes are malformed exactly where FORM of R8 says so, and else spell the record of their kind (R201). -/
theorem recordOf_spec (kind c1 c2 : Byte) :
    (recordOf kind c1 c2 = none ↔ kind.toNat < 1 ∨ 5 < kind.toNat ∨
      ((kind = 1 ∨ kind = 2) ∧ (c1.toInt = -128 ∨ c2.toInt = -128)) ∨
      (kind = 3 ∧ (63 < c1.toNat ∨ c2 ≠ 0)) ∨ ((kind = 4 ∨ kind = 5) ∧ (c1 ≠ 0 ∨ c2 ≠ 0))) ∧
    ∀ r, recordOf kind c1 c2 = some r →
      (kind = 1 → r = .stitch c1.toInt c2.toInt) ∧ (kind = 2 → r = .jump c1.toInt c2.toInt) ∧
      (kind = 3 → ∃ c : Code, r = .function c ∧ c.val = c1.toNat) ∧ (kind = 4 → r = .colour) ∧ (kind = 5 → r = .endRec) := by
  by_cases hout : kind.toNat < 1 ∨ 5 < kind.toNat
  · have hnone : recordOf kind c1 c2 = none := by
      unfold recordOf
      split
      case h_6 => rfl
      all_goals omega
    rw [hnone]
    exact ⟨iff_of_true rfl (by tauto), by simp⟩
  · have hkind : kind = 1 ∨ kind = 2 ∨ kind = 3 ∨ kind = 4 ∨ kind = 5 := by bv_omega
    rcases hkind with rfl | rfl | rfl | rfl | rfl
    · have h : recordOf 1 c1 c2 = if c1 = 0x80#8 ∨ c2 = 0x80#8 then none else some (.stitch c1.toInt c2.toInt) := rfl
      rw [h]
      split <;> simp_all [toInt_eq_neg_128]
    · have h : recordOf 2 c1 c2 = if c1 = 0x80#8 ∨ c2 = 0x80#8 then none else some (.jump c1.toInt c2.toInt) := rfl
      rw [h]
      split <;> simp_all [toInt_eq_neg_128]
    · have h : recordOf 3 c1 c2 = if c2 = 0#8 then (codeOf c1).map .function else none := rfl
      rw [h, codeOf]
      by_cases hc : c1.toNat < 64
      · have hc' : ¬ 63 < c1.toNat := by omega
        split <;> simp_all
      · have hc' : 63 < c1.toNat := by omega
        split <;> simp_all
    · have h : recordOf 4 c1 c2 = if c1 = 0#8 ∧ c2 = 0#8 then some .colour else none := rfl
      rw [h]
      split
      · simp_all
      · simp_all; tauto
    · have h : recordOf 5 c1 c2 = if c1 = 0#8 ∧ c2 = 0#8 then some .endRec else none := rfl
      rw [h]
      split
      · simp_all
      · simp_all; tauto

/-! ### The checks on a record, in their order (R8) -/

/-- Without an open design, or past its END, a record is refused STATE (R8). -/
theorem intakeCheck_state {s : State} (raw : Option Rec) (h : ¬ (s.store.isOpen = true ∧ s.store.endLoaded = false)) :
    s.intakeCheck raw = some .state := by
  have h' : (!s.store.isOpen || s.store.endLoaded) = true := by
    cases ho : s.store.isOpen <;> cases he : s.store.endLoaded <;> simp_all
  simp [State.intakeCheck, h']

section
variable {s : State} (ht : s.store.isOpen = true ∧ s.store.endLoaded = false)
include ht

/-- Malformed bytes, and a COLOUR record past colour step 255, are refused FORM (R8). -/
theorem intakeCheck_form {raw : Option Rec} (h : ∀ r, ¬ (raw = some r ∧ (r = .colour → s.store.fillColour ≠ 255))) :
    s.intakeCheck raw = some .form := by
  cases raw with
  | none => simp [State.intakeCheck, ht]
  | some r =>
    have hr : r = .colour ∧ s.store.fillColour = 255 := by simpa using h r
    simp [State.intakeCheck, ht, hr]

/-- A formed record that finds no room is refused FULL (R8). -/
theorem intakeCheck_full {r : Rec} (hr : r = .colour → s.store.fillColour ≠ 255)
    (hf : s.store.free = 0 ∨ s.store.fill = Config.indexTop) : s.intakeCheck (some r) = some .full := by
  have h : ¬ (r = .colour ∧ s.store.fillColour = 255) := fun h => hr h.1 h.2
  simp [State.intakeCheck, ht, h, hf]

/-- A formed record that finds room passes, but for a turn to a target outside the soft limits (R8, R68). -/
theorem intakeCheck_of_room {r : Rec} (hr : r = .colour → s.store.fillColour ≠ 255)
    (hf : ¬ (s.store.free = 0 ∨ s.store.fill = Config.indexTop)) :
    (r.move = none → s.intakeCheck (some r) = none) ∧
    ∀ d, r.move = some d → s.intakeCheck (some r) =
      if s.inLimits ((s.store.origin.add s.store.fillPos).add d) then none else some .limit := by
  have h : ¬ (r = .colour ∧ s.store.fillColour = 255) := fun h => hr h.1 h.2
  exact ⟨fun hm => by simp [State.intakeCheck, ht, h, hf, hm], fun d hm => by simp [State.intakeCheck, ht, h, hf, hm]⟩

end

/-- The ring has no free slot (R2). -/
theorem Store.free_eq_zero (st : Store) : st.free = 0 ↔ 65536 ≤ st.fill - st.retire := by
  simp only [Store.free, Config.slots]; omega

/-! ### The records taken (R7, R9) -/

/-- What accepted records leave of the store (R9). -/
theorem Store.foldl_accept (l : List Rec) (st : Store) :
    l.foldl (fun st r => st.accept r) st = { st with
      records := st.records ++ l
      fill := st.fill + l.length
      fillPos := st.fillPos.add (travel l)
      fillColour := st.fillColour + (l.filter fun r => decide (r = .colour)).length
      endLoaded := st.endLoaded || l.contains .endRec } := by
  induction l generalizing st with
  | nil => simp [travel]
  | cons r l ih =>
    rw [List.foldl_cons, ih]
    cases r <;> simp [Store.accept, travel, Rec.move, Pt.add_assoc, Nat.add_assoc, Nat.add_comm 1]

/-- The three bytes of each record of a LOAD. -/
def loadBytes (items : List (Byte × Byte × Byte)) : List Byte := items.flatMap fun i => [i.1, i.2.1, i.2.2]

/-- The state with these records taken. -/
def State.withTaken (s : State) (l : List Rec) : State := { s with store := l.foldl (fun st r => st.accept r) s.store }

/-- The records of a LOAD that are taken: each passes its checks as those before it have been taken, and after them all are taken, or
the next fails with this status (R7, R8). -/
def Taken (s : State) (items : List (Byte × Byte × Byte)) (taken : List Rec) (failed : Option Status) : Prop :=
  taken.length ≤ items.length ∧
  (∀ (k : Nat) (r : Rec), taken[k]? = some r → ∃ i, items[k]? = some i ∧ recordOf i.1 i.2.1 i.2.2 = some r ∧
    (s.withTaken (taken.take k)).intakeCheck (some r) = none) ∧
  (taken.length = items.length ∧ failed = none ∨
    ∃ i st, items[taken.length]? = some i ∧ failed = some st ∧
      (s.withTaken taken).intakeCheck (recordOf i.1 i.2.1 i.2.2) = some st)

/-- A first record that passes its checks is taken before those that follow (R7). -/
theorem Taken.cons {s : State} {items : List (Byte × Byte × Byte)} {taken : List Rec} {failed : Option Status}
    {i : Byte × Byte × Byte} {r : Rec} (hi : recordOf i.1 i.2.1 i.2.2 = some r) (hc : s.intakeCheck (some r) = none)
    (h : Taken (s.modStore (Store.accept r)) items taken failed) : Taken s (i :: items) (r :: taken) failed := by
  obtain ⟨hlen, heach, hend⟩ := h
  refine ⟨by simpa using hlen, fun k x hx => ?_, ?_⟩
  case refine_2 => simpa [State.withTaken] using hend
  cases k with
  | zero =>
    cases hx
    exact ⟨i, rfl, hi, hc⟩
  | succ k => exact heach k x hx

/-- The intake takes the records that pass, and stops at the first that fails (R7 to R9). -/
theorem intake_loadBytes (items : List (Byte × Byte × Byte)) (n : Nat) (s : State) :
    ∃ taken failed, intake (loadBytes items) n s = (s.withTaken taken, n + taken.length, failed) ∧ Taken s items taken failed := by
  induction items generalizing n s with
  | nil => exact ⟨[], none, rfl, by simp [Taken]⟩
  | cons i items ih =>
    have hbytes : loadBytes (i :: items) = i.1 :: i.2.1 :: i.2.2 :: loadBytes items := rfl
    rw [hbytes, intake]
    cases hc : s.intakeCheck (recordOf i.1 i.2.1 i.2.2) with
    | some st => exact ⟨[], some st, rfl, by simp, by simp, .inr ⟨i, st, rfl, rfl, hc⟩⟩
    | none =>
      cases hr : recordOf i.1 i.2.1 i.2.2 with
      | none =>
        rw [hr] at hc
        simp only [State.intakeCheck] at hc
        split at hc <;> cases hc
      | some r =>
        rw [hr] at hc
        obtain ⟨taken, failed, hin, htaken⟩ := ih (n + 1) (s.modStore (Store.accept r))
        refine ⟨r :: taken, failed, hin.trans ?_, htaken.cons hr hc⟩
        simp [State.withTaken, Nat.add_assoc, Nat.add_comm 1]

/-! ### LOAD (R7, R47, R55) -/

theorem loadBytes_length (items : List (Byte × Byte × Byte)) : (loadBytes items).length = 3 * items.length := by
  induction items with
  | nil => rfl
  | cons i items ih => simp [loadBytes] at ih ⊢; omega

/-- The low mark is armed again when enough records are pending, and nothing else changes (R21). -/
theorem rearmLowMark_eq (s : State) : rearmLowMark s = { s with store := { s.store with
    lowArmed := s.store.lowArmed || decide (s.nat .lowMark ≤ s.store.fill - s.store.cursor) } } := by
  unfold rearmLowMark
  by_cases h : s.nat .lowMark ≤ s.store.fill - s.store.cursor <;> simp [h, State.modStore]

/-- A LOAD that is not refused takes records (R7 to R9). -/
theorem loadRecords_eq {s : State} {start : Index3} {count : Byte} {data : List Byte}
    (hc : ¬ (count.toNat < 1 ∨ Config.loadLimit < count.toNat ∨ data.length ≠ 3 * count.toNat)) (hs : start.toNat = s.store.fill)
    {t : State} {n : Nat} {failed : Option Status} (hi : intake data 0 s = (t, n, failed)) :
    let u := if n = 0 then t else rebuildAtLoad (rearmLowMark t)
    loadRecords start count data s = (u, loadAnswer (failed.getD .done) n u) := by
  unfold loadRecords
  rw [if_neg hc, if_neg (not_not_intro hs), hi]

/-- The store after a LOAD (R9, R21). -/
theorem load_store (s : State) (taken : List Rec) :
    (if taken.length = 0 then s.withTaken taken else rebuildAtLoad (rearmLowMark (s.withTaken taken))).store = { s.store with
      records := s.store.records ++ taken
      fill := s.store.fill + taken.length
      fillPos := s.store.fillPos.add (travel taken)
      fillColour := s.store.fillColour + (taken.filter fun r => decide (r = .colour)).length
      endLoaded := s.store.endLoaded || taken.contains .endRec
      lowArmed := s.store.lowArmed ||
        (!taken.isEmpty && decide (s.nat .lowMark ≤ s.store.fill + taken.length - s.store.cursor)) } := by
  have hs : (s.withTaken taken).store = _ := Store.foldl_accept taken s.store
  cases taken with
  | nil => simp [State.withTaken, travel]
  | cons r l =>
    simp only [List.length_cons, Nat.succ_ne_zero, if_false, rebuildAtLoad_store, rearmLowMark_eq, hs]
    rfl

/-- A LOAD changes the store and the planner alone (R9, R47). -/
theorem load_frame (s : State) (taken : List Rec) :
    let t := if taken.length = 0 then s.withTaken taken else rebuildAtLoad (rearmLowMark (s.withTaken taken))
    t.params = s.params ∧ t.pins = s.pins ∧ t.shaft = s.shaft ∧ t.frame = s.frame ∧ t.run = s.run ∧ t.func = s.func ∧
    t.needle = s.needle ∧ t.thread = s.thread ∧ t.table = s.table ∧ t.notices = s.notices := by
  intro t
  simp only [t]
  split
  · exact ⟨rfl, rfl, rfl, rfl, rfl, rfl, rfl, rfl, rfl, rfl⟩
  · simp [rearmLowMark_eq, State.withTaken]

/-- LOAD with a body that fits a frame is answered by the store (R184, R201). -/
theorem load_answered {s t : State} (hs : s.ready) {tag : Byte} {start : Index3} {count : Byte}
    {items : List (Byte × Byte × Byte)} {a : Answer} (hfit : items.length ≤ 82)
    (ha : loadRecords start count (loadBytes items) (hunt s) = (t, a)) :
    exec (.load tag start count (loadBytes items)) s = .next (replied 0x0C tag a.status a.payload t) := by
  refine exec_answered (a := a) rfl hs rfl (by decide) ?_
  have hlen : (loadBytes items).length ≤ 246 := by rw [loadBytes_length]; omega
  rw [← ha]
  exact if_pos hlen

/-- LOAD with a body too long for a frame (R184, R201). -/
theorem load_too_long {s : State} (hs : s.ready) {tag : Byte} {start : Index3} {count : Byte}
    {items : List (Byte × Byte × Byte)} (hlong : 82 < items.length) :
    exec (.load tag start count (loadBytes items)) s = .next (replied 0x0C tag .form [] (hunt s)) := by
  refine exec_answered (a := plain .form) rfl hs rfl (by decide) ?_
  have hlen : ¬ (loadBytes items).length ≤ 246 := by rw [loadBytes_length]; omega
  exact if_neg hlen

/-- LOAD with a bad count (R8). -/
theorem loadRecords_bad_count {s : State} {start : Index3} {count : Byte} {data : List Byte}
    (hc : count.toNat < 1 ∨ Config.loadLimit < count.toNat ∨ data.length ≠ 3 * count.toNat) :
    loadRecords start count data s = (s, ⟨.form, [0] ++ u24 s.store.fill⟩) := by
  unfold loadRecords
  rw [if_pos hc, loadAnswer, u8_eq]
  rfl

/-- LOAD with a start index other than fill (R8). -/
theorem loadRecords_bad_start {s : State} {start : Index3} {count : Byte} {data : List Byte}
    (hc : ¬ (count.toNat < 1 ∨ Config.loadLimit < count.toNat ∨ data.length ≠ 3 * count.toNat)) (hs : start.toNat ≠ s.store.fill) :
    loadRecords start count data s = (s, ⟨.sequence, [0] ++ u24 s.store.fill⟩) := by
  unfold loadRecords
  rw [if_neg hc, if_pos hs, loadAnswer, u8_eq]
  rfl

/-- Settles O42: a record's bytes, its checks in order, and the intake by induction on the records of the LOAD. -/
theorem loadTakesRecordsInOrder : Obligations.LoadTakesRecordsInOrder := by
  refine ⟨recordOf_spec, fun raw s => ?_, fun tag start count items s hs => ?_⟩
  · dsimp only
    refine ⟨intakeCheck_state raw, fun ht h => intakeCheck_form ht h, fun r ht hr hf => ?_, fun r ht hr hf => ?_⟩
    · rw [hr.1]
      exact intakeCheck_full ht hr.2 (by rwa [Store.free_eq_zero])
    · rw [← Store.free_eq_zero] at hf
      obtain ⟨hzero, hturn⟩ := intakeCheck_of_room ht hr.2 hf
      rw [hr.1]
      refine ⟨hzero, fun d hd hin => ?_, fun d hd hout => ?_⟩
      · rw [hturn d hd, if_pos ((inLimits_iff _ _).mpr hin)]
      · rw [hturn d hd, if_neg fun h => hout ((inLimits_iff _ _).mp h)]
  · have hcount : ¬ (1 ≤ count.toNat ∧ count.toNat ≤ 82 ∧ items.length = count.toNat) ↔
        count.toNat < 1 ∨ Config.loadLimit < count.toNat ∨ (loadBytes items).length ≠ 3 * count.toNat := by
      rw [loadBytes_length]; simp only [Config.loadLimit]; omega
    refine ⟨fun hlong => load_too_long hs hlong, fun hfit hbad => ?_, fun h1 h2 h3 hstart => ?_, fun h1 h2 h3 hstart => ?_⟩
    · have hanswer := load_answered hs (tag := tag) hfit
        (loadRecords_bad_count (s := hunt s) (start := start) (hcount.mp (by omega)))
      exact hanswer
    · have hgood := (not_congr hcount).mp (not_not_intro ⟨h1, h2, h3⟩)
      have hanswer := load_answered hs (tag := tag) (by omega) (loadRecords_bad_start (s := hunt s) hgood hstart)
      exact hanswer
    · have hgood := (not_congr hcount).mp (not_not_intro ⟨h1, h2, h3⟩)
      obtain ⟨taken, failed, hin, htaken, heach, hend⟩ := intake_loadBytes items 0 (hunt s)
      rw [Nat.zero_add] at hin
      have hanswer := load_answered hs (tag := tag) (by omega) (loadRecords_eq (s := hunt s) hgood hstart hin)
      have hstore := load_store (hunt s) taken
      refine ⟨taken, failed.getD .done, _, ?_, htaken, heach, ?_, hstore, load_frame (hunt s) taken⟩
      · simp only [loadAnswer, hstore] at hanswer
        exact hanswer
      · rcases hend with ⟨hlen, rfl⟩ | ⟨i, st, hi, rfl, hc⟩
        · exact .inl ⟨hlen, rfl⟩
        · exact .inr ⟨i, hi, hc⟩

end Sys2Proof.Machine
end

section
/-! PROOFS. Stepwise operations (R15, R16, R79, R170 to R177): the step over a turn record next to the cursor, the landing, and the
heads that an accepted REPAIR takes. -/

namespace Sys2Proof.Machine

/-! ### A step over one turn record, and the move that follows it (R15, R16, R63, R79) -/

/-- A chunked move with the frame off its target begins from where the frame then stands, and nothing but the frame changes
(R62, R63). -/
theorem beginChunked_lays {s : State} {p : Purpose} {target : Pt} {turn : Option Nat} (h : s.settledFrame.coord ≠ target) :
    ∃ m, beginChunked p target turn s = ({ s with frame := s.settledFrame.lay m }, false) ∧ m.abort = none ∧ m.turn = turn ∧
      s.LaysChunk p s.settledFrame.coord target m := by
  rw [beginChunked_eq, if_neg h, turnMoveEnds_eq]
  exact ⟨_, rfl, rfl, rfl, rfl, rfl, rfl, rfl⟩

/-- A stepwise operation whose next step carries a turn record moves the frame over it (R79). -/
theorem stepOn_moves {k : OpKind} {fuel : Nat} {g g' : Goal} {s w : State} (hg : goalStep g s = some (w, g', true))
    (hup : w.shaft.needleUp = true) (hne : w.settledFrame.coord ≠ w.designPoint) :
    ∃ m, stepOn k (fuel + 1) g s = { setGoal g' w with frame := w.settledFrame.lay m } ∧ m.abort = none ∧
      w.LaysChunk .stepMove w.settledFrame.coord w.designPoint m := by
  obtain ⟨m, hm, habort, -, hlays⟩ := beginChunked_lays (s := setGoal g' w) (p := .stepMove) (turn := none) hne
  refine ⟨m, ?_, habort, hlays⟩
  simp [stepOn, hg, hup, hm]
  rfl

/-- A stepwise operation whose goal is reached lands (R79, R137). -/
theorem stepOn_lands {k : OpKind} {fuel : Nat} {g : Goal} {s : State} (hg : goalStep g s = none) :
    stepOn k (fuel + 1) g s = stepwiseLands k s := by
  simp [stepOn, hg]

/-- The state after a step back over the turn record below the cursor (R13, R15, R21, R45, R54). -/
def State.backOver (s : State) (d : Pt) : State :=
  rebuild { s with
    store := { s.store with
      cursor := s.store.cursor - 1, cursorPos := s.store.cursorPos.sub d
      lowArmed := s.store.lowArmed || decide (s.nat .lowMark ≤ s.store.fill - (s.store.cursor - 1)) }
    planner := { s.planner with caps := [], stopPoint := none } }

theorem storeBack_over_turn {s : State} {b : Nat} {r : Rec} {d : Pt} (hb : s.store.retire ≤ b) (hc : b < s.store.cursor)
    (hr : s.store.records[s.store.cursor - 1 - s.store.retire]? = some r) (hd : r.move = some d) :
    storeBack b s = (s.backOver d, some (s.store.cursor - 1)) := by
  have hnone : (s.store.records.take (s.store.cursor - s.store.retire)).drop (s.store.cursor - 1 + 1 - s.store.retire) = [] := by
    rw [List.drop_eq_nil_iff, List.length_take]; omega
  have hstep := s.store.stepBack_to_turn b (s.store.cursor - 1) r d hb (by omega) (by omega) hr hd (by simp [hnone])
  simp only [hnone, List.filter_nil, List.length_nil, Nat.sub_zero] at hstep
  simp only [storeBack, hstep, afterStep, if_true, rearmLowMark_eq]
  rfl

/-- The state after a step forward over the turn record at the cursor (R13, R16, R45, R54). -/
def State.forwardOver (s : State) (d : Pt) : State :=
  rebuild { s with
    store := { s.store with cursor := s.store.cursor + 1, cursorPos := s.store.cursorPos.add d }
    planner := { s.planner with caps := [], stopPoint := none } }

theorem storeForward_over_turn {s : State} {e : Nat} {r : Rec} {d : Pt} (he : s.store.cursor < e)
    (hr : s.store.records[s.store.cursor - s.store.retire]? = some r) (hd : r.move = some d) :
    storeForward e s = (s.forwardOver d, some s.store.cursor) := by
  have hpending : s.store.pendingRecords =
      (s.store.cursor, r) :: indexed (s.store.cursor + 1) (s.store.records.drop (s.store.cursor - s.store.retire + 1)) := by
    rw [Store.pendingRecords, List.drop_eq_getElem?_toList_append, hr]
    rfl
  have hstep : s.store.stepForward e =
      ⟨{ s.store with cursor := s.store.cursor + 1, cursorPos := s.store.cursorPos.add d }, some s.store.cursor⟩ := by
    obtain ⟨n, hn⟩ : ∃ n, e - s.store.cursor = n + 1 := ⟨e - s.store.cursor - 1, by omega⟩
    have hcolour : colourCount [(s.store.cursor, r)] = 0 := by simp [colourCount, colour_has_no_move hd]
    simp [Store.stepForward, hpending, hn, upToTurn, hd, Store.advance, hcolour]
  simp only [storeForward, hstep]
  rfl

/-- A goal not yet reached, with a turn record next to the cursor on the way to it (R79). -/
theorem goalStep_back {s : State} {n : Nat} {r : Rec} {d : Pt} (hn : 0 < n) (hc : s.store.retire < s.store.cursor)
    (hr : s.store.records[s.store.cursor - 1 - s.store.retire]? = some r) (hd : r.move = some d) :
    goalStep (.back n) s = some (s.backOver d, .back (n - 1), true) := by
  have hgo : ¬ (n = 0 ∨ s.store.cursor ≤ s.store.retire) := by omega
  simp [goalStep, hgo, storeBack_over_turn (Nat.le_refl _) hc hr hd]

theorem goalStep_downTo {s : State} {b : Nat} {r : Rec} {d : Pt} (hb : b < s.store.cursor) (hc : s.store.retire < s.store.cursor)
    (hr : s.store.records[s.store.cursor - 1 - s.store.retire]? = some r) (hd : r.move = some d) :
    goalStep (.downTo b) s = some (s.backOver d, .downTo b, true) := by
  have hgo : ¬ s.store.cursor ≤ max b s.store.retire := by omega
  simp [goalStep, hgo, storeBack_over_turn (Nat.le_max_right b s.store.retire) (by omega) hr hd]

theorem goalStep_upTo {s : State} {e : Nat} {r : Rec} {d : Pt} (he : s.store.cursor < e) (hf : s.store.cursor < s.store.fill)
    (hr : s.store.records[s.store.cursor - s.store.retire]? = some r) (hd : r.move = some d) :
    goalStep (.upTo e) s = some (s.forwardOver d, .upTo e, true) := by
  have hgo : ¬ min e s.store.fill ≤ s.store.cursor := by omega
  simp [goalStep, hgo, storeForward_over_turn (e := min e s.store.fill) (by omega) hr hd]

/-! ### BACKTRACK and REPAIR ABANDON (R170, R177) -/

/-- The checks that let an operation of the frame begin in a state (R63, R78, R102, R170). -/
theorem slotCheck_of_empty {s : State} {accepted : List RunState} (h : s.run.state ∈ accepted) (hs : s.run.slot = none) :
    s.slotCheck accepted = none := by
  simp [State.slotCheck, h, State.slotEmpty, hs]

theorem rewindBar_eq_none {s : State} (ha : s.run.repair.active = false) (hu : s.restsUp = true) (ho : s.frame.offset = .zero)
    (hr : s.frame.ref = .referenced) : s.rewindBar = none := by
  simp [State.rewindBar, ha, hu, ho, hr]

theorem abandonBar_eq_none {s : State} (ha : s.run.repair.active = true) (hu : s.restsUp = true) (ho : s.frame.offset = .zero)
    (hr : s.frame.ref = .referenced) : s.abandonBar = none := by
  simp [State.abandonBar, ha, hu, ho, hr]

theorem needleUp_of_restsUp {s : State} (h : s.restsUp = true) : s.shaft.needleUp = true := by
  simp only [State.restsUp, Bool.and_eq_true] at h
  exact h.2

/-- A turn record below the cursor counts among those that BACKTRACK can cross (R15). -/
theorem historyTurns_pos {st : Store} {r : Rec} {d : Pt} (hc : st.retire < st.cursor)
    (hr : st.records[st.cursor - 1 - st.retire]? = some r) (hd : r.move = some d) : 0 < st.historyTurns := by
  refine List.length_pos_iff_exists_mem.mpr ⟨r, List.mem_filter.mpr ⟨?_, by simp [hd]⟩⟩
  refine List.mem_of_getElem? (i := st.cursor - 1 - st.retire) ?_
  rw [List.getElem?_take, if_pos (by omega), hr]

section
variable {s : State} (hslot : s.run.slot = none) (hup : s.restsUp = true) (hoff : s.frame.offset = .zero)
  (href : s.frame.ref = .referenced) (htab : s.shortTable = none)
include hslot hup hoff href htab

/-- A BACKTRACK with a turn record below the cursor steps back over it (R15, R79, R170). -/
theorem backtrackRequest_steps {count : Half} {r : Rec} {d : Pt} (hcount : count ≠ 0)
    (hstate : s.run.state = .ready ∨ s.run.state = .halted) (ha : s.run.repair.active = false)
    (hc : s.store.retire < s.store.cursor) (hr : s.store.records[s.store.cursor - 1 - s.store.retire]? = some r)
    (hd : r.move = some d) (hne : s.settledFrame.coord ≠ s.designPoint.sub d) :
    let n := min count.toNat s.store.historyTurns
    let w := (fillSlot .backtrack .host (some (.back n)) s).backOver d
    ∃ m, backtrackRequest count s = ({ setGoal (.back (n - 1)) w with frame := s.settledFrame.lay m }, ⟨.started, u16 n⟩) ∧
      m.abort = none ∧ s.LaysChunk .stepMove s.settledFrame.coord (s.designPoint.sub d) m := by
  intro n w
  have hn : 0 < n := by
    have hturns := historyTurns_pos hc hr hd
    have hzero : count.toNat ≠ 0 := fun h => hcount (BitVec.eq_of_toNat_eq h)
    omega
  have hpoint : w.designPoint = s.designPoint.sub d := by
    simp [w, State.designPoint, State.backOver, fillSlot, Pt.add, Pt.sub, Int.add_sub_assoc]
  obtain ⟨m, hm, habort, hlays⟩ := stepOn_moves (k := .backtrack) (fuel := s.store.records.length + 1)
    (goalStep_back (s := fillSlot .backtrack .host (some (.back n)) s) hn hc hr hd) (needleUp_of_restsUp hup)
    (by rw [hpoint]; exact hne)
  refine ⟨m, ?_, habort, by rw [hpoint] at hlays; exact hlays⟩
  have hcheck : s.slotCheck armedAtRest = none := slotCheck_of_empty (by simpa [armedAtRest] using hstate) hslot
  simp only [backtrackRequest, hcount, if_false, hcheck, rewindBar_eq_none ha hup hoff href, State.tablesBar, htab, Option.map_none]
  exact congrArg (fun t => (t, _)) hm

/-- A REPAIR ABANDON with a turn record at the cursor steps forward over it (R16, R79, R177). -/
theorem repairAbandonRequest_steps {r : Rec} {d : Pt} (hstate : s.run.state = .halted) (ha : s.run.repair.active = true)
    (hc : s.store.cursor < s.run.repair.resume) (hf : s.store.cursor < s.store.fill)
    (hr : s.store.records[s.store.cursor - s.store.retire]? = some r) (hd : r.move = some d)
    (hne : s.settledFrame.coord ≠ s.designPoint.add d) :
    let g := Goal.upTo s.run.repair.resume
    let w := (fillSlot .repairAbandon .host (some g) s).forwardOver d
    ∃ m, repairAbandonRequest s = ({ setGoal g w with frame := s.settledFrame.lay m }, plain .started) ∧
      m.abort = none ∧ s.LaysChunk .stepMove s.settledFrame.coord (s.designPoint.add d) m := by
  intro g w
  have hpoint : w.designPoint = s.designPoint.add d := by
    simp [w, State.designPoint, State.forwardOver, fillSlot, Pt.add_assoc]
  obtain ⟨m, hm, habort, hlays⟩ := stepOn_moves (k := .repairAbandon) (fuel := s.store.records.length + 1)
    (goalStep_upTo (s := fillSlot .repairAbandon .host (some g) s) hc hf hr hd) (needleUp_of_restsUp hup)
    (by rw [hpoint]; exact hne)
  refine ⟨m, ?_, habort, by rw [hpoint] at hlays; exact hlays⟩
  have hcheck : s.slotCheck [.halted] = none := slotCheck_of_empty (by simp [hstate]) hslot
  simp only [repairAbandonRequest, hcheck, abandonBar_eq_none ha hup hoff href, State.tablesBar, htab, Option.map_none]
  exact congrArg (fun t => (t, _)) hm

end

end Sys2Proof.Machine
end

section
/-! PROOFS. The heads that an accepted REPAIR takes (R166, R171), and the rewind it begins (R172). -/

namespace Sys2Proof.Machine

/-! ### Closing a gap list (R166) -/

theorem closeGapAt_append (c : Nat) (l m : List Gap) : closeGapAt c (l ++ m) = closeGapAt c l ++ closeGapAt c m :=
  List.filterMap_append

/-- A list with no open gap is closed already. -/
theorem closeGapAt_of_closed {c : Nat} {l : List Gap} (h : hasOpenGap l = false) : closeGapAt c l = l := by
  unfold closeGapAt
  refine (List.filterMap_congr fun g hg => ?_).trans (List.filterMap_some (l := l))
  have hclosed : g.stop ≠ none := by simpa [hasOpenGap] using List.any_eq_false.mp h g hg
  cases hstop : g.stop with
  | none => exact absurd hstop hclosed
  | some e => rfl

theorem closeGapAt_open (c a : Nat) : closeGapAt c [⟨a, none⟩] = if a < c then [⟨a, some c⟩] else [] := by
  by_cases h : c ≤ a
  · simp [closeGapAt, h, Nat.not_lt.mpr h]
  · simp [closeGapAt, h, Nat.not_le.mp h]

/-- A gap that a closing leaves was in the list with the same start. -/
theorem start_of_mem_closeGapAt {c : Nat} {l : List Gap} {k : Gap} (h : k ∈ closeGapAt c l) :
    ∃ k' ∈ l, k'.start = k.start := by
  obtain ⟨k', hmem, hk⟩ := List.mem_filterMap.mp h
  refine ⟨k', hmem, ?_⟩
  split at hk
  · cases hk; rfl
  · split at hk
    · cases hk
    · cases hk; rfl

/-- The least of a value and a list is at or above a bound where they all are. -/
theorem le_foldl_min_iff (l : List Nat) {g v : Nat} : g ≤ l.foldl min v ↔ g ≤ v ∧ ∀ x ∈ l, g ≤ x := by
  induction l generalizing v with
  | nil => simp
  | cons a l ih => simp [ih, and_assoc]

theorem mem_allHeads : ∀ h : Head, h ∈ allHeads := by decide

/-- Retention stays at or below the start of every gap (R18). -/
theorem retentionCandidate_le_gap {s : State} {h : Head} {k : Gap} (hk : k ∈ (s.head h).gaps) : s.retentionCandidate ≤ k.start := by
  have hmem : k.start ∈ (allHeads.flatMap fun h => (s.head h).gaps).map Gap.start :=
    List.mem_map_of_mem (List.mem_flatMap.mpr ⟨h, mem_allHeads h, hk⟩)
  have hlow : ∃ g, s.lowestGap = some g ∧ g ≤ k.start := by
    unfold State.lowestGap lowestStart
    revert hmem
    generalize (allHeads.flatMap fun h => (s.head h).gaps).map Gap.start = starts
    cases starts with
    | nil => intro hmem; cases hmem
    | cons a as =>
      intro hmem
      refine ⟨_, rfl, ?_⟩
      rcases List.mem_cons.mp hmem with heq | hmem
      · rw [heq]; exact ((le_foldl_min_iff as).mp le_rfl).1
      · exact ((le_foldl_min_iff as).mp le_rfl).2 _ hmem
  obtain ⟨g, hg, hle⟩ := hlow
  simp only [State.retentionCandidate, hg]
  omega

/-! ### The heads a REPAIR takes (R171) -/

/-- The entry of a head that a REPAIR with the cursor at c takes: an ISOLATED one has its open gap closed and becomes ACTIVE. -/
def HeadEntry.enlisted (c : Nat) (e : HeadEntry) : HeadEntry :=
  if e.state = .isolated then { e with state := .active, gaps := closeGapAt c e.gaps } else e

/-- A gap of a head that a REPAIR takes was its gap before, with the same start. -/
theorem start_of_mem_enlisted {c : Nat} {e : HeadEntry} {k : Gap} (h : k ∈ (e.enlisted c).gaps) : ∃ k' ∈ e.gaps, k'.start = k.start := by
  unfold HeadEntry.enlisted at h
  split at h
  · exact start_of_mem_closeGapAt h
  · exact ⟨k, h, rfl⟩

/-- The state with other entries in the Head Table and retire moved to r. -/
def State.retiredWith (s : State) (heads : Vector HeadEntry 12) (r : Nat) : State :=
  { s with
    table := { s.table with heads := heads }
    store := { s.store with retire := r, records := s.store.records.drop (r - s.store.retire) } }

/-- What taking the heads of a list leaves: their entries, and retire moved no further than the gaps left allow, and not at all
where no gap went. -/
structure Enlists (l : List Head) (s t : State) : Prop where
  eq : t = s.retiredWith t.table.heads t.store.retire
  retire_le : s.store.retire ≤ t.store.retire
  head : ∀ h, t.head h = if h ∈ l then (s.head h).enlisted s.store.cursor else s.head h
  retire_le_gap : ∀ h, ∀ k ∈ (t.head h).gaps, t.store.retire ≤ max s.store.retire k.start
  retire_eq : (∀ h ∈ l, (t.head h).gaps.length = (s.head h).gaps.length) → t.store.retire = s.store.retire

theorem retiredWith_self (s : State) : s = s.retiredWith s.table.heads s.store.retire := by
  simp [State.retiredWith]

theorem retiredWith_trans (s : State) (hd hd' : Vector HeadEntry 12) {r r' : Nat} (hr : s.store.retire ≤ r) (hr' : r ≤ r') :
    (s.retiredWith hd r).retiredWith hd' r' = s.retiredWith hd' r' := by
  simp only [State.retiredWith, List.drop_drop]
  rw [show r - s.store.retire + (r' - r) = r' - s.store.retire by omega]

theorem enlists_nil (s : State) : Enlists [] s s :=
  ⟨retiredWith_self s, le_rfl, fun h => by simp, fun _ _ _ => Nat.le_max_left _ _, fun _ => rfl⟩

theorem State.modHead_head (k h : Head) (f : HeadEntry → HeadEntry) (s : State) :
    (s.modHead h f).head k = if k = h then f (s.head h) else s.head k := by
  split
  · next e => subst e; exact State.modHead_head_same k f s
  · next e => exact State.modHead_head_other (Ne.symm e) f s

/-- Retention changes retire and the records below it alone (R18). -/
theorem runRetention_eq (s : State) : runRetention s = s.retiredWith s.table.heads (runRetention s).store.retire := by
  have hstore := runRetention_store s
  have hdrop : max s.store.retire s.retentionCandidate - s.store.retire = s.retentionCandidate - s.store.retire := by omega
  rw [State.retiredWith, runRetention_retire, hdrop, ← hstore]
  rfl

/-- One head taken, with its gap closed and retention run where a gap went (R18, R166). -/
theorem enlists_one (h : Head) (s : State) :
    Enlists [h] s (if (s.head h).state = .isolated then
      (closeHeadGap h s.store.cursor s).modHead h fun e => { e with state := .active } else s) := by
  by_cases hiso : (s.head h).state = .isolated
  · rw [if_pos hiso]
    let u := s.modHead h fun e => { e with gaps := closeGapAt s.store.cursor e.gaps }
    have hclose : closeHeadGap h s.store.cursor s =
        retainIf (decide ((closeGapAt s.store.cursor (s.head h).gaps).length < (s.head h).gaps.length)) u := rfl
    rw [hclose]
    have hheads (v : State) (hv : v.table = u.table) (k : Head) :
        (v.modHead h fun e => { e with state := .active }).head k =
          if k ∈ [h] then (s.head k).enlisted s.store.cursor else s.head k := by
      have hvu (k : Head) : v.head k = u.head k := by simp only [State.head, hv]
      rw [State.modHead_head, hvu, hvu, State.modHead_head, State.modHead_head]
      by_cases e : k = h
      · subst e; simp [HeadEntry.enlisted, hiso]
      · simp [e]
    by_cases hgone : (closeGapAt s.store.cursor (s.head h).gaps).length < (s.head h).gaps.length
    · rw [decide_eq_true hgone]
      simp only [retainIf, if_true]
      refine ⟨?_, Nat.le_trans (Nat.le_max_left _ _) (Nat.le_of_eq (runRetention_retire u).symm), hheads _ rfl, fun k g hg => ?_,
        fun hlen => ?_⟩
      · exact congrArg (fun v => v.modHead h fun e => { e with state := .active }) (runRetention_eq u)
      · have hmem : g ∈ (u.head k).gaps := by
          have hk : ((runRetention u).modHead h fun e => { e with state := .active }).head k =
              if k = h then { u.head h with state := .active } else u.head k := State.modHead_head k h _ (runRetention u)
          rw [hk] at hg
          split at hg
          · next e => rw [e]; exact hg
          · exact hg
        have hle := retentionCandidate_le_gap hmem
        exact Nat.le_trans (Nat.le_of_eq (runRetention_retire u)) (max_le_max le_rfl hle)
      · have hh := hlen h (List.mem_singleton_self h)
        rw [hheads (runRetention u) rfl, if_pos (List.mem_singleton_self h)] at hh
        simp only [HeadEntry.enlisted, hiso, if_true] at hh
        omega
    · rw [decide_eq_false hgone]
      simp only [retainIf]
      refine ⟨?_, le_rfl, hheads _ rfl, fun _ _ _ => Nat.le_max_left _ _, fun _ => rfl⟩
      exact retiredWith_self _
  · rw [if_neg hiso]
    refine ⟨retiredWith_self s, le_rfl, fun k => ?_, fun _ _ _ => Nat.le_max_left _ _, fun _ => rfl⟩
    split
    · next e => rw [List.mem_singleton] at e; subst e; simp [HeadEntry.enlisted, hiso]
    · rfl

/-- The heads of a list taken one after the other (R171). -/
theorem enlist_enlists : ∀ (l : List Head), l.Nodup → ∀ s : State, Enlists l s (enlist l s)
  | [], _, s => enlists_nil s
  | h :: l, hnodup, s => by
    obtain ⟨hnotin, hnodup⟩ := List.nodup_cons.mp hnodup
    have hone := enlists_one h s
    rw [enlist]
    revert hone
    generalize (if (s.head h).state = .isolated then _ else s) = u
    intro hone
    have hrest := enlist_enlists l hnodup u
    have hcursor : u.store.cursor = s.store.cursor := by rw [hone.eq]; rfl
    refine ⟨?_, hone.retire_le.trans hrest.retire_le, fun k => ?_, fun k g hg => ?_, fun hlen => ?_⟩
    · calc enlist l u = u.retiredWith (enlist l u).table.heads (enlist l u).store.retire := hrest.eq
        _ = (s.retiredWith u.table.heads u.store.retire).retiredWith _ _ := congrArg (State.retiredWith · _ _) hone.eq
        _ = _ := retiredWith_trans s _ _ hone.retire_le hrest.retire_le
    · rw [hrest.head, hcursor, hone.head]
      by_cases e : k = h
      · subst e; simp [hnotin]
      · simp [e]
    · rw [hrest.head k] at hg
      obtain ⟨g', hg', hstart⟩ : ∃ g' ∈ (u.head k).gaps, g'.start = g.start := by
        split at hg
        · exact start_of_mem_enlisted hg
        · exact ⟨g, hg, rfl⟩
      have hlow := hone.retire_le_gap k g' hg'
      have hhigh := hrest.retire_le_gap k g (by rw [hrest.head k]; exact hg)
      omega
    · have hhead : (enlist l u).head h = u.head h := by rw [hrest.head, if_neg hnotin]
      have hfirst := hone.retire_eq fun k hk => by
        rw [List.mem_singleton.mp hk, ← hhead, hlen h List.mem_cons_self]
      refine (hrest.retire_eq fun k hk => ?_).trans hfirst
      have hne : k ≠ h := fun e => hnotin (e ▸ hk)
      rw [hlen k (List.mem_cons_of_mem h hk), hone.head k, if_neg (by simpa using hne)]

/-! ### An accepted REPAIR (R171, R172) -/

/-- The state in which the rewind of an accepted REPAIR begins: the heads taken, the context, the slot, and HALTED. -/
def State.repairing (hs : HeadSet) (s : State) : State :=
  let u := (enlist (headsIn hs) s).modRun fun r => { r with repair := ⟨true, hs, (enlist (headsIn hs) s).store.cursor⟩ }
  setRunState .halted (fillSlot .repair .host (some (.downTo (u.rewindIndex hs))) u)

theorem rewindIndex_congr {s t : State} (htable : s.table = t.table) (hcursor : s.store.cursor = t.store.cursor) (hs : HeadSet) :
    s.rewindIndex hs = t.rewindIndex hs := by
  have hgap : s.firstGapStart = t.firstGapStart := funext fun h => by simp only [State.firstGapStart, State.head, htable]
  simp only [State.rewindIndex, hgap, hcursor]

theorem beginRepair_eq (hs : HeadSet) (s : State) :
    beginRepair hs s = stepOn .repair (s.repairing hs).stepFuel (.downTo ((s.repairing hs).rewindIndex hs)) (s.repairing hs) := by
  have htable : (s.repairing hs).table = (enlist (headsIn hs) s).table := by simp [State.repairing, fillSlot]
  have hstore : (s.repairing hs).store = (enlist (headsIn hs) s).store := by simp [State.repairing, fillSlot]
  rw [rewindIndex_congr (t := (enlist (headsIn hs) s).modRun fun r => { r with repair := ⟨true, hs, (enlist (headsIn hs) s).store.cursor⟩ })
    htable (congrArg Store.cursor hstore) hs]
  rfl

theorem nodup_headsIn (hs : HeadSet) : (headsIn hs).Nodup := List.Nodup.filter _ (by decide)

theorem mem_headsIn {hs : HeadSet} {h : Head} : h ∈ headsIn hs ↔ inSet hs h = true := by
  simp [headsIn, mem_allHeads]

/-- A head set field with no flag above head 12 names the heads of its flags (R199). -/
theorem inSet_setWidth (heads : Half) (h : Head) : inSet (heads.setWidth 12) h = heads.getLsbD h.val := by
  simp [inSet, h.isLt]

section
variable {s : State} {heads : Half} (hbits : heads.toNat < 4096) (hsome : heads ≠ 0)
  (hstate : s.run.state = .ready ∨ s.run.state = .halted) (hslot : s.run.slot = none)
  (hinactive : s.run.repair.active = false) (hup : s.restsUp = true) (hoff : s.frame.offset = .zero)
  (href : s.frame.ref = .referenced) (htab : s.shortTable = none)
  (hheads : ∀ h : Head, heads.getLsbD h.val = true → s.fitted h = true ∧ (s.head h).gaps ≠ [] ∧
    ((s.head h).state = .active ∨ (s.head h).state = .isolated) ∧ (s.monitor h).sensor ≠ .failed ∧ (s.monitor h).fault = none)
include hbits hsome hstate hslot hinactive hup hoff href htab hheads

/-- A REPAIR whose checks pass begins (R171). -/
theorem repairRequest_begins : repairRequest heads s = (beginRepair (heads.setWidth 12) s, plain .started) := by
  have hset : headSetOf heads = some (heads.setWidth 12) := if_pos hbits
  have hmem (h : Head) (hh : h ∈ headsIn (heads.setWidth 12)) := hheads h (by rwa [mem_headsIn, inSet_setWidth] at hh)
  have hnonzero : heads.setWidth 12 ≠ 0 := by
    intro h
    refine hsome (BitVec.eq_of_toNat_eq ?_)
    have := congrArg BitVec.toNat h
    simpa [Nat.mod_eq_of_lt hbits] using this
  have hfitted : s.allFitted (heads.setWidth 12) = true := List.all_eq_true.mpr fun h hh => (hmem h hh).1
  have hpass (bad : HeadEntry → Monitor → Bool) (hbad : ∀ h ∈ headsIn (heads.setWidth 12), bad (s.head h) (s.monitor h) = false) :
      s.firstFailing (heads.setWidth 12) bad = none :=
    List.find?_eq_none.mpr fun h hh => by rw [hbad h hh]; decide
  have hselection : s.selectionBar (heads.setWidth 12) = none := by
    unfold State.selectionBar
    rw [hpass _ fun h hh => by simpa using (hmem h hh).2.1, hpass _ fun h hh => ?_, hpass _ fun h hh => ?_,
      hpass _ fun h hh => by simpa using (hmem h hh).2.2.2.1, hpass _ fun h hh => by simpa using (hmem h hh).2.2.2.2]
    · rfl
    · rcases (hmem h hh).2.2.1 with hst | hst <;> simp [hst]
    · rcases (hmem h hh).2.2.1 with hst | hst <;> simp [hst]
  have hcheck : s.slotCheck armedAtRest = none := slotCheck_of_empty (by simpa [armedAtRest] using hstate) hslot
  have hform : ¬ (heads.setWidth 12 = 0 ∨ s.allFitted (heads.setWidth 12) = false) := not_or.mpr ⟨hnonzero, by simp [hfitted]⟩
  simp only [repairRequest, hset, hform, if_false, hcheck, rewindBar_eq_none hinactive hup hoff href, hselection, State.tablesBar, htab,
    Option.map_none]

end

/-- The state in which a rewind begins: the heads and the store that the taking left, the context, the slot, and HALTED (R171). -/
theorem repairing_eq (hs : HeadSet) (s : State) :
    let u := enlist (headsIn hs) s
    s.repairing hs = setRunState .halted { s.retiredWith u.table.heads u.store.retire with
      run := { s.run with
        repair := ⟨true, hs, s.store.cursor⟩
        slot := some ⟨.repair, .host, s.clock, some (.downTo ((s.repairing hs).rewindIndex hs)), false⟩ } } := by
  intro u
  have heq : u = s.retiredWith u.table.heads u.store.retire := (enlist_enlists _ (nodup_headsIn hs) s).eq
  have hrun : u.run = s.run := by rw [heq]; rfl
  have hclock : u.clock = s.clock := by rw [heq]; rfl
  have hcursor : u.store.cursor = s.store.cursor := by rw [heq]; rfl
  have hindex : (s.repairing hs).rewindIndex hs = u.rewindIndex hs :=
    rewindIndex_congr (by simp [State.repairing, fillSlot, u]) (by simp [State.repairing, fillSlot, u]) hs
  have hgoal : (u.modRun fun r => { r with repair := ⟨true, hs, u.store.cursor⟩ }).rewindIndex hs = u.rewindIndex hs := rewindIndex_congr rfl rfl hs
  rw [hindex, ← hcursor, ← hclock, ← hrun, ← heq, ← hgoal]
  rfl

/-! ### What a rewind leaves unchanged -/

/-- What no step of a rewind changes (R79, R137, R172). -/
structure Rewinds (s t : State) : Prop where
  run : t.run = { s.run with slot := t.run.slot }
  cursor_le : t.store.cursor ≤ s.store.cursor
  fill : t.store.fill = s.store.fill
  shaft : t.shaft = s.shaft
  table : t.table = s.table
  thread : t.thread = s.thread
  func : t.func = s.func

theorem Rewinds.refl (s : State) : Rewinds s s := ⟨rfl, le_rfl, rfl, rfl, rfl, rfl, rfl⟩

theorem Rewinds.trans {s t u : State} (h : Rewinds s t) (h' : Rewinds t u) : Rewinds s u :=
  ⟨by rw [h'.run, h.run], h'.cursor_le.trans h.cursor_le, h'.fill.trans h.fill, h'.shaft.trans h.shaft, h'.table.trans h.table,
    h'.thread.trans h.thread, h'.func.trans h.func⟩

theorem rewinds_setGoal (g : Goal) (s : State) : Rewinds s (setGoal g s) := ⟨rfl, le_rfl, rfl, rfl, rfl, rfl, rfl⟩

theorem rewinds_beginChunked (p : Purpose) (target : Pt) (turn : Option Nat) (s : State) : Rewinds s (beginChunked p target turn s).1 := by
  rw [beginChunked_eq, turnMoveEnds_eq]
  split <;> exact ⟨rfl, le_rfl, rfl, rfl, rfl, rfl, rfl⟩

theorem rewinds_endStepwise (r : OpResult) (w : Option DetailWord) (s : State) : Rewinds s (endStepwise r w s) := by
  unfold endStepwise
  refine ⟨?_, ?_, ?_, ?_, ?_, ?_, ?_⟩
  · cases hs : s.run.slot with
    | none => rw [endOperation_of_empty (by simpa using hs)]; rfl
    | some op => rw [endOperation_of_slot (op := op) (by simpa using hs)]; rfl
  all_goals simp

theorem rewinds_landingCheck (s : State) : Rewinds s (landingCheck s) := by
  unfold landingCheck
  split
  · exact rewinds_endStepwise _ _ s
  · split
    · exact rewinds_endStepwise _ _ s
    · unfold beginChange
      split <;> exact ⟨rfl, le_rfl, rfl, rfl, rfl, rfl, rfl⟩

/-- A step back never raises the cursor (R15). -/
theorem Store.stepBack_cursor_le (st : Store) {b : Nat} (hb : st.retire ≤ b) (hc : b < st.cursor) :
    (st.stepBack b).store.cursor ≤ st.cursor ∧ (st.stepBack b).store.fill = st.fill := by
  have hlen : ((st.records.take (st.cursor - st.retire)).drop (b - st.retire)).length ≤ st.cursor - b := by
    rw [List.length_drop, List.length_take]; omega
  unfold Store.stepBack
  revert hlen
  generalize (st.records.take (st.cursor - st.retire)).drop (b - st.retire) = span
  intro hlen
  rcases upToTurn_spec (indexed b span).reverse with ⟨zero, p, hu, hpre, -, -⟩ | ⟨hu, -⟩
  · simp only [hu]
    have hmem : p ∈ indexed b span := List.mem_reverse.mp (hpre.subset (by simp))
    obtain ⟨before, after, hsplit⟩ := List.append_of_mem hmem
    have hat := index_of_indexed_eq hsplit
    have hcount := congrArg List.length hsplit
    simp only [indexed_length, List.length_append, List.length_cons] at hcount
    exact ⟨by omega, trivial⟩
  · simp only [hu]
    exact ⟨hc.le, trivial⟩

theorem rewinds_storeBack {b : Nat} {s : State} (hb : s.store.retire ≤ b) (hc : b < s.store.cursor) : Rewinds s (storeBack b s).1 := by
  obtain ⟨hcursor, hfill⟩ := s.store.stepBack_cursor_le hb hc
  simp only [storeBack, afterStep, if_true, rearmLowMark_eq]
  exact ⟨rfl, hcursor, hfill, rfl, rfl, rfl, rfl⟩

/-- A rewind to a bound changes what its steps and its landing do (R79, R172). -/
theorem stepOn_rewinds (b : Nat) : ∀ (fuel : Nat) (s : State), Rewinds s (stepOn .repair fuel (.downTo b) s)
  | 0, s => rewinds_setGoal _ s
  | fuel + 1, s => by
    by_cases hgo : s.store.cursor ≤ max b s.store.retire
    · rw [stepOn_lands (by simp [goalStep, hgo])]
      exact rewinds_landingCheck s
    · have hstep : goalStep (.downTo b) s =
          some ((storeBack (max b s.store.retire) s).1, .downTo b, (storeBack (max b s.store.retire) s).2.isSome) := by
        simp [goalStep, hgo]
      have hback := rewinds_storeBack (s := s) (b := max b s.store.retire) (by omega) (by omega)
      simp only [stepOn, hstep]
      revert hback
      generalize storeBack (max b s.store.retire) s = r
      intro hback
      refine hback.trans ?_
      split
      · exact stepOn_rewinds b fuel _
      · split
        · exact rewinds_endStepwise _ _ _
        · have hmove := (rewinds_setGoal (.downTo b) r.1).trans (rewinds_beginChunked .stepMove r.1.designPoint none (setGoal (.downTo b) r.1))
          split
          · exact hmove
          · split
            · exact hmove.trans (stepOn_rewinds b fuel _)
            · exact hmove.trans ⟨rfl, le_rfl, rfl, rfl, rfl, rfl, rfl⟩

/-! ### The state a REPAIR leaves (R137, R171, R172) -/

theorem repairing_run (hs : HeadSet) (s : State) : (s.repairing hs).run = { s.run with
    state := .halted, repair := ⟨true, hs, s.store.cursor⟩
    slot := some ⟨.repair, .host, s.clock, some (.downTo ((s.repairing hs).rewindIndex hs)), false⟩ } := by
  rw [congrArg State.run (repairing_eq hs s), setRunState_run]

theorem repairing_table (hs : HeadSet) (s : State) : (s.repairing hs).table = (enlist (headsIn hs) s).table := by
  simp [State.repairing, fillSlot]

theorem repairing_store (hs : HeadSet) (s : State) : (s.repairing hs).store = (enlist (headsIn hs) s).store := by
  simp [State.repairing, fillSlot]

theorem repairing_store_eq (hs : HeadSet) (s : State) : (s.repairing hs).store = { s.store with
    retire := (s.repairing hs).store.retire
    records := s.store.records.drop ((s.repairing hs).store.retire - s.store.retire) } := by
  rw [repairing_store]
  exact congrArg State.store (enlist_enlists _ (nodup_headsIn hs) s).eq

/-- Entering HALTED disarms the lost watch and raises STATE where another state is left (R84, R138, R187). -/
theorem setRunState_halted_leaves (s : State) :
    (setRunState .halted s).needle = (if s.run.state = .halted then s.needle else { s.needle with watch := none }) ∧
    (setRunState .halted s).notices = if s.run.state = .halted then s.notices
      else (raiseNotice srcState s.store.cursor (stateDetail s.run.state .halted s.store.cursor none) s).notices := by
  unfold setRunState
  split <;> exact ⟨rfl, rfl⟩

theorem repairing_needle (hs : HeadSet) (s : State) :
    (s.repairing hs).needle = if s.run.state = .halted then s.needle else { s.needle with watch := none } := by
  rw [congrArg State.needle (repairing_eq hs s)]
  exact (setRunState_halted_leaves _).1

theorem repairing_notices (hs : HeadSet) (s : State) :
    (s.repairing hs).notices = if s.run.state = .halted then s.notices
      else (raiseNotice srcState s.store.cursor (stateDetail s.run.state .halted s.store.cursor none) s).notices := by
  rw [congrArg State.notices (repairing_eq hs s)]
  exact (setRunState_halted_leaves _).2

/-- What the taking of the heads and the slot leave unchanged. -/
theorem repairing_frame (hs : HeadSet) (s : State) :
    (s.repairing hs).shaft = s.shaft ∧ (s.repairing hs).thread = s.thread ∧ (s.repairing hs).func = s.func ∧
    (s.repairing hs).frame = s.frame ∧ (s.repairing hs).planner = s.planner ∧ (s.repairing hs).params = s.params ∧
    (s.repairing hs).clock = s.clock := by
  rw [repairing_eq hs s]
  simp [State.retiredWith]

/-- The rewind index by the first gaps of the selected heads (R172). -/
theorem rewindIndex_eq {s : State} {hs : HeadSet} {g : Nat}
    (hlow : ∀ h : Head, inSet hs h = true → ∀ k, (s.head h).gaps.head? = some k → g ≤ k.start)
    (hat : g = s.store.cursor ∨ (g < s.store.cursor ∧
      ∃ h : Head, inSet hs h = true ∧ ∃ k, (s.head h).gaps.head? = some k ∧ k.start = g)) : s.rewindIndex hs = g := by
  have hstart (x : Nat) : x ∈ (headsIn hs).filterMap s.firstGapStart ↔
      ∃ h : Head, inSet hs h = true ∧ ∃ k, (s.head h).gaps.head? = some k ∧ k.start = x := by
    simp [List.mem_filterMap, mem_headsIn, State.firstGapStart]
  have hle : s.rewindIndex hs ≤ s.store.cursor ∧ ∀ x ∈ (headsIn hs).filterMap s.firstGapStart, s.rewindIndex hs ≤ x :=
    (le_foldl_min_iff _).mp le_rfl
  refine Nat.le_antisymm ?_ ((le_foldl_min_iff _).mpr ⟨by omega, fun x hx => ?_⟩)
  · rcases hat with heq | ⟨-, hhead⟩
    · exact hle.1.trans heq.ge
    · exact hle.2 g ((hstart g).mpr hhead)
  · obtain ⟨h, hh, k, hk, rfl⟩ := (hstart x).mp hx
    exact hlow h hh k hk

theorem setGoal_eq_self {s : State} {op : Op} {g : Goal} (hslot : s.run.slot = some op) (hgoal : op.goal = some g) : setGoal g s = s := by
  have hrun : { s.run with slot := s.run.slot.map fun op => { op with goal := some g } } = s.run := by
    rw [hslot, Option.map_some, ← hgoal, ← hslot]
  exact congrArg (fun r => { s with run := r }) hrun

theorem laysChunk_congr {s t : State} {p : Purpose} {c target : Pt} {m : Move} (hparams : t.params = s.params)
    (hx : t.planner.tableX = s.planner.tableX) (hy : t.planner.tableY = s.planner.tableY) (h : t.LaysChunk p c target m) :
    s.LaysChunk p c target m := by
  simpa [State.LaysChunk, State.nextChunk, State.stepsBetween, State.par, hparams, hx, hy] using h

/-- A REPAIR with its rewind index below the cursor and a turn record next to it steps back over that record (R15, R79, R172). -/
theorem beginRepair_moves {hs : HeadSet} {s : State} {r : Rec} {d : Pt} (hup : s.restsUp = true)
    (hg : (s.repairing hs).rewindIndex hs < s.store.cursor) (hc : (s.repairing hs).store.retire < s.store.cursor)
    (hr : s.store.records[s.store.cursor - 1 - s.store.retire]? = some r) (hd : r.move = some d)
    (hne : s.settledFrame.coord ≠ s.designPoint.sub d) :
    ∃ m, beginRepair hs s = { (s.repairing hs).backOver d with frame := s.settledFrame.lay m } ∧ m.abort = none ∧
      s.LaysChunk .stepMove s.settledFrame.coord (s.designPoint.sub d) m := by
  obtain ⟨hshaft, -, -, hframe, hplanner, hparams, -⟩ := repairing_frame hs s
  have hstore := repairing_store_eq hs s
  have hrecord : (s.repairing hs).store.records[(s.repairing hs).store.cursor - 1 - (s.repairing hs).store.retire]? = some r := by
    have hle := (enlist_enlists _ (nodup_headsIn hs) s).retire_le
    rw [← repairing_store] at hle
    rw [hstore, List.getElem?_drop, ← hr]
    congr 1
    dsimp only
    omega
  have hcursor : (s.repairing hs).store.cursor = s.store.cursor := by rw [hstore]
  have hpoint : ((s.repairing hs).backOver d).designPoint = s.designPoint.sub d := by
    have horigin : (s.repairing hs).store.origin = s.store.origin := by rw [hstore]
    have hpos : (s.repairing hs).store.cursorPos = s.store.cursorPos := by rw [hstore]
    simp [State.designPoint, State.backOver, horigin, hpos, Pt.add, Pt.sub, Int.add_sub_assoc]
  have hsettled : ((s.repairing hs).backOver d).settledFrame = s.settledFrame := by
    simp [State.settledFrame, State.backOver, hframe]
  have hfuel : (s.repairing hs).stepFuel = (s.repairing hs).store.records.length + 1 + 1 := rfl
  obtain ⟨m, hm, habort, hlays⟩ := stepOn_moves (k := .repair) (fuel := (s.repairing hs).store.records.length + 1)
    (goalStep_downTo (hcursor.symm ▸ hg) (hcursor.symm ▸ hc) hrecord hd) (by simpa [State.backOver, hshaft] using needleUp_of_restsUp hup)
    (by rw [hpoint, hsettled]; exact hne)
  rw [hpoint, hsettled] at hlays
  refine ⟨m, ?_, habort, ?_⟩
  · have hgoal : setGoal (.downTo ((s.repairing hs).rewindIndex hs)) ((s.repairing hs).backOver d) = (s.repairing hs).backOver d := by
      rw [setGoal_eq_self (op := ⟨.repair, .host, s.clock, some (.downTo ((s.repairing hs).rewindIndex hs)), false⟩)]
      · simp [State.backOver, repairing_run]
      · rfl
    rw [beginRepair_eq, hfuel, hm, hsettled, hgoal]
  · exact laysChunk_congr (by simpa [State.backOver] using hparams) (by simpa [State.backOver, rebuild] using congrArg Planner.tableX hplanner)
      (by simpa [State.backOver, rebuild] using congrArg Planner.tableY hplanner) hlays

/-- A REPAIR with its rewind index at the cursor makes the landing check at once (R137, R172). -/
theorem beginRepair_lands {hs : HeadSet} {s : State} (hg : (s.repairing hs).rewindIndex hs = s.store.cursor) :
    beginRepair hs s = landingCheck (s.repairing hs) := by
  have hcursor : (s.repairing hs).store.cursor = s.store.cursor := by rw [repairing_store_eq]
  have hfuel : (s.repairing hs).stepFuel = (s.repairing hs).store.records.length + 1 + 1 := rfl
  rw [beginRepair_eq, hfuel, stepOn_lands (by simp [goalStep, hg, hcursor])]
  rfl

/-- An occurrence leaves its detail in the record (R188). -/
theorem occurrence_detail (r : SourceRecord) (i : Nat) (d : List Byte) (c : Word) : (occurrence r i d c).detail = d := by
  unfold occurrence
  split <;> rfl

/-- A landing with a REPAIR in the slot, whose plan entry is empty or names the needle in place: the operation ends OK (R137, R204). -/
theorem landingCheck_ends {s : State} {g : Option Goal} {c : Word} (hslot : s.run.slot = some ⟨.repair, .host, c, g, false⟩)
    (hplan : s.planNeedle = none ∨ s.planNeedle = s.needle.settled) :
    (landingCheck s).run.slot = none ∧ (landingCheck s).needle = s.needle ∧
    (landingCheck s).store = s.store ∧ (landingCheck s).frame.move = s.frame.move ∧ (landingCheck s).frame.coord = s.frame.coord ∧
    (landingCheck s).notices.sources[srcOpDone].pending = true ∧
    (landingCheck s).notices.sources[srcOpDone].detail =
      [9, 0, 0] ++ [0, 0, 0, 0, 0, 0, 0] ++ (if s.planNeedle = none then [1, 4] else [0, 0]) := by
  have hends : landingCheck s = endStepwise .ok (if s.planNeedle = none then some .planEmpty else none) s := by
    unfold landingCheck
    cases hn : s.planNeedle with
    | none => rfl
    | some n =>
      have hsettled : s.needle.settled = some n := by simpa [hn, eq_comm] using hplan
      simp [hsettled]
  rw [hends, endStepwise, endOperation_of_slot (op := ⟨.repair, .host, c, g, false⟩) (by simpa using hslot), raiseNotice_self]
  refine ⟨rfl, rfl, rfl, rfl, rfl, occurrence_pending _ _ _ _, ?_⟩
  rw [occurrence_detail]
  by_cases hn : s.planNeedle = none
  · simp only [hn, if_true]; exact rfl
  · simp only [hn, if_false]; exact rfl

/-- A landing with another needle in place than the planned one: the LANDING change begins (R127, R137). -/
theorem landingCheck_changes {s : State} {n : Nat} (hplan : s.planNeedle = some n) (hneedle : s.needle.settled ≠ some n) :
    landingCheck s = { s with needle := { s.needle with
      target := n, request := true, watch := none
      change := some ⟨.landing, n, s.slotStarter, s.nat .needleTimeout, s.nat .needleTimeout, s.clock⟩ } } := by
  simp only [landingCheck, hplan, hneedle, if_false, beginChange]
  rfl

/-- The entry that a REPAIR leaves a head it takes (R166, R171). -/
theorem enlisted_spec (c : Nat) {e : HeadEntry} (hstate : e.state = .active ∨ e.state = .isolated) :
    (e.enlisted c).state = .active ∧ (e.state = .active → e.enlisted c = e) ∧
    ∀ l, e.state = .isolated → hasOpenGap l = false →
      (e.gaps = l → e.enlisted c = { e with state := .active }) ∧
      ∀ a, e.gaps = l ++ [⟨a, none⟩] → e.enlisted c =
        { e with state := .active, gaps := if a < c then l ++ [⟨a, some c⟩] else l } := by
  refine ⟨?_, fun hactive => by simp [HeadEntry.enlisted, hactive], fun l hiso hclosed => ⟨fun hl => ?_, fun a hl => ?_⟩⟩
  · rcases hstate with hactive | hiso
    · simp [HeadEntry.enlisted, hactive]
    · simp [HeadEntry.enlisted, hiso]
  · rw [HeadEntry.enlisted, if_pos hiso, hl, closeGapAt_of_closed hclosed]
  · rw [HeadEntry.enlisted, if_pos hiso, hl, closeGapAt_append, closeGapAt_of_closed hclosed, closeGapAt_open]
    split
    · rfl
    · rw [List.append_nil]

/-- The heads after a REPAIR has begun (R171). -/
theorem beginRepair_head (hs : HeadSet) (s : State) (h : Head) :
    (beginRepair hs s).head h = if inSet hs h = true then (s.head h).enlisted s.store.cursor else s.head h := by
  have htable : (beginRepair hs s).table = (enlist (headsIn hs) s).table := by
    rw [beginRepair_eq, (stepOn_rewinds _ _ _).table, repairing_table]
  rw [State.head, htable]
  simpa only [mem_headsIn, State.head] using (enlist_enlists _ (nodup_headsIn hs) s).head h

/-- What a REPAIR leaves whatever its rewind finds (R171, R172). -/
theorem beginRepair_leaves (hs : HeadSet) (s : State) :
    let t := beginRepair hs s
    t.run.state = .halted ∧ t.run.repair = ⟨true, hs, s.store.cursor⟩ ∧ t.run.report = s.run.report ∧
    t.store.cursor ≤ s.store.cursor ∧ t.store.fill = s.store.fill ∧
    t.shaft = s.shaft ∧ t.thread = s.thread ∧ t.func = s.func := by
  intro t
  have hrewinds : Rewinds (s.repairing hs) t := by simp only [t, beginRepair_eq]; exact stepOn_rewinds _ _ _
  obtain ⟨hshaft, hthread, hfunc, -, -, -, -⟩ := repairing_frame hs s
  have hstore := repairing_store_eq hs s
  refine ⟨?_, ?_, ?_, hrewinds.cursor_le.trans (by rw [hstore]), hrewinds.fill.trans (by rw [hstore]),
    hrewinds.shaft.trans hshaft, hrewinds.thread.trans hthread, hrewinds.func.trans hfunc⟩
  all_goals rw [hrewinds.run, repairing_run]

/-- The rewind index by the heads that the REPAIR leaves (R172). -/
theorem repairing_rewindIndex {hs : HeadSet} {s : State} {g : Nat}
    (hlow : ∀ h : Head, inSet hs h = true → ∀ k, ((beginRepair hs s).head h).gaps.head? = some k → g ≤ k.start)
    (hat : g = s.store.cursor ∨ (g < s.store.cursor ∧
      ∃ h : Head, inSet hs h = true ∧ ∃ k, ((beginRepair hs s).head h).gaps.head? = some k ∧ k.start = g)) :
    (s.repairing hs).rewindIndex hs = g := by
  have hhead (h : Head) : (beginRepair hs s).head h = (s.repairing hs).head h := by
    rw [State.head, beginRepair_eq, (stepOn_rewinds _ _ _).table]; rfl
  have hcursor : (s.repairing hs).store.cursor = s.store.cursor := by rw [repairing_store_eq]
  simp only [hhead] at hlow hat
  rw [← hcursor] at hat
  exact rewindIndex_eq hlow hat

/-- Retire after a REPAIR has taken its heads: no higher than the first gap that is left, and unmoved where no gap went (R18, R166). -/
theorem repairing_retire {hs : HeadSet} {s : State} :
    s.store.retire ≤ (s.repairing hs).store.retire ∧
    (∀ h : Head, ∀ k ∈ ((beginRepair hs s).head h).gaps, (s.repairing hs).store.retire ≤ max s.store.retire k.start) ∧
    ((∀ h : Head, inSet hs h = true → ((beginRepair hs s).head h).gaps.length = (s.head h).gaps.length) →
      (s.repairing hs).store.retire = s.store.retire) := by
  have htaken := enlist_enlists _ (nodup_headsIn hs) s
  have hhead (h : Head) : (beginRepair hs s).head h = (enlist (headsIn hs) s).head h := by
    simp only [beginRepair_head, htaken.head, mem_headsIn]
  simp only [hhead, repairing_store]
  exact ⟨htaken.retire_le, htaken.retire_le_gap, fun hlen => htaken.retire_eq fun h hh => hlen h (mem_headsIn.mp hh)⟩

section
variable {hs : HeadSet} {s : State} {g : Nat} (hindex : (s.repairing hs).rewindIndex hs = g)
include hindex

/-- The rewind of a REPAIR with a turn record next to the cursor (R15, R18, R79, R172). -/
theorem beginRepair_rewinds {r : Rec} {d : Pt} (hup : s.restsUp = true) (hstate : s.run.state = .ready ∨ s.run.state = .halted)
    (hgap : ∃ h : Head, inSet hs h = true ∧ ∃ k, ((beginRepair hs s).head h).gaps.head? = some k ∧ k.start = g)
    (hg : g < s.store.cursor) (hc : s.store.retire < s.store.cursor)
    (hr : s.store.records[s.store.cursor - 1 - s.store.retire]? = some r) (hd : r.move = some d)
    (hne : s.settledFrame.coord ≠ s.designPoint.sub d) :
    let t := beginRepair hs s
    t.run = { s.run with
      state := .halted, repair := ⟨true, hs, s.store.cursor⟩, slot := some ⟨.repair, .host, s.clock, some (.downTo g), false⟩ } ∧
    s.store.retire ≤ t.store.retire ∧ t.store.retire ≤ max s.store.retire g ∧
    ((∀ h : Head, inSet hs h = true → (t.head h).gaps.length = (s.head h).gaps.length) → t.store.retire = s.store.retire) ∧
    t.store = { s.store with
      retire := t.store.retire, records := s.store.records.drop (t.store.retire - s.store.retire)
      cursor := s.store.cursor - 1, cursorPos := s.store.cursorPos.sub d
      lowArmed := s.store.lowArmed || decide (s.nat .lowMark ≤ s.store.fill - (s.store.cursor - 1)) } ∧
    (∃ m, t.frame = s.settledFrame.lay m ∧ m.abort = none ∧
      s.LaysChunk .stepMove s.settledFrame.coord (s.designPoint.sub d) m) ∧
    t.planner.caps = [] ∧ t.planner.stopPoint = none ∧
    t.needle = (if s.run.state = .halted then s.needle else { s.needle with watch := none }) ∧
    t.notices = (if s.run.state = .halted then s.notices
      else (raiseNotice srcState s.store.cursor (stateDetail .ready .halted s.store.cursor none) s).notices) := by
  intro t
  obtain ⟨hretire, hbelow, hkept⟩ := repairing_retire (hs := hs) (s := s)
  have hlow : (s.repairing hs).store.retire ≤ max s.store.retire g := by
    obtain ⟨h, -, k, hk, rfl⟩ := hgap
    exact hbelow h k (List.mem_of_head? hk)
  obtain ⟨m, hm, habort, hlays⟩ := beginRepair_moves hup (hindex ▸ hg) (by omega) hr hd hne
  have hstore := repairing_store_eq hs s
  have hcursor : (s.repairing hs).store.cursor = s.store.cursor := by rw [hstore]
  have hparams : (s.repairing hs).params = s.params := (repairing_frame hs s).2.2.2.2.2.1
  have hbackStore : t.store = ((s.repairing hs).backOver d).store := (congrArg State.store hm).trans rfl
  have hretired : t.store.retire = (s.repairing hs).store.retire := (congrArg Store.retire hbackStore).trans rfl
  rw [hretired]
  refine ⟨?_, hretire, hlow, hkept, ?_, ⟨m, congrArg State.frame hm, habort, hlays⟩, ?_, ?_, ?_, ?_⟩
  · rw [← hindex, ← repairing_run]
    exact (congrArg State.run hm).trans rfl
  · rw [hbackStore]
    have hlowMark : (s.repairing hs).nat .lowMark = s.nat .lowMark := by simp only [State.nat, State.par, hparams]
    simp only [State.backOver, rebuild_store, hlowMark, hcursor]
    rw [hstore]
  · exact congrArg (fun v => v.planner.caps) hm
  · exact congrArg (fun v => v.planner.stopPoint) hm
  · rw [← repairing_needle hs s]
    exact (congrArg State.needle hm).trans rfl
  · have hnotices := (congrArg State.notices hm).trans (repairing_notices hs s)
    rcases hstate with hready | hhalted
    · rw [hready] at hnotices ⊢; exact hnotices
    · rw [if_pos hhalted] at hnotices ⊢; exact hnotices

/-- The landing of a REPAIR with its rewind index at the cursor (R137, R172). -/
theorem beginRepair_lands_at_cursor (hg : g = s.store.cursor) :
    let t := beginRepair hs s
    t.store.cursor = s.store.cursor ∧ t.store.cursorPos = s.store.cursorPos ∧
    t.frame.move = s.frame.move ∧ t.frame.coord = s.frame.coord ∧
    (s.planNeedle = none ∨ s.planNeedle = s.needle.settled →
      t.run.slot = none ∧ t.needle.change = s.needle.change ∧ t.notices.sources[srcOpDone].pending = true ∧
      t.notices.sources[srcOpDone].detail =
        [9, 0, 0] ++ [0, 0, 0, 0, 0, 0, 0] ++ (if s.planNeedle = none then [1, 4] else [0, 0])) ∧
    (∀ n, s.planNeedle = some n → s.needle.settled ≠ some n →
      t.run.slot = some ⟨.repair, .host, s.clock, some (.downTo g), false⟩ ∧ t.needle = { s.needle with
        target := n, request := true, watch := none
        change := some ⟨.landing, n, .host, s.nat .needleTimeout, s.nat .needleTimeout, s.clock⟩ }) := by
  intro t
  have ht : t = landingCheck (s.repairing hs) := beginRepair_lands (hindex.trans hg)
  obtain ⟨-, -, -, hframe, -, hparams, hclock⟩ := repairing_frame hs s
  have hslot : (s.repairing hs).run.slot = some ⟨.repair, .host, s.clock, some (.downTo g), false⟩ := by
    rw [repairing_run, hindex]
  have hstore := repairing_store_eq hs s
  have hneedle := repairing_needle hs s
  have hkept : (s.repairing hs).needle.settled = s.needle.settled ∧ (s.repairing hs).needle.change = s.needle.change := by
    rw [hneedle]; split <;> exact ⟨rfl, rfl⟩
  have hplan : (s.repairing hs).planNeedle = s.planNeedle := by
    rw [State.planNeedle, hneedle, hstore]; split <;> rfl
  rcases Classical.em (s.planNeedle = none ∨ s.planNeedle = s.needle.settled) with hends | hchanges
  · obtain ⟨hempty, hneedleKept, hstoreKept, hmove, hcoord, hpending, hdetail⟩ :=
      landingCheck_ends hslot (by rw [hplan, hkept.1]; exact hends)
    rw [ht, hstoreKept, hneedleKept, hmove, hcoord, hframe, hkept.2, hdetail, hplan]
    refine ⟨by rw [hstore], by rw [hstore], rfl, rfl, fun _ => ⟨hempty, rfl, hpending, rfl⟩, fun n hn hother => ?_⟩
    rcases hends with hnone | hsame
    · rw [hnone] at hn; cases hn
    · exact absurd (hsame.symm.trans hn) hother
  · obtain ⟨n, hn⟩ : ∃ n, s.planNeedle = some n := Option.ne_none_iff_exists'.mp fun h => hchanges (.inl h)
    have hother : s.needle.settled ≠ some n := fun h => hchanges (.inr (hn.trans h.symm))
    have hstarter : (s.repairing hs).slotStarter = .host := by simp only [State.slotStarter, hslot]
    have htimeout : (s.repairing hs).nat .needleTimeout = s.nat .needleTimeout := by simp only [State.nat, State.par, hparams]
    rw [ht, landingCheck_changes (hplan.trans hn) (by rw [hkept.1]; exact hother), hstarter, htimeout, hclock, hframe]
    refine ⟨by rw [hstore], by rw [hstore], rfl, rfl, fun h => absurd h hchanges, fun n' hn' _ => ⟨hslot, ?_⟩⟩
    cases hn.symm.trans hn'
    rw [hneedle]
    split <;> rfl

end

/-- Settles O49: each request passes its checks, and the first step, or the landing, is that of the goal it sets. -/
theorem stepwiseOperationsBegin : Obligations.StepwiseOperationsBegin := by
  intro tag s hs hslot hup hoff href htab
  refine ⟨fun count r d hcount hstate ha hc hr hd hne => ?_, fun heads hbits hsome hstate ha hheads => ?_,
    fun r d hstate ha hc hf hr hd hne => ?_⟩
  · obtain ⟨m, hm, habort, hlays⟩ := backtrackRequest_steps (s := hunt s) hslot hup hoff href htab hcount hstate ha hc hr hd hne
    exact ⟨_, exec_answered (a := ⟨.started, _⟩) rfl hs rfl (by decide) hm, rfl, rfl, ⟨m, rfl, habort, hlays⟩, rfl, rfl, rfl, rfl, rfl⟩
  · have hbegin := repairRequest_begins (s := hunt s) hbits hsome hstate hslot ha hup hoff href htab hheads
    refine ⟨_, exec_answered (a := plain .started) rfl hs rfl (by decide) hbegin, ?_⟩
    obtain ⟨hhalted, hrepair, hreport, hcursor, hfill, hshaft, hthread, hfunc⟩ := beginRepair_leaves (heads.setWidth 12) (hunt s)
    refine ⟨hhalted, hrepair, hreport, fun h hh => ?_, fun h hh => ?_, hcursor, hfill, hshaft, hthread, hfunc, fun g hlow hat => ?_⟩
    · have hhead := beginRepair_head (heads.setWidth 12) (hunt s) h
      rw [inSet_setWidth, if_pos hh] at hhead
      rw [hhead]
      exact enlisted_spec s.store.cursor (hheads h hh).2.2.1
    · have hhead := beginRepair_head (heads.setWidth 12) (hunt s) h
      rwa [inSet_setWidth, hh, if_neg Bool.false_ne_true] at hhead
    · simp only [← inSet_setWidth heads] at hlow hat ⊢
      have hindex := repairing_rewindIndex (s := hunt s) hlow hat
      refine ⟨fun r d hg hc hr hd hne => ?_, fun hg => beginRepair_lands_at_cursor hindex hg⟩
      have hgap := (hat.resolve_left (Nat.ne_of_lt hg)).2
      exact beginRepair_rewinds hindex hup hstate hgap hg hc hr hd hne
  · obtain ⟨m, hm, habort, hlays⟩ := repairAbandonRequest_steps (s := hunt s) hslot hup hoff href htab hstate ha hc hf hr hd hne
    exact ⟨_, exec_answered (a := plain .started) rfl hs rfl (by decide) hm, rfl, rfl, ⟨m, rfl, habort, hlays⟩, rfl, rfl, rfl, rfl, rfl⟩

end Sys2Proof.Machine
end

section
/-! PROOFS. What the design and its low mark are after a call (R11, R20): no cause that a call brings changes them, but for the
retention of a stop it ends. -/

namespace Sys2Proof.Machine

/-- What STORE_LOW and the cursor's part of the store come from: all but retire and the records, the parameters, the counter, and
the source's own record. -/
structure LowSide where
  params : Vector Int 50
  clock : Word
  store : Store
  low : SourceRecord

/-- The low side of a state, with the part of the store that retention changes left out. -/
def State.lowSide (s : State) : LowSide :=
  ⟨s.params, s.clock, { s.store with retire := 0, records := [] }, s.notices.sources[srcStoreLow]⟩

/-! ### Operations that leave the low side as it is -/

section
variable (s : State)

@[simp] theorem lowSide_modShaft (f : Shaft → Shaft) : (s.modShaft f).lowSide = s.lowSide := rfl
@[simp] theorem lowSide_modPlanner (f : Planner → Planner) : (s.modPlanner f).lowSide = s.lowSide := rfl
@[simp] theorem lowSide_modFrame (f : Frame → Frame) : (s.modFrame f).lowSide = s.lowSide := rfl
@[simp] theorem lowSide_modRun (f : Run → Run) : (s.modRun f).lowSide = s.lowSide := rfl
@[simp] theorem lowSide_modFunc (f : FuncUnit → FuncUnit) : (s.modFunc f).lowSide = s.lowSide := rfl
@[simp] theorem lowSide_modNeedle (f : NeedleBar → NeedleBar) : (s.modNeedle f).lowSide = s.lowSide := rfl
@[simp] theorem lowSide_modThread (f : ThreadUnit → ThreadUnit) : (s.modThread f).lowSide = s.lowSide := rfl
@[simp] theorem lowSide_modTable (f : HeadTable → HeadTable) : (s.modTable f).lowSide = s.lowSide := rfl
@[simp] theorem lowSide_modHead (h : Head) (f : HeadEntry → HeadEntry) : (s.modHead h f).lowSide = s.lowSide := rfl
@[simp] theorem lowSide_modHeads (f : Head → HeadEntry → HeadEntry) : (s.modHeads f).lowSide = s.lowSide := rfl
@[simp] theorem lowSide_modMonitors (f : Head → Monitor → Monitor) : (s.modMonitors f).lowSide = s.lowSide := rfl
@[simp] theorem lowSide_modChannel (c : Chan) (f : Channel → Channel) : (s.modChannel c f).lowSide = s.lowSide := rfl
@[simp] theorem lowSide_modChannels (f : Chan → Channel → Channel) : (s.modChannels f).lowSide = s.lowSide := rfl
@[simp] theorem lowSide_rebuild : (rebuild s).lowSide = s.lowSide := rfl

@[simp] theorem lowSide_ite (c : Prop) {_ : Decidable c} (t : State) :
    (if c then s else t).lowSide = if c then s.lowSide else t.lowSide := apply_ite ..

theorem lowSide_raiseNotice {src : Source} (h : srcStoreLow ≠ src) (i : Nat) (d : List Byte) :
    (raiseNotice src i d s).lowSide = s.lowSide := by
  simp only [State.lowSide, raiseNotice_params, raiseNotice_clock, raiseNotice_store, raiseNotice_other src srcStoreLow i d s h]

theorem lowSide_runRetention : (runRetention s).lowSide = s.lowSide := by
  rw [State.lowSide, runRetention_store]; rfl

@[simp] theorem lowSide_clearResume : (clearResume s).lowSide = s.lowSide := rfl
@[simp] theorem lowSide_discardInject : (discardInject s).lowSide = s.lowSide := by unfold discardInject; split <;> rfl
@[simp] theorem lowSide_fillSlot (k : OpKind) (w : Starter) (g : Option Goal) : (fillSlot k w g s).lowSide = s.lowSide := rfl
@[simp] theorem lowSide_setRunState (r : RunState) : (setRunState r s).lowSide = s.lowSide := by
  unfold setRunState
  split
  · rfl
  · cases r <;> exact lowSide_raiseNotice _ (by decide) _ _
@[simp] theorem lowSide_endOperation (r : OpResult) (d : List Byte) : (endOperation r d s).lowSide = s.lowSide := by
  unfold endOperation
  split
  · rfl
  · exact lowSide_raiseNotice _ (by decide) _ _

/-! #### The needle bar, the frame and the tests (chapters 4, 6, 7 and 8) -/

@[simp] theorem lowSide_beginChange (p : ChangePurpose) (n : Nat) (w : Starter) : (beginChange p n w s).1.lowSide = s.lowSide := by
  unfold beginChange; split <;> rfl
@[simp] theorem lowSide_releaseChange : (releaseChange s).lowSide = s.lowSide := rfl
@[simp] theorem lowSide_watchAfterCheck : (watchAfterCheck s).lowSide = s.lowSide := by unfold watchAfterCheck; split <;> rfl
@[simp] theorem lowSide_markAbort (w : AbortBy) : (markAbort w s).lowSide = s.lowSide := rfl
@[simp] theorem lowSide_haltFrame : (haltFrame s).lowSide = s.lowSide := rfl
@[simp] theorem lowSide_beginChunked (p : Purpose) (target : Pt) (turn : Option Nat) :
    (beginChunked p target turn s).1.lowSide = s.lowSide := by
  rw [beginChunked_eq, turnMoveEnds_eq]; split <;> rfl
@[simp] theorem lowSide_beginTurnMove (t : Nat) (j : Bool) (target : Pt) : (beginTurnMove t j target s).lowSide = s.lowSide := by
  rw [beginTurnMove_eq]; rfl
@[simp] theorem lowSide_endHome (r : OpResult) : (endHome r s).lowSide = s.lowSide := by simp [endHome]
@[simp] theorem lowSide_endOffsetMove (r : OpResult) : (endOffsetMove r s).lowSide = s.lowSide := by simp [endOffsetMove]
@[simp] theorem lowSide_endStepwise (r : OpResult) (w : Option DetailWord) : (endStepwise r w s).lowSide = s.lowSide := by
  simp [endStepwise]
@[simp] theorem lowSide_releaseSensorTest : (releaseSensorTest s).lowSide = s.lowSide := rfl
@[simp] theorem lowSide_abortSensorTest : (abortSensorTest s).lowSide = s.lowSide := by unfold abortSensorTest; split <;> simp
@[simp] theorem lowSide_endChannelTest : (endChannelTest s).lowSide = s.lowSide := by unfold endChannelTest; split <;> simp
@[simp] theorem lowSide_finishChannelTest (r : OpResult) : (finishChannelTest r s).lowSide = s.lowSide := by
  unfold finishChannelTest; split <;> simp

/-! #### The records of causes and the ends of operations (chapter 5) -/

@[simp] theorem lowSide_appendCause (c : Cause) (i : Nat) : (appendCause c i s).lowSide = s.lowSide := by simp [appendCause]
@[simp] theorem lowSide_causeInHalted (c : Cause) (i : Nat) : (causeInHalted c i s).lowSide = s.lowSide := by simp [causeInHalted]
@[simp] theorem lowSide_recordPrimary (c : Cause) (i : Nat) : (recordPrimary c i s).lowSide = s.lowSide := by simp [recordPrimary]
@[simp] theorem lowSide_convertKind (c : Cause) : (convertKind c s).lowSide = s.lowSide := by simp [convertKind]
@[simp] theorem lowSide_recordAlone (c : Cause) (i : Nat) : (recordAlone c i s).lowSide = s.lowSide := by simp [recordAlone]
@[simp] theorem lowSide_startColourTimer : (startColourTimer s).lowSide = s.lowSide := by simp [startColourTimer]
@[simp] theorem lowSide_endColourChange (r : OpResult) (n ms : Nat) (w : Option DetailWord) :
    (endColourChange r n ms w s).lowSide = s.lowSide := by
  cases r <;> simp [endColourChange]
@[simp] theorem lowSide_endChange (r : OpResult) (w : Option DetailWord) : (endChange r w s).lowSide = s.lowSide := by
  unfold endChange
  split
  · rfl
  · next c _ => cases c.purpose <;> simp
@[simp] theorem lowSide_abortOperation (w : DetailWord) : (abortOperation w s).lowSide = s.lowSide := by
  unfold abortOperation
  split
  · rfl
  · next op _ => cases op.kind <;> simp
@[simp] theorem lowSide_endNeedleUp (r : StoppedReport) : (endNeedleUp r s).lowSide = s.lowSide := by
  unfold endNeedleUp; split <;> simp
@[simp] theorem lowSide_ceaseWork : (ceaseWork s).lowSide = s.lowSide := by
  simp only [ceaseWork, lowSide_modRun]; split <;> simp
@[simp] theorem lowSide_colourStop : (colourStop s).lowSide = s.lowSide := by
  have hraise (d : List Byte) : (raiseNotice srcColour s.store.cursor d s).lowSide = s.lowSide := lowSide_raiseNotice s (by decide) _ _
  simp only [colourStop]
  split <;> simp [hraise]
@[simp] theorem lowSide_afterHalt : (afterHalt s).lowSide = s.lowSide := by simp [afterHalt]

/-! #### The heads (chapter 9) -/

@[simp] theorem lowSide_closeHeadGap (h : Head) (c : Nat) : (closeHeadGap h c s).lowSide = s.lowSide := by
  simp [closeHeadGap, retainIf, lowSide_runRetention]
@[simp] theorem lowSide_closePending (c : Nat) (h : Head) : (closePending c h s).lowSide = s.lowSide := by simp [closePending]
@[simp] theorem lowSide_faultHeldHeads : (faultHeldHeads s).lowSide = s.lowSide := rfl
@[simp] theorem lowSide_reportTurn (t : Nat) (hs : HeadSet) : (reportTurn t hs s).lowSide = s.lowSide := rfl

end

section
variable {s : State}

@[simp] theorem lowSide_closeAllPending (c : Nat) (l : List Head) : (closeAllPending c l s).lowSide = s.lowSide := by
  induction l generalizing s with
  | nil => rfl
  | cons h l ih => simp [closeAllPending, ih]

@[simp] theorem lowSide_closeAtTurn (t : Nat) (hs : HeadSet) (l : List Head) : (closeAtTurn t hs l s).lowSide = s.lowSide := by
  induction l generalizing s with
  | nil => rfl
  | cons h l ih => simp [closeAtTurn, ih]

@[simp] theorem lowSide_engageTurn (t : Turn) : (engageTurn t s).lowSide = s.lowSide := by simp [engageTurn]

@[simp] theorem lowSide_judgeRepair (l : List (Nat × Rec)) : (judgeRepair l s).1.lowSide = s.lowSide := by
  unfold judgeRepair
  split
  · obtain ⟨heads, h⟩ := endRepair_frame s
    rw [h]; rfl
  · rfl

/-! #### The shaft and the stop (chapters 2 and 5) -/

@[simp] theorem lowSide_fillReport (r : StoppedReport) : (fillReport r s).lowSide = s.lowSide := rfl
@[simp] theorem lowSide_blocksAtRest : (blocksAtRest s).lowSide = s.lowSide := by simp [blocksAtRest, plannerAtRest]
@[simp] theorem lowSide_cancelPulses : (cancelPulses s).lowSide = s.lowSide := rfl
@[simp] theorem lowSide_restShaft : (restShaft s).lowSide = s.lowSide := rfl
@[simp] theorem lowSide_dropLine : (dropLine s).lowSide = s.lowSide := rfl
@[simp] theorem lowSide_assertBrake : (assertBrake s).lowSide = s.lowSide := rfl
@[simp] theorem lowSide_placeLine (v : Nat) : (placeLine v s).lowSide = s.lowSide := by simp [placeLine]
@[simp] theorem lowSide_zeroDemand : (zeroDemand s).lowSide = s.lowSide := rfl
@[simp] theorem lowSide_requestStopPoint (c : Cause) : (requestStopPoint c s).lowSide = s.lowSide := rfl
@[simp] theorem lowSide_idleChannels : (idleChannels s).lowSide = s.lowSide := rfl

@[simp] theorem lowSide_endStop (r : StoppedReport) : (endStop r s).lowSide = s.lowSide := by
  have hraise (t : State) (i : Nat) (d : List Byte) : (raiseNotice srcStop i d t).lowSide = t.lowSide := lowSide_raiseNotice t (by decide) _ _
  simp [endStop, hraise]
@[simp] theorem lowSide_tryEndStop : (tryEndStop s).lowSide = s.lowSide := by unfold tryEndStop; split <;> simp
@[simp] theorem lowSide_deliverReport (r : StoppedReport) : (deliverReport r s).lowSide = s.lowSide := by simp [deliverReport]
@[simp] theorem lowSide_detectStop : (detectStop s).lowSide = s.lowSide := by simp [detectStop]
@[simp] theorem lowSide_brakeOrder (k : BrakeOrder) : (brakeOrder k s).lowSide = s.lowSide := by simp [brakeOrder]

/-! #### Causes, and what an issue and a stop answer bring (chapters 1 and 5) -/

@[simp] theorem lowSide_emergency : (emergency s).lowSide = s.lowSide := by simp [emergency]
@[simp] theorem lowSide_goBraking : (goBraking s).lowSide = s.lowSide := by simp [goBraking]
@[simp] theorem lowSide_endStart : (endStart s).lowSide = s.lowSide := by
  simp only [endStart, lowSide_brakeOrder]
  split <;> simp
@[simp] theorem lowSide_actOnRun (c : Cause) (first : Bool) : (actOnRun c first s).lowSide = s.lowSide := by
  unfold actOnRun; split <;> simp
@[simp] theorem lowSide_takeCause (c : Cause) (i : Nat) : (takeCause c i s).lowSide = s.lowSide := by
  unfold takeCause; split <;> simp
@[simp] theorem lowSide_reachedAtIssue (c : Cause) (i : Nat) (again : Bool) : (reachedAtIssue c i again s).lowSide = s.lowSide := by
  simp [reachedAtIssue]
@[simp] theorem lowSide_causesOf (i : Nat) (l : List Head) : (causesOf i l s).lowSide = s.lowSide := by
  induction l generalizing s with
  | nil => rfl
  | cons h l ih => simp [causesOf, ih]
@[simp] theorem lowSide_firstMoveComplete : (firstMoveComplete s).lowSide = s.lowSide := by
  simp only [firstMoveComplete, lowSide_ite]
  simp
@[simp] theorem lowSide_moveFrame (t : Turn) : (moveFrame t s).lowSide = s.lowSide := by simp [moveFrame]
@[simp] theorem lowSide_enterAll (l : List Code) : (enterAll l s).lowSide = s.lowSide := by
  induction l generalizing s with
  | nil => rfl
  | cons c l ih => rw [enterAll, ih]; unfold enterEffect; split <;> rfl
@[simp] theorem lowSide_planTurn : (planTurn s).lowSide = s.lowSide := by simp [planTurn]
@[simp] theorem lowSide_carryItems (angle : Nat) (owed : Owed) (hs : HeadSet) (common : Bool) (l : List Action) :
    (carryItems angle owed hs common l s).lowSide = s.lowSide := by
  induction l generalizing s with
  | nil => rfl
  | cons x l ih => simp [carryItems, ih]
@[simp] theorem lowSide_carryOut (owed : Owed) (hs : HeadSet) (f : Nat) (c : Code) : (carryOut owed hs f c s).lowSide = s.lowSide := by
  simp [carryOut, restartHoldoff]
@[simp] theorem lowSide_carryAll (owed : Owed) (hs : HeadSet) (f : Nat) (l : List Code) :
    (carryAll owed hs f l s).lowSide = s.lowSide := by
  induction l generalizing s with
  | nil => rfl
  | cons c l ih => simp [carryAll, ih]
@[simp] theorem lowSide_carryTrim (owed : Owed) (hs : HeadSet) (f : Nat) (c : Cause) :
    (carryTrim owed hs f c s).lowSide = s.lowSide := by
  unfold carryTrim
  split
  · split <;> simp
  · rfl

end

/-! ### The low side of a call -/

/-- The low-mark test on the low side (R20). -/
def LowSide.tested (x : LowSide) : LowSide :=
  let left := x.store.fill - x.store.cursor
  if x.store.isOpen ∧ x.store.endLoaded = false ∧ left < (x.params[Param.lowMark.place]).toNat ∧ x.store.lowArmed then
    { x with store := { x.store with lowArmed := false }, low := occurrence x.low x.store.cursor (u16 left) x.clock }
  else x

theorem lowSide_lowMarkTest (s : State) : (lowMarkTest s).lowSide = s.lowSide.tested := by
  unfold lowMarkTest LowSide.tested
  dsimp only
  rw [lowSide_ite]
  refine if_congr Iff.rfl ?_ rfl
  simp only [State.lowSide, raiseNotice_self]
  rfl

/-- The cursor's move on the low side (R11). -/
def LowSide.advanced (records : List (Nat × Rec)) (k : Nat) (x : LowSide) : LowSide := { x with store := Store.advance records k x.store }

theorem lowSide_advance (s : State) (records : List (Nat × Rec)) (k : Nat) :
    (s.modStore (Store.advance records k)).lowSide = s.lowSide.advanced records k := rfl

theorem issueTurn_lowSide (come : StillToCome) (records : List (Nat × Rec)) (i : Nat) (r : Rec) (s : State) :
    (issueTurn come records i r s).lowSide = (s.lowSide.advanced records (i + 1)).tested := by
  simp [issueTurn, lowSide_lowMarkTest, lowSide_advance]

theorem answerStop_lowSide (come : StillToCome) (records : List (Nat × Rec)) (c : Cause) (i : Nat) (again : Bool) (s : State) :
    (answerStop come records c i again s).lowSide = (s.lowSide.advanced records (pastLast records s.store.cursor)).tested := by
  simp [answerStop, lowSide_lowMarkTest, lowSide_advance]

/-- The records that a call issues (R11). -/
def CallOutcome.records : CallOutcome → List (Nat × Rec)
  | .turn records _ _ => records
  | .stop records _ _ _ => records

/-- A call moves the cursor over the records it issues, and the low mark is tested after (R11, R20). -/
theorem call_lowSide (come : StillToCome) (s : State) : (call come s).lowSide =
    (s.lowSide.advanced s.callOutcome.records (pastLast s.callOutcome.records s.store.cursor)).tested := by
  cases ho : s.callOutcome with
  | turn records i r =>
    have hpast : pastLast records s.store.cursor = i + 1 := by
      obtain ⟨hpre, hi⟩ := callOutcome_turn_records ho
      rw [pastLast_of_prefix hpre, hi]
    simp [call, ho, issueTurn_lowSide, CallOutcome.records, hpast]
  | stop records c i again => simp [call, ho, answerStop_lowSide, CallOutcome.records]

/-- What a call leaves of the design and of STORE_LOW (R11, R20). -/
theorem call_advances (come : StillToCome) (s : State) : ∃ records : List (Nat × Rec),
    ((∃ i r, s.callOutcome = .turn records i r) ∨ (∃ c i again, s.callOutcome = .stop records c i again)) ∧
    let t := call come s
    (t.store.cursor = match records.getLast? with
      | some p => p.1 + 1
      | none => s.store.cursor) ∧
    t.store.cursorPos = s.store.cursorPos.add (travel (records.map Prod.snd)) ∧
    t.store.cursorColour = s.store.cursorColour + (records.filter fun p => decide (p.2 = .colour)).length ∧
    t.store.fill = s.store.fill ∧ t.store.fillPos = s.store.fillPos ∧ t.store.origin = s.store.origin ∧
    t.store.endLoaded = s.store.endLoaded ∧ t.store.isOpen = s.store.isOpen ∧
    let left := s.store.fill - t.store.cursor
    let low := s.store.isOpen = true ∧ s.store.endLoaded = false ∧ left < s.nat .lowMark ∧ s.store.lowArmed = true
    (low → t.store.lowArmed = false ∧ t.notices.sources[srcStoreLow] =
      (raiseNotice srcStoreLow t.store.cursor (u16 left) s).notices.sources[srcStoreLow]) ∧
    (¬ low → t.store.lowArmed = s.store.lowArmed ∧
      t.notices.sources[srcStoreLow] = s.notices.sources[srcStoreLow]) := by
  refine ⟨s.callOutcome.records, ?_, ?_⟩
  · cases s.callOutcome with
    | turn records i r => exact .inl ⟨i, r, rfl⟩
    | stop records c i again => exact .inr ⟨c, i, again, rfl⟩
  · intro t
    generalize hrec : s.callOutcome.records = records
    have ht := call_lowSide come s
    rw [hrec] at ht
    have hfold := foldl_moves records s.store.cursorPos
    let k := pastLast records s.store.cursor
    let low := s.store.isOpen = true ∧ s.store.endLoaded = false ∧ s.store.fill - k < s.nat .lowMark ∧ s.store.lowArmed = true
    have htested : (s.lowSide.advanced records k).tested = if low then
        { s.lowSide.advanced records k with
          store := { Store.advance records k s.lowSide.store with lowArmed := false }
          low := occurrence s.notices.sources[srcStoreLow] k (u16 (s.store.fill - k)) s.clock }
        else s.lowSide.advanced records k := rfl
    rw [htested] at ht
    have hdesign : { t.lowSide.store with lowArmed := false } =
        { Store.advance records k s.lowSide.store with lowArmed := false } := by
      rw [ht]; split <;> rfl
    obtain ⟨hopen, horigin, -, -, hcursor, hfill, hfillPos, hpos, -, hcolour, hend, -, -⟩ := Store.mk.inj hdesign
    change t.store.cursor = k at hcursor
    rw [hcursor, ← hfold]
    refine ⟨rfl, hpos, hcolour, hfill, hfillPos, horigin, hend, hopen, fun hlow => ?_, fun hlow => ?_⟩
    · rw [if_pos hlow] at ht
      exact ⟨congrArg (fun x : LowSide => x.store.lowArmed) ht,
        (congrArg (fun x : LowSide => x.low) ht).trans (raiseNotice_self _ _ _ _).symm⟩
    · rw [if_neg hlow] at ht
      exact ⟨congrArg (fun x : LowSide => x.store.lowArmed) ht, congrArg (fun x : LowSide => x.low) ht⟩

end Sys2Proof.Machine
end

section
/-! PROOFS. The outcome of a call as R11 words it, and what retention does (R18). -/

namespace Sys2Proof.Machine

/-- What a call that answers a turn has found (R10, R11). -/
theorem callOutcome_turn_spec {s : State} {records : List (Nat × Rec)} {i : Nat} {r : Rec} (h : s.callOutcome = .turn records i r) :
    records <+: s.store.pendingRecords ∧ (∃ n, s.planNeedle = some n ∧ s.needle.settled = some n) ∧
    s.planner.stopsAt i = false ∧ r.move.isSome = true ∧
    ∃ zero, records = zero ++ [(i, r)] ∧ ∀ p ∈ zero, p.2.move = none ∧ s.func.stopType p.2 = none := by
  obtain ⟨hscan, hneedle⟩ := callOutcome_eq_turn h
  obtain ⟨hpre, hat, hmove, hzero⟩ := scan_eq_turn hscan
  exact ⟨hpre, hneedle, hat, hmove, hzero⟩

/-- What a call that answers a stop has found (R10, R11). -/
theorem callOutcome_stop_spec {s : State} {records : List (Nat × Rec)} {c : Cause} {i : Nat} {again : Bool}
    (h : s.callOutcome = .stop records c i again) :
    records <+: s.store.pendingRecords ∧ (∀ p ∈ records, p.2.move = none) ∧
    (again = true → records = [] ∧ i = s.store.cursor ∧ s.planner.stopPoint.map StopPoint.cause = some c) ∧
    (again = false →
      (s.planNeedle = none ∧ records = [] ∧ c = .needlePlan ∧ i = s.store.cursor) ∨
      (s.planNeedle ≠ none ∧ s.planNeedle ≠ s.needle.settled ∧ records = [] ∧ c = .needleLost ∧ i = s.store.cursor) ∨
      (s.planNeedle ≠ none ∧ s.planNeedle = s.needle.settled ∧
        ∃ p, records.getLast? = some p ∧ s.func.stopType p.2 = some c ∧ i = p.1) ∨
      (s.planNeedle ≠ none ∧ s.planNeedle = s.needle.settled ∧ (∀ p ∈ records, s.func.stopType p.2 = none) ∧
        records = s.store.pendingRecords ∧ c = (if s.store.endLoaded then .endRec else .data) ∧
        i = (if s.store.endLoaded then s.store.fill - 1 else s.store.fill))) := by
  rcases callOutcome_eq_stop h with ⟨hplan, rfl, hc, hi, rfl⟩ | ⟨hplan, hother, rfl, hc, hi, rfl⟩ | ⟨hplan, hsame, hscan⟩
  · exact ⟨List.nil_prefix, by simp, by simp, fun _ => .inl ⟨hplan, rfl, hc, hi⟩⟩
  · exact ⟨List.nil_prefix, by simp, by simp, fun _ => .inr (.inl ⟨hplan, hother, rfl, hc, hi⟩)⟩
  · obtain ⟨hpre, hzero, hat, hend⟩ := scan_eq_stop hscan
    refine ⟨hpre, hzero, hat, fun hagain => ?_⟩
    rcases hend hagain with hstop | ⟨hnone, hall⟩
    · exact .inr (.inr (.inl ⟨hplan, hsame, hstop⟩))
    · exact .inr (.inr (.inr ⟨hplan, hsame, hnone, hall⟩))

theorem foldl_min_eq (l : List Nat) (v : Nat) : l.foldl min v = v ∨ l.foldl min v ∈ l := by
  induction l generalizing v with
  | nil => exact .inl rfl
  | cons a l ih =>
    rcases ih (min v a) with h | h
    · rcases Nat.le_total v a with hva | hav
      · exact .inl (by rw [List.foldl_cons, h, Nat.min_eq_left hva])
      · exact .inr (by rw [List.foldl_cons, h, Nat.min_eq_right hav]; exact List.mem_cons_self)
    · exact .inr (List.mem_cons_of_mem a h)

/-- Retention stands at the cursor less HIST_DEPTH, or at the start of a gap below it (R18). -/
theorem retentionCandidate_at (s : State) : s.retentionCandidate ≤ s.store.cursor - s.nat .histDepth ∧
    (s.store.cursor - s.nat .histDepth ≤ s.retentionCandidate ∨ ∃ h : Head, ∃ g ∈ (s.head h).gaps, g.start ≤ s.retentionCandidate) := by
  have hlow {g : Nat} (hg : s.lowestGap = some g) : ∃ h : Head, ∃ k ∈ (s.head h).gaps, k.start = g := by
    have hmem : g ∈ (allHeads.flatMap fun h => (s.head h).gaps).map Gap.start := by
      unfold State.lowestGap lowestStart at hg
      split at hg
      · cases hg
      · next a as heq =>
        cases hg
        rw [heq]
        rcases foldl_min_eq as a with h | h
        · rw [leastOf, h]; exact List.mem_cons_self
        · exact List.mem_cons_of_mem a h
    obtain ⟨k, hk, rfl⟩ := List.mem_map.mp hmem
    obtain ⟨h, -, hgap⟩ := List.mem_flatMap.mp hk
    exact ⟨h, k, hgap, rfl⟩
  unfold State.retentionCandidate
  dsimp only
  cases hg : s.lowestGap with
  | none => exact ⟨le_rfl, .inl le_rfl⟩
  | some g =>
    refine ⟨Nat.min_le_left _ _, ?_⟩
    obtain ⟨h, k, hk, hstart⟩ := hlow hg
    by_cases hle : s.store.cursor - s.nat .histDepth ≤ g
    · exact .inl (by dsimp only; omega)
    · exact .inr ⟨h, k, hk, by dsimp only; omega⟩

/-- What retention does (R18). -/
theorem runRetention_spec (s : State) :
    let t := runRetention s
    let back := s.store.cursor - s.nat .histDepth
    t = { s with store := { s.store with
      retire := t.store.retire, records := s.store.records.drop (t.store.retire - s.store.retire) } } ∧
    s.store.retire ≤ t.store.retire ∧
    (t.store.retire = s.store.retire ∨
      (t.store.retire ≤ back ∧ ∀ h : Head, ∀ g ∈ (s.head h).gaps, t.store.retire ≤ g.start)) ∧
    (back ≤ t.store.retire ∨ ∃ h : Head, ∃ g ∈ (s.head h).gaps, g.start ≤ t.store.retire) := by
  intro t back
  have hretire : t.store.retire = max s.store.retire s.retentionCandidate := runRetention_retire s
  have hraised : s.retentionCandidate ≤ t.store.retire := (Nat.le_max_right _ _).trans hretire.ge
  obtain ⟨hback, hlow⟩ := retentionCandidate_at s
  refine ⟨runRetention_eq s, (Nat.le_max_left _ _).trans hretire.ge, ?_, ?_⟩
  · rcases Nat.le_total s.retentionCandidate s.store.retire with hle | hle
    · exact .inl (hretire.trans (Nat.max_eq_left hle))
    · have hat : t.store.retire = s.retentionCandidate := hretire.trans (Nat.max_eq_right hle)
      exact .inr ⟨hat.trans_le hback, fun h g hg => hat.trans_le (retentionCandidate_le_gap hg)⟩
  · rcases hlow with hle | ⟨h, g, hg, hle⟩
    · exact .inl (hle.trans hraised)
    · exact .inr ⟨h, g, hg, hle.trans hraised⟩

end Sys2Proof.Machine
end

section
/-! PROOFS. A count that reaches the window-start mark alone, and what is taken there in the orders given (R18, R28, R89). -/

namespace Sys2Proof.Machine

/-- The state once a forward count of a turning shaft has been noted, with these levels on the tension inputs (R24). -/
def State.counted (tension : List (BitVec 10)) (s : State) : State :=
  { setTension tension s with
    shaft := { s.shaft with count := s.shaft.count + 1, quiet := 0, stall := s.shaft.stall.map fun _ => 0 } }

/-- A forward count of a turning shaft, within the counter's range (R24). -/
theorem noteCount_counted {s : State} (tension : List (BitVec 10)) (hturning : s.shaft.motion = .turning) :
    ((noteCount (setTension tension s)).modShaft fun h =>
      { h with count := (noteCount (setTension tension s)).shaft.count + 1, timedRev := h.timedRev && true }) = s.counted tension := by
  have hmotion : (if 0 < s.shaft.line then Motion.turning else s.shaft.motion) = s.shaft.motion := by rw [hturning, ite_self]
  have hnoted : (noteCount (setTension tension s)).shaft =
      { s.shaft with quiet := 0, stall := s.shaft.stall.map fun _ => 0, motion := if 0 < s.shaft.line then .turning else s.shaft.motion } := rfl
  rw [State.modShaft, hnoted, hmotion]
  simp only [Bool.and_true]
  rfl

/-- Such a count reaches the window-start angle anew, and its marks are taken (R28). -/
theorem countShaft_nears {s : State} (h : s.NearsWindowStart) (tension : List (BitVec 10)) (order : List Taker) :
    countShaft .forward order (setTension tension s) = arrive order (s.nat .winStart) (s.counted tension) := by
  obtain ⟨-, hturning, hsynced, -, hlow, hhigh, hat, hanew, -⟩ := h
  have hrange : (noteCount (setTension tension s)).inCountRange ((noteCount (setTension tension s)).shaft.count + 1) = true := by
    have hsync : (noteCount (setTension tension s)).shaft.synced = true := hsynced
    simp only [State.inCountRange, hsync, if_true, Bool.and_eq_true, decide_eq_true_eq]
    exact ⟨hhigh, hlow⟩
  have hangle : (s.counted tension).angle = some (s.nat .winStart) := by
    have hsync : (s.counted tension).shaft.synced = true := hsynced
    rw [State.angle, if_pos hsync]
    exact congrArg some hat
  have hflag (old : Bool) : followFlag old (s.counted tension) = s.counted tension := by
    have hmoving : (s.counted tension).shaft.motion ≠ .stopped := by
      change s.shaft.motion ≠ .stopped
      rw [hturning]; decide
    exact if_neg hmoving
  simp only [countShaft, Dir.step, hrange, if_true, decide_true, noteCount_counted tension hturning, hflag, hangle]
  exact if_neg hanew

/-- The takers of that arrival, in the order given (R28). -/
theorem arrive_nears {s : State} (h : s.NearsWindowStart) (tension : List (BitVec 10)) (order : List Taker) :
    arrive order (s.nat .winStart) (s.counted tension) =
      (takeAll (s.nat .winStart) ((takersInOrder order).filter fun t => t ∈ [Taker.overrun, .completion, .retention, .call])
        (s.counted tension, none)).1 := by
  obtain ⟨-, -, -, -, -, -, -, -, htakes⟩ := h
  have hsame : (s.counted tension).takesAt (s.nat .winStart) = fun t => decide (t ∈ [Taker.overrun, .completion, .retention, .call]) := by
    funext t
    have hst : (s.counted tension).takesAt (s.nat .winStart) t = s.takesAt (s.nat .winStart) t := by cases t <;> rfl
    rw [hst, Bool.eq_iff_iff, htakes t, decide_eq_true_iff]
  rw [arrive, hsame]

/-- In SEWING the Run Controller takes the arrival with the outstanding turn to complete and a call to make (R89). -/
theorem takeWindowStart_sewing {s : State} (hphase : s.run.phase = some .sewing) : takeWindowStart s =
    (s.modRun fun r => { r with outstanding := none }, ⟨s.run.outstanding, true, s.judged⟩) := by
  simp only [takeWindowStart, hphase, true_or, if_true, decide_true]
  rfl

/-! ### Causes of the family in SEWING (R53, R91, R93, R94) -/

/-- What a cause of the family that asks for a stop point changes in SEWING: the run's state, kind and report, the notices, and the
stop point with the list built by it. -/
structure AsksStop (s t : State) : Prop where
  eq : t = { s with run := t.run, notices := t.notices, planner := t.planner }
  phase : t.run.phase = s.run.phase
  outstanding : t.run.outstanding = s.run.outstanding
  inject : t.run.inject = s.run.inject
  repair : t.run.repair = s.run.repair
  caps : t.planner.caps = s.planner.caps
  demand : t.planner.demand = s.planner.demand
  held : t.planner.held = s.planner.held
  prev : t.planner.prev = s.planner.prev

theorem AsksStop.refl (s : State) : AsksStop s s := ⟨rfl, rfl, rfl, rfl, rfl, rfl, rfl, rfl, rfl⟩

theorem AsksStop.trans {s t u : State} (h : AsksStop s t) (h' : AsksStop t u) : AsksStop s u where
  eq := by
    have heq := h'.eq
    rw [h.eq] at heq
    exact heq
  phase := h'.phase.trans h.phase
  outstanding := h'.outstanding.trans h.outstanding
  inject := h'.inject.trans h.inject
  repair := h'.repair.trans h.repair
  caps := h'.caps.trans h.caps
  demand := h'.demand.trans h.demand
  held := h'.held.trans h.held
  prev := h'.prev.trans h.prev

theorem asksStop_requestStopPoint (c : Cause) (s : State) : AsksStop s (requestStopPoint c s) := by
  have hkept (keep : Bool) (x : Option StopPoint) :
      AsksStop s (rebuild (s.modPlanner fun p => if keep then p else { p with stopPoint := x })) := by
    cases keep <;> exact ⟨rfl, rfl, rfl, rfl, rfl, rfl, rfl, rfl, rfl⟩
  exact hkept _ _

/-- What the recording of a cause changes: the run's state, kind and report, and the notices (R93, R94). -/
structure Records (s t : State) : Prop where
  eq : t = { s with run := t.run, notices := t.notices }
  phase : t.run.phase = s.run.phase
  outstanding : t.run.outstanding = s.run.outstanding
  inject : t.run.inject = s.run.inject
  repair : t.run.repair = s.run.repair

theorem Records.asksStop {s t : State} (h : Records s t) : AsksStop s t := by
  have hplanner : t.planner = s.planner := by rw [h.eq]
  refine ⟨?_, h.phase, h.outstanding, h.inject, h.repair, congrArg _ hplanner, congrArg _ hplanner, congrArg _ hplanner,
    congrArg _ hplanner⟩
  rw [hplanner]
  exact h.eq

theorem Records.refl (s : State) : Records s s := ⟨rfl, rfl, rfl, rfl, rfl⟩

theorem Records.trans {s t u : State} (h : Records s t) (h' : Records t u) : Records s u where
  eq := by
    have heq := h'.eq
    rw [h.eq] at heq
    exact heq
  phase := h'.phase.trans h.phase
  outstanding := h'.outstanding.trans h.outstanding
  inject := h'.inject.trans h.inject
  repair := h'.repair.trans h.repair

theorem records_recordPrimary (c : Cause) (i : Nat) (s : State) : Records s (recordPrimary c i s) := by
  have hset (u : State) : Records u (setRunState .stopping u) := by
    unfold setRunState
    split
    · exact Records.refl u
    · exact ⟨rfl, rfl, rfl, rfl, rfl⟩
  have hrecord : Records s (s.modRun fun r =>
      { r with kind := some c.kind, report := { r.report with primary := some ⟨c, i, s.clock⟩ } }) := ⟨rfl, rfl, rfl, rfl, rfl⟩
  exact hrecord.trans (hset _)

theorem records_appendCause (c : Cause) (i : Nat) (s : State) : Records s (appendCause c i s) := by
  unfold appendCause
  split <;> exact ⟨rfl, rfl, rfl, rfl, rfl⟩

theorem records_convertKind (c : Cause) (s : State) : Records s (convertKind c s) := by
  unfold convertKind
  split <;> exact ⟨rfl, rfl, rfl, rfl, rfl⟩

/-- A cause of the family is no EMERGENCY (R91). -/
theorem isEmergency_of_family {c : Cause} (hc : c.isFamily = true) : c.isEmergency = false ∧ c ≠ .store := by
  cases c <;> simp_all [Cause.isFamily, Cause.isEmergency, Cause.kind]

/-- Such a cause acts on a run in SEWING by a stop point alone (R53, R93). -/
theorem actOnRun_of_family {c : Cause} (hc : c.isFamily = true) {s : State} (hphase : s.run.phase = some .sewing) (first : Bool) :
    actOnRun c first s = requestStopPoint c s := by
  simp only [actOnRun, hphase, hc, if_true]

/-- A cause of the family taken in SEWING, whatever the run state (R93, R94). -/
theorem takeCause_asksStop {c : Cause} (hc : c.isFamily = true) {s : State} (hphase : s.run.phase = some .sewing) (i : Nat) :
    AsksStop s (takeCause c i s) := by
  obtain ⟨hquiet, hstore⟩ := isEmergency_of_family hc
  unfold takeCause
  split
  · have hrecord := (records_recordPrimary c i s).asksStop
    simp only [hquiet, Bool.false_eq_true, if_false, actOnRun_of_family hc (hrecord.phase.trans hphase)]
    exact hrecord.trans (asksStop_requestStopPoint c _)
  · have hrecord := ((records_appendCause c i s).trans (records_convertKind c _)).asksStop
    simp only [hquiet, Bool.false_eq_true, if_false, actOnRun_of_family hc (hrecord.phase.trans hphase)]
    exact hrecord.trans (asksStop_requestStopPoint c _)
  · simp only [hquiet, Bool.false_eq_true, if_false]
    exact (records_appendCause c i s).asksStop.trans ⟨rfl, rfl, rfl, rfl, rfl, rfl, rfl, rfl, rfl⟩
  · simp only [hquiet, Bool.false_eq_true, if_false]
    exact (records_appendCause c i s).asksStop
  · simp only [hquiet, hstore, Bool.false_eq_true, if_false]
    exact ⟨rfl, rfl, rfl, rfl, rfl, rfl, rfl, rfl, rfl⟩
  · simp only [hquiet, hstore, Bool.false_eq_true, if_false]
    exact ⟨rfl, rfl, rfl, rfl, rfl, rfl, rfl, rfl, rfl⟩

theorem causesOf_asksStop (i : Nat) : ∀ (l : List Head) {s : State}, s.run.phase = some .sewing → AsksStop s (causesOf i l s)
  | [], s, _ => AsksStop.refl s
  | h :: l, s, hphase => by
    have hfirst := takeCause_asksStop (c := .headFault h) rfl hphase i
    exact hfirst.trans (causesOf_asksStop i l (hfirst.phase.trans hphase))

/-! ### The completion leaves the phase SEWING (R89, R146, R167, R174, R175) -/

section
variable {s : State} (hphase : s.run.phase = some .sewing)
include hphase

theorem holdFault_sewing (h : Head) (f : FaultRecord) (o : FaultOutcome) (gap : Option Nat) :
    (holdFault h f o gap s).run.phase = some .sewing :=
  (takeCause_asksStop (c := .headFault h) rfl (s := raiseHeadFault h f o gap (s.modHead h fun e =>
    { e with faultHeld := true, kept := some f.start })) hphase f.index).phase.trans hphase

theorem takeRepairFault_sewing (h : Head) (f : FaultRecord) : (takeRepairFault h f s).run.phase = some .sewing := by
  simp only [takeRepairFault]
  split
  · exact hphase
  · refine holdFault_sewing ?_ h f _ _
    exact hphase

theorem checkAllIsolated_sewing : (checkAllIsolated s).run.phase = some .sewing := by
  unfold checkAllIsolated
  split
  · exact (takeCause_asksStop (c := .allIsolated) rfl hphase _).phase.trans hphase
  · exact hphase

theorem takeFault_sewing (h : Head) (f : FaultRecord) : (takeFault h f s).run.phase = some .sewing := by
  unfold takeFault
  split
  · exact takeRepairFault_sewing hphase h f
  · split
    · exact holdFault_sewing hphase h f _ _
    · split
      · exact holdFault_sewing hphase h f _ _
      · next t ho =>
        have hopened : t.run = s.run := by
          simp only [openHeadGap, Option.map_eq_some_iff] at ho
          obtain ⟨gaps, -, rfl⟩ := ho
          rfl
        exact checkAllIsolated_sewing (by rw [← hphase, ← hopened]; rfl)

theorem completeAtHead_sewing (t : Nat) (h : Head) : (completeAtHead t h s).1.run.phase = some .sewing := by
  unfold completeAtHead
  split
  · exact hphase
  · next g _ =>
    have hraised : (if (s.evaluate t g (s.monitor h)).2.2 then raiseNotice (srcBobbin h) t
          (u32 ((s.evaluate t g (s.monitor h)).1.bobbin.getD 0)) (s.modMonitor h fun _ => (s.evaluate t g (s.monitor h)).1)
        else s.modMonitor h fun _ => (s.evaluate t g (s.monitor h)).1).run.phase = some .sewing := by
      split <;> exact hphase
    dsimp only
    split
    · exact hraised
    · exact takeFault_sewing hraised h _

end

theorem completeAtHeads_sewing (t : Turn) (sel : HeadSet) : ∀ (l : List Head) {s : State}, s.run.phase = some .sewing →
    (completeAtHeads t sel l s).run.phase = some .sewing
  | [], _, hphase => hphase
  | h :: l, s, hphase => by
    have hhead := completeAtHead_sewing hphase t.index h
    refine completeAtHeads_sewing t sel l ?_
    split
    · unfold advanceHead
      dsimp only
      split <;> exact hhead
    · exact hhead

/-! ### The two orders of the window-start mark (R18, R28, R89) -/

/-- The takers of the window-start mark, where the command names none and where it names the overrun and the call (R28). -/
theorem takersInOrder_windowStart :
    (takersInOrder []).filter (fun t => t ∈ [Taker.overrun, .completion, .retention, .call]) = [.overrun, .completion, .retention, .call] ∧
    (takersInOrder [.overrun, .call]).filter (fun t => t ∈ [Taker.overrun, .completion, .retention, .call]) =
      [.overrun, .call, .completion, .retention] := by
  constructor <;> decide

theorem runRetention_run (s : State) : (runRetention s).run = s.run := rfl

theorem takeOne_overrun (a : Nat) (later : List Taker) (s : State) (w : Option WindowStart) :
    takeOne a later .overrun (s, w) = (overrunArrival s, w) := rfl

theorem takeOne_completion (a : Nat) (later : List Taker) (s : State) : takeOne a later .completion (s, none) =
    (completeTurn (takeWindowStart s).2 (takeWindowStart s).1, some (takeWindowStart s).2) := rfl

theorem takeOne_retention (a : Nat) (later : List Taker) (s : State) (w : WindowStart) : takeOne a later .retention (s, some w) =
    (if w.done.isSome then runRetention s else s, some w) := rfl

section
variable {s : State} {x : Turn} (hphase : s.run.phase = some .sewing) (hx : s.run.outstanding = some x)
  (hcounting : s.shaft.counting = false) (tension : List (BitVec 10)) (a : Nat)
include hphase hx hcounting

/-- No overrun is counted, and the Run Controller takes the arrival (R37, R89). -/
theorem counted_begins : overrunArrival (s.counted tension) = s.counted tension ∧
    takeWindowStart (s.counted tension) = (s.arrived tension, ⟨some x, true, s.judged⟩) := by
  have hcount : (s.counted tension).shaft.counting = false := hcounting
  have hsewing : (s.counted tension).run.phase = some .sewing := hphase
  refine ⟨by simp [overrunArrival, hcount], ?_⟩
  rw [takeWindowStart_sewing hsewing, ← hx]
  rfl

/-- In the usual order the completion and retention come before the call (R89). -/
theorem takeAll_usual : (takeAll a [.overrun, .completion, .retention, .call] (s.counted tension, none)).1 =
    call .nothing (s.completed tension x) := by
  obtain ⟨hover, hbegin⟩ := counted_begins hphase hx hcounting tension
  have hsewing : (s.completed tension x).run.phase = some .sewing := by
    rw [State.completed, runRetention_run]
    exact completeAtHeads_sewing x s.judged allHeads (s := s.arrived tension) hphase
  have hdone : (takeAll a [.overrun, .completion, .retention, .call] (s.counted tension, none)) =
      takeAll a [.call] (s.completed tension x, some ⟨some x, true, s.judged⟩) := by
    rw [takeAll, takeAll, takeAll, takeOne_overrun, hover, takeOne_completion, hbegin, takeOne_retention]
    rfl
  rw [hdone]
  simp [takeAll, takeOne, hsewing, StillToCome.nothing]

/-- In the other order the call comes first, and the completion is still to come (R18, R89, R173). -/
theorem takeAll_callFirst : (takeAll a [.overrun, .call, .completion, .retention] (s.counted tension, none)).1 =
    runRetention (completeAtHeads x s.judged allHeads (call ⟨some x.index, []⟩ (s.arrived tension))) := by
  obtain ⟨hover, hbegin⟩ := counted_begins hphase hx hcounting tension
  have hsewing : (s.arrived tension).run.phase = some .sewing := hphase
  simp [takeAll, takeOne, hover, hbegin, hsewing, completeTurn]

end

/-- With no figures gathered for the turn and outside repair, a completion changes nothing at the heads (R89, R174). -/
theorem completeAtHeads_of_none {t : Turn} : ∀ (l : List Head) {s : State},
    (∀ (h : Head) (g : Gathering), g ∈ (s.monitor h).gatherings → g.turn ≠ t.index) → completeAtHeads t 0 l s = s
  | [], _, _ => rfl
  | h :: l, s, hnone => by
    have hfind : (s.monitor h).gatherings.find? (fun g => decide (g.turn = t.index)) = none :=
      List.find?_eq_none.mpr fun g hg => by simpa using hnone h g hg
    have hsel : inSet 0 h = false := by simp [inSet]
    have hhead : completeAtHead t.index h s = (s, false) := by simp [completeAtHead, hfind]
    simp only [completeAtHeads, hhead, hsel, Bool.and_false, Bool.false_and, Bool.false_eq_true, if_false]
    exact completeAtHeads_of_none l hnone

/-- What a count that reaches the window-start mark alone does in SEWING, in either order (R18, R28, R89). -/
theorem encoderCount_windowStart {s : State} {x : Turn} (tension : List (BitVec 10)) (h : s.NearsWindowStart)
    (hphase : s.run.phase = some .sewing) (hx : s.run.outstanding = some x) :
    exec (.encoderCount .forward tension []) s = .next (settle (call .nothing (s.completed tension x))) ∧
    exec (.encoderCount .forward tension [.overrun, .call]) s = .next (settle (runRetention
      (completeAtHeads x s.judged allHeads (call ⟨some x.index, []⟩ (s.arrived tension))))) ∧
    ((∀ (h : Head) (g : Gathering), g ∈ (s.monitor h).gatherings → g.turn ≠ x.index) → s.run.repair.active = false →
      s.completed tension x = runRetention (s.arrived tension)) := by
  have hexec (order : List Taker) : exec (.encoderCount .forward tension order) s = .next (settle
      (takeAll (s.nat .winStart) ((takersInOrder order).filter fun t => t ∈ [Taker.overrun, .completion, .retention, .call])
        (s.counted tension, none)).1) := by
    rw [← arrive_nears h, ← countShaft_nears h]
    exact congrArg _ (event_of_awake h.1)
  obtain ⟨husual, hfirst⟩ := takersInOrder_windowStart
  have hcounting : s.shaft.counting = false := h.2.2.2.1
  refine ⟨?_, ?_, fun hnone hrepair => ?_⟩
  · rw [hexec, husual, takeAll_usual hphase hx hcounting]
  · rw [hexec, hfirst, takeAll_callFirst hphase hx hcounting]
  · have hsel : s.judged = 0 := by simp [State.judged, hrepair]
    rw [State.completed, hsel, completeAtHeads_of_none]
    exact hnone

end Sys2Proof.Machine
end

section
/-! PROOFS. The functions carried out at an issue, and what a channel takes (R111, R112, R113, R117, R119, R120). -/

namespace Sys2Proof.Machine

/-! ### An action item at its channel (R112, R117, R119, R120) -/

theorem trigger_due (at0 angle n : Nat) : Trigger.due ⟨at0, false⟩ angle n = ⟨angle, n⟩ := rfl

theorem trigger_distance (at0 : Nat) (d : Due) :
    Trigger.distance ⟨at0, false⟩ d = (d.angle + 719 - at0) % 360 + 360 * (d.toGo - 1) + 1 := by
  simp only [Trigger.distance, degreesTo, Bool.false_and, Bool.false_eq_true, if_false]
  omega

theorem trigger_endDue (at0 r a k e : Nat) : Trigger.endDue ⟨at0, false⟩ r a k e =
    ⟨e, (if (e + 719 - at0) % 360 ≤ (a + 719 - at0) % 360 then r + 1 else r) + k + 1⟩ := by
  simp only [Trigger.endDue, trigger_due, degreesTo, Nat.add_le_add_iff_right]

/-- A PULSE item that captures something, by the pulse the channel holds (R117, R119). -/
theorem takePulse_takes {at0 r a k e : Nat} {hs : HeadSet} {common : Bool} (hcap : hs ≠ 0 ∨ common = true) (old : Channel) :
    let far := fun d : Due => (d.angle + 719 - at0) % 360 + 360 * (d.toGo - 1)
    let before := if (e + 719 - at0) % 360 ≤ (a + 719 - at0) % 360 then r + 1 else r
    let start : Due := ⟨a, r + 1⟩
    let stop : Due := ⟨e, before + k + 1⟩
    let new := old.takePulse ⟨at0, false⟩ r a k e hs common
    (old.pulse = none → new = { old with pulse := some ⟨false, hs, common, some start, some stop⟩ }) ∧
    (∀ p d, old.pulse = some p → p.stop = some d →
      let last := if far d < far stop then stop else d
      (p.active = true →
        new = { old with pulse := some ⟨true, p.heads ||| hs, p.common || common, none, some last⟩ }) ∧
      (∀ b, p.active = false → p.start = some b →
        let first := if far start < far b then start else b
        new = { old with pulse := some ⟨false, p.heads ||| hs, p.common || common, some first, some last⟩ })) := by
  intro far before start stop new
  have hnone : ¬ (hs = 0 ∧ common = false) := by
    rintro ⟨h0, hc⟩
    rcases hcap with h | h
    · exact h h0
    · rw [hc] at h; cases h
  have hlater (d : Due) : Trigger.later ⟨at0, false⟩ d stop = if far d < far stop then stop else d := by
    simp only [Trigger.later, trigger_distance, Nat.add_lt_add_iff_right, far]
  have hearlier (b : Due) : Trigger.earlier ⟨at0, false⟩ b start = if far start < far b then start else b := by
    simp only [Trigger.earlier, trigger_distance, Nat.add_lt_add_iff_right, far]
  have hend : Trigger.endDue ⟨at0, false⟩ r a k e = stop := trigger_endDue at0 r a k e
  refine ⟨fun hp => ?_, fun p d hp hd => ⟨fun ha => ?_, fun b ha hb => ?_⟩⟩
  · simp only [new, Channel.takePulse, hnone, if_false, hp, hend]
    rfl
  · simp only [new, Channel.takePulse, hnone, if_false, hp, hend, hd, ha, if_true, hlater]
  · simp only [new, Channel.takePulse, hnone, if_false, hp, hend, hd, ha, hb, Bool.false_eq_true]
    rw [← hlater, ← hearlier]
    rfl

/-- What a channel does with an action item, none of its arrivals at the angle still to come (R112, R117, R119, R120). -/
theorem takeAction_takes (at0 : Nat) (act : Act) (hs : HeadSet) (common : Bool) (old : Channel) :
    Channel.Takes at0 act hs common old (old.takeAction ⟨at0, false⟩ act hs common) := by
  refine ⟨?_, ?_, ?_, ?_⟩
  · rintro rfl
    rfl
  · intro hclear h0 hc
    cases act with
    | clear => exact absurd rfl hclear
    | set => simp [Channel.takeAction, Channel.takeSet, h0, hc]
    | pulse r a k e => simp [Channel.takeAction, Channel.takePulse, h0, hc]
  · rintro rfl hcap
    have hnone : ¬ (hs = 0 ∧ common = false) := by
      rintro ⟨h0, hc⟩
      rcases hcap with h | h
      · exact h h0
      · rw [hc] at h; cases h
    simp only [Channel.takeAction, Channel.takeSet, hnone, if_false]
    cases old.latch <;> rfl
  · rintro r a k e rfl hcap
    exact takePulse_takes hcap old

/-! ### A function carried out (R111, R113) -/

/-- What carrying out functions changes: the channels, and the holdoff of the heads that sew (R111, R113). -/
structure CarriesOut (sewing : HeadSet) (f : Nat) (s t : State) : Prop where
  eq : t = { s with
    func := { s.func with channels := t.func.channels }
    thread := { s.thread with monitors := t.thread.monitors } }
  monitor : ∀ h, t.monitor h = s.monitor h ∨
    inSet sewing h = true ∧ t.monitor h = (s.monitor h).holdFromIndex (s.nat .holdoff) f

theorem CarriesOut.refl (sewing : HeadSet) (f : Nat) (s : State) : CarriesOut sewing f s s := ⟨rfl, fun _ => .inl rfl⟩

theorem CarriesOut.trans {sewing : HeadSet} {f : Nat} {s t u : State} (h : CarriesOut sewing f s t) (h' : CarriesOut sewing f t u) :
    CarriesOut sewing f s u := by
  refine ⟨?_, fun k => ?_⟩
  · have heq := h'.eq
    rw [h.eq] at heq
    exact heq
  · have hholdoff : t.nat .holdoff = s.nat .holdoff := by rw [h.eq]; rfl
    have hholds (m : Monitor) (n : Nat) : (m.holdFromIndex n f).holdFromIndex n f = m.holdFromIndex n f := rfl
    have hnext := h'.monitor k
    rw [hholdoff] at hnext
    rcases h.monitor k with hk | ⟨hin, hk⟩
    · rwa [hk] at hnext
    · rw [hk, hholds] at hnext
      rcases hnext with hk' | ⟨-, hk'⟩ <;> exact .inr ⟨hin, hk'⟩

theorem carriesOut_carryItems (sewing : HeadSet) (f angle : Nat) (owed : Owed) (hs : HeadSet) (common : Bool) :
    ∀ (l : List Action) (s : State), CarriesOut sewing f s (carryItems angle owed hs common l s)
  | [], s => CarriesOut.refl sewing f s
  | x :: l, s => by
    have hitem : CarriesOut sewing f s (s.modChannel x.chan fun c => c.takeAction ⟨angle, owed.contains x.chan⟩ x.act hs common) :=
      ⟨rfl, fun _ => .inl rfl⟩
    exact hitem.trans (carriesOut_carryItems sewing f angle owed hs common l _)

theorem restartHoldoff_monitor (hs : HeadSet) (f : Nat) (s : State) (h : Head) : (restartHoldoff hs f s).monitor h =
    if inSet hs h then (s.monitor h).holdFromIndex (s.nat .holdoff) f else s.monitor h := by
  simp only [restartHoldoff, State.modMonitors_monitor]

theorem carriesOut_carryOut (owed : Owed) (sewing : HeadSet) (f : Nat) (c : Code) (s : State) :
    CarriesOut sewing f s (carryOut owed sewing f c s) := by
  have hitems := carriesOut_carryItems sewing f (s.angle.getD 0) owed (s.captured sewing (s.func.entry c).scope).1
    (s.captured sewing (s.func.entry c).scope).2 (s.func.entry c).actions s
  simp only [carryOut]
  split
  · refine hitems.trans ⟨rfl, fun h => ?_⟩
    rw [restartHoldoff_monitor]
    split
    · next hin => exact .inr ⟨hin, rfl⟩
    · exact .inl rfl
  · exact hitems

theorem carriesOut_carryAll (owed : Owed) (sewing : HeadSet) (f : Nat) : ∀ (l : List Code) (s : State),
    CarriesOut sewing f s (carryAll owed sewing f l s)
  | [], s => CarriesOut.refl sewing f s
  | c :: l, s => (carriesOut_carryOut owed sewing f c s).trans (carriesOut_carryAll owed sewing f l _)

theorem carriesOut_carryTrim (owed : Owed) (sewing : HeadSet) (f : Nat) (c : Cause) (s : State) :
    CarriesOut sewing f s (carryTrim owed sewing f c s) := by
  unfold carryTrim
  split
  · split
    · exact carriesOut_carryOut owed sewing f _ s
    · exact CarriesOut.refl sewing f s
  · exact CarriesOut.refl sewing f s

theorem modChannel_same (c : Chan) (f : Channel → Channel) (s : State) :
    (s.modChannel c f).func.channels[c] = f s.func.channels[c] := Vector.getElem_set_self _

theorem modChannel_other {c o : Chan} (ho : o ≠ c) (f : Channel → Channel) (s : State) :
    (s.modChannel c f).func.channels[o] = s.func.channels[o] :=
  Vector.getElem_set_ne c.isLt o.isLt fun h => ho (Fin.ext h.symm)

/-- A function of one item carried out with no arrival at the angle still to come (R111, R112, R113, R117, R120). -/
theorem carryOut_single {s : State} {code : Code} {c : Chan} {act : Act} {a0 : Nat} (sewing : HeadSet) (f : Nat)
    (hitem : (s.func.entry code).actions = [⟨c, act⟩]) (hangle : s.angle = some a0) :
    let cap := s.captured sewing (s.func.entry code).scope
    let t := carryOut [] sewing f code s
    (∀ o : Chan, o ≠ c → t.func.channels[o] = s.func.channels[o]) ∧
    Channel.Takes a0 act cap.1 cap.2 s.func.channels[c] t.func.channels[c] ∧
    ((s.func.entry code).slack = false → t.thread = s.thread) ∧
    ((s.func.entry code).slack = true → ∀ h : Head,
      t.monitor h = if inSet sewing h then (s.monitor h).holdFromIndex (s.nat .holdoff) f else s.monitor h) := by
  intro cap t
  let u := s.modChannel c fun x => x.takeAction ⟨a0, false⟩ act cap.1 cap.2
  have ht : t = if (s.func.entry code).slack then restartHoldoff sewing f u else u := by
    simp only [t, carryOut, hitem, hangle, carryItems]
    rfl
  have hfunc : t.func = u.func := by rw [ht]; split <;> rfl
  rw [hfunc]
  refine ⟨fun o ho => modChannel_other ho _ s, ?_, fun hslack => ?_, fun hslack h => ?_⟩
  · rw [modChannel_same]
    exact takeAction_takes a0 act cap.1 cap.2 _
  · rw [ht, hslack]; rfl
  · rw [ht, hslack, if_pos rfl]
    exact restartHoldoff_monitor sewing f u h

/-- The heads captured are those of the parameters and of the heads' states (R112). -/
theorem captured_congr {s t : State} (hparams : t.params = s.params) (hstate : ∀ h, (t.head h).state = (s.head h).state)
    (sewing : HeadSet) (scope : Scope) : t.captured sewing scope = s.captured sewing scope := by
  have hfitted : t.fitted = s.fitted := funext fun h => by
    rw [State.fitted, State.nat, State.par, hparams]; rfl
  have henabled : (fun h => t.fitted h && decide ((t.head h).state ≠ .disabled)) =
      fun h => s.fitted h && decide ((s.head h).state ≠ .disabled) := funext fun h => by simp only [hfitted, hstate]
  cases scope with
  | sewing => rfl
  | enabled => exact congrArg (fun p => (headsWhere p, false)) henabled
  | common => exact congrArg (fun p => (headsWhere p, true)) hfitted

theorem captured_eq (s : State) (sewing : HeadSet) (scope : Scope) : s.captured sewing scope = match scope with
    | .sewing => (sewing, false)
    | .enabled => (headsWhere fun h => s.fitted h && decide ((s.head h).state ≠ .disabled), false)
    | .common => (headsWhere s.fitted, true) := by
  cases scope <;> rfl

theorem angle_congr {s t : State} (hparams : t.params = s.params) (hsynced : t.shaft.synced = s.shaft.synced)
    (hcount : t.shaft.count = s.shaft.count) : t.angle = s.angle := by
  simp only [State.angle, State.nat, State.par, hparams, hsynced, hcount]

/-- A colour trim that no code names (R114). -/
theorem carryTrim_of_zero {s : State} (h : s.nat .colourTrim = 0) (owed : Owed) (sewing : HeadSet) (f : Nat) (c : Cause) :
    carryTrim owed sewing f c s = s := by
  have htrim : s.trimCode = none := dif_neg (by omega)
  unfold carryTrim
  rw [htrim]
  exact ite_self s

/-- A colour trim that a code names (R114). -/
theorem carryTrim_of_code {s : State} {code : Code} (h : s.nat .colourTrim = code.val) (hcode : code ≠ 0) (owed : Owed)
    (sewing : HeadSet) (f : Nat) : carryTrim owed sewing f .colour s = carryOut owed sewing f code s := by
  have hpos : 0 < code.val := Nat.pos_of_ne_zero fun h0 => hcode (Fin.ext h0)
  have htrim : s.trimCode = some code := by
    unfold State.trimCode
    simp only [h]
    exact dif_pos ⟨hpos, code.isLt⟩
  rw [carryTrim, if_pos rfl, htrim]

end Sys2Proof.Machine
end

section
/-! PROOFS. The stop answer of a call in SEWING (R11, R52, R90, R93, R114, R164). -/

namespace Sys2Proof.Machine

/-! ### What an issue and a stop answer begin with (R45, R130, R176) -/

/-- The needle check arms or disarms the lost watch and changes nothing else (R130, R138). -/
theorem watchAfterCheck_eq (s : State) : watchAfterCheck s = { s with needle := (watchAfterCheck s).needle } := by
  unfold watchAfterCheck
  split <;> rfl

/-- The state with another cap profile. -/
def State.withCaps (caps : List Nat) (s : State) : State := { s with planner := { s.planner with caps := caps } }

/-- The functions of an issue change the cap profile alone (R45). -/
theorem enterAll_eq (l : List Code) (s : State) : enterAll l s = s.withCaps (enterAll l s).planner.caps := by
  have hsome : ∃ caps, enterAll l s = s.withCaps caps := by
    induction l generalizing s with
    | nil => exact ⟨s.planner.caps, rfl⟩
    | cons c l ih =>
      have hone : ∃ caps, enterEffect c s = s.withCaps caps := by
        unfold enterEffect
        split
        · exact ⟨_, rfl⟩
        · exact ⟨s.planner.caps, rfl⟩
      obtain ⟨caps, hcaps⟩ := hone
      obtain ⟨caps', hcaps'⟩ := ih (s.withCaps caps)
      exact ⟨caps', by rw [enterAll, hcaps, hcaps']; rfl⟩
  obtain ⟨caps, hcaps⟩ := hsome
  rw [hcaps]; rfl

/-- The needle check and the functions' effects together (R45, R130). -/
theorem enterAll_watched (l : List Code) (s : State) : ∃ caps,
    enterAll l (watchAfterCheck s) = State.withCaps caps { s with needle := (watchAfterCheck s).needle } :=
  ⟨_, (enterAll_eq l _).trans (congrArg (State.withCaps _) (watchAfterCheck_eq s))⟩

theorem judgeRepair_of_inactive {s : State} (h : s.run.repair.active = false) (records : List (Nat × Rec)) :
    judgeRepair records s = (s, []) := by
  simp [judgeRepair, h]

/-- The low-mark test changes the low mark's arming and raises its notice alone (R20). -/
theorem lowMarkTest_eq (s : State) : lowMarkTest s =
    { s with store := { s.store with lowArmed := (lowMarkTest s).store.lowArmed }, notices := (lowMarkTest s).notices } := by
  unfold lowMarkTest
  dsimp only
  split <;> rfl

/-! ### The stop (R52, R90, R93, R104) -/

/-- A pending inject is discarded into the report (R92, R104). -/
theorem discardInject_eq (s : State) : discardInject s = { s with run := { s.run with
    inject := none, report := { s.run.report with discarded := s.run.inject.or s.run.report.discarded } } } := by
  unfold discardInject
  split
  · next h =>
    have hrun : s.run = { s.run with
        inject := none, report := { s.run.report with discarded := s.run.inject.or s.run.report.discarded } } := by
      rw [h, Option.none_or, ← h]
    exact congrArg (fun r => { s with run := r }) hrun
  · next c h => simp only [h, Option.some_or, State.modRun]

/-- The calls end while the shaft turns: a brake order waits for the brake mark (R34, R52, R90). -/
theorem goBraking_of_turning {s : State} (hmotion : s.shaft.motion = .turning) (hquiet : s.shaft.quiet < s.nat .stopQuiet) :
    goBraking s = { s with
      run := { s.run with
        phase := some .braking, inject := none
        report := { s.run.report with discarded := s.run.inject.or s.run.report.discarded } }
      planner := { s.planner with demand := 0, held := false }
      shaft := { s.shaft with line := 0, stall := none, waiting := s.shaft.waiting.or (some .atBrakeMark) } } := by
  have hmoving : (dropLine (zeroDemand (discardInject (s.modRun fun r => { r with phase := some .braking })))).shaft.motion ≠ .stopped := by
    rw [discardInject_eq]
    change s.shaft.motion ≠ .stopped
    rw [hmotion]; decide
  simp only [goBraking, brakeOrder, hmoving, if_false]
  rw [discardInject_eq]
  exact if_neg (Nat.not_le.mpr hquiet)

/-! ### The stop answer (R11, R90, R114, R164) -/

/-- The state of a stop answer once its records have been issued: the cap profile, the cursor, the stop point, and no needle
engaged (R11, R12, R164). -/
def State.stopIssued (records : List (Nat × Rec)) (again : Bool) (s : State) : State :=
  (rebuild (((enterAll (functionCodes records) (watchAfterCheck s)).modStore
    (Store.advance records (pastLast records s.store.cursor))).modPlanner fun p => if again then { p with stopPoint := none } else p)).modTable
    fun t => { t with engage := 0 }

/-- The same state with the functions and the colour trim carried out (R111, R114). -/
def State.stopCarried (owed : Owed) (records : List (Nat × Rec)) (c : Cause) (again : Bool) (s : State) : State :=
  let u := s.stopIssued records again
  carryTrim owed u.table.sewSet (u.table.sewTurn.getD 0) c
    (carryAll owed u.table.sewSet (u.table.sewTurn.getD 0) (functionCodes records) u)

theorem call_of_stop {come : StillToCome} {s : State} {records : List (Nat × Rec)} {c : Cause} {i : Nat} {again : Bool}
    (hrepair : s.run.repair.active = false) (h : s.callOutcome = .stop records c i again) :
    call come s = reachedAtIssue c i again (lowMarkTest (s.stopCarried come.owed records c again)) := by
  have hinactive : (watchAfterCheck s).run.repair.active = false := by rw [watchAfterCheck_eq]; exact hrepair
  have hcarried : s.stopCarried come.owed records c again =
      carryTrim come.owed (s.stopIssued records again).table.sewSet ((s.stopIssued records again).table.sewTurn.getD 0) c
        (carryAll come.owed (s.stopIssued records again).table.sewSet ((s.stopIssued records again).table.sewTurn.getD 0)
          (functionCodes records) (s.stopIssued records again)) := rfl
  simp only [call, h, answerStop, judgeRepair_of_inactive hinactive, causesOf, watchAfterCheck_store, hcarried]
  rfl

theorem stopIssued_eq (records : List (Nat × Rec)) (again : Bool) (s : State) : ∃ lookahead,
    s.stopIssued records again = { s with
      needle := (watchAfterCheck s).needle
      store := Store.advance records (pastLast records s.store.cursor) s.store
      planner := { s.planner with
        caps := (enterAll (functionCodes records) (watchAfterCheck s)).planner.caps
        stopPoint := if again then none else s.planner.stopPoint
        lookahead := lookahead }
      table := { s.table with engage := 0 } } := by
  obtain ⟨caps, hcaps⟩ := enterAll_watched (functionCodes records) s
  unfold State.stopIssued
  rw [hcaps]
  cases again <;> exact ⟨_, rfl⟩

/-- A cause reached at issue in a run: recorded unless it is the stop point's own, and then the calls end (R90, R93, R94). -/
theorem reachedAtIssue_inRun {s : State} (hrun : s.inRun = true) (c : Cause) (i : Nat) (again : Bool) : ∃ v, Records s v ∧
    reachedAtIssue c i again s = goBraking v ∧
    (again = true → v.run = s.run) ∧
    (again = false → s.run.state = .running → v.run = { s.run with
      state := .stopping, kind := some c.kind, report := { s.run.report with primary := some ⟨c, i, s.clock⟩ } }) := by
  by_cases hrunning : s.run.state = .running
  · cases again with
    | true => exact ⟨s, Records.refl s, by simp [reachedAtIssue, hrunning], fun _ => rfl, nofun⟩
    | false =>
      refine ⟨_, records_recordPrimary c i s, by simp [reachedAtIssue, hrunning], nofun, fun _ _ => ?_⟩
      rw [recordPrimary, setRunState_run]
      rfl
  · have hstopping : s.run.state = .stopping := by
      have hor : s.run.state = .running ∨ s.run.state = .stopping := of_decide_eq_true hrun
      exact hor.resolve_left hrunning
    cases again with
    | true => exact ⟨s, Records.refl s, by simp [reachedAtIssue, hstopping], fun _ => rfl, nofun⟩
    | false =>
      exact ⟨_, (records_appendCause c i s).trans (records_convertKind c _), by simp [reachedAtIssue, hstopping], nofun,
        fun _ h => absurd h hrunning⟩

section
variable {come : StillToCome} {s : State} {records : List (Nat × Rec)} {c : Cause} {i : Nat} {again : Bool}
  (hrun : s.inRun = true) (hrepair : s.run.repair.active = false) (hmotion : s.shaft.motion = .turning)
  (hquiet : s.shaft.quiet < s.nat .stopQuiet) (hstop : s.callOutcome = .stop records c i again)
include hrun hrepair hmotion hquiet hstop

/-- What a stop answer leaves while the shaft turns (R11, R52, R90, R93, R111, R114, R164). -/
theorem call_stops : ∃ u v, CarriesOut s.table.sewSet (s.table.sewTurn.getD 0) (s.stopIssued records again) u ∧
    u = s.stopCarried come.owed records c again ∧ Records (lowMarkTest u) v ∧
    (again = true → v.run = s.run) ∧
    (again = false → s.run.state = .running → v.run = { s.run with
      state := .stopping, kind := some c.kind, report := { s.run.report with primary := some ⟨c, i, s.clock⟩ } }) ∧
    call come s = { v with
      run := { v.run with
        phase := some .braking, inject := none
        report := { v.run.report with discarded := v.run.inject.or v.run.report.discarded } }
      planner := { v.planner with demand := 0, held := false }
      shaft := { v.shaft with line := 0, stall := none, waiting := v.shaft.waiting.or (some .atBrakeMark) } } := by
  let u := s.stopCarried come.owed records c again
  obtain ⟨lookahead, hissued⟩ := stopIssued_eq records again s
  have hcarries : CarriesOut s.table.sewSet (s.table.sewTurn.getD 0) (s.stopIssued records again) u := by
    have htable : (s.stopIssued records again).table = { s.table with engage := 0 } := by rw [hissued]
    have hcarries := (carriesOut_carryAll come.owed (s.stopIssued records again).table.sewSet
      ((s.stopIssued records again).table.sewTurn.getD 0) (functionCodes records) (s.stopIssued records again)).trans
      (carriesOut_carryTrim come.owed _ _ c _)
    rw [htable] at hcarries
    simpa only [u, State.stopCarried, htable] using hcarries
  have hbefore : (lowMarkTest u).run = s.run ∧ (lowMarkTest u).shaft = s.shaft ∧ (lowMarkTest u).params = s.params ∧
      (lowMarkTest u).clock = s.clock := by
    rw [lowMarkTest_eq, hcarries.eq, hissued]
    exact ⟨rfl, rfl, rfl, rfl⟩
  obtain ⟨hrunSame, hshaftSame, hparamsSame, hclockSame⟩ := hbefore
  obtain ⟨v, hrecords, hreached, hagain, hprimary⟩ := reachedAtIssue_inRun (s := lowMarkTest u)
    (by rw [State.inRun, hrunSame]; exact hrun) c i again
  rw [hrunSame, hclockSame] at hprimary
  have hshaft : v.shaft = s.shaft := by rw [hrecords.eq]; exact hshaftSame
  have hparams : v.params = s.params := by rw [hrecords.eq]; exact hparamsSame
  refine ⟨u, v, hcarries, rfl, hrecords, fun h => (hagain h).trans hrunSame, hprimary, ?_⟩
  rw [call_of_stop hrepair hstop, hreached, goBraking_of_turning (by rw [hshaft]; exact hmotion)]
  simpa only [hshaft, State.nat, State.par, hparams] using hquiet

/-- The stop answer of a call as R90 words it (R11, R52, R90, R93, R164). -/
theorem call_stops_spec :
    let t := call come s
    t.run.phase = some .braking ∧ t.run.inject = none ∧ t.run.outstanding = s.run.outstanding ∧
    t.table.engage = 0 ∧ t.table.sewSet = s.table.sewSet ∧ t.planner.demand = 0 ∧
    t.shaft = { s.shaft with line := 0, stall := none, waiting := s.shaft.waiting.or (some .atBrakeMark) } ∧
    t.frame = s.frame ∧
    (again = true → t.planner.stopPoint = none ∧ t.run.report.primary = s.run.report.primary ∧
      t.run.report.secondary = s.run.report.secondary ∧ t.run.kind = s.run.kind) ∧
    (again = false → s.run.state = .running → t.run.state = .stopping ∧ t.run.kind = some c.kind ∧
      t.run.report.primary = some ⟨c, i, s.clock⟩) := by
  intro t
  obtain ⟨u, v, hcarries, -, hrecords, hagain, hprimary, hcall⟩ := call_stops hrun hrepair hmotion hquiet hstop
  obtain ⟨lookahead, hissued⟩ := stopIssued_eq records again s
  have hcarried : (lowMarkTest u).run = s.run ∧ (lowMarkTest u).table = { s.table with engage := 0 } ∧
      (lowMarkTest u).planner.stopPoint = (if again then none else s.planner.stopPoint) ∧
      (lowMarkTest u).shaft = s.shaft ∧ (lowMarkTest u).frame = s.frame := by
    rw [lowMarkTest_eq, hcarries.eq, hissued]
    exact ⟨rfl, rfl, rfl, rfl, rfl⟩
  obtain ⟨hrunSame, htable, hpoint, hshaft, hframe⟩ := hcarried
  have hsame : v.table = (lowMarkTest u).table ∧ v.planner = (lowMarkTest u).planner ∧ v.shaft = (lowMarkTest u).shaft ∧
      v.frame = (lowMarkTest u).frame := by
    rw [hrecords.eq]
    exact ⟨rfl, rfl, rfl, rfl⟩
  obtain ⟨htable', hplanner', hshaft', hframe'⟩ := hsame
  have ht : t = _ := hcall
  rw [ht]
  dsimp only
  rw [htable', hplanner', hshaft', hframe', htable, hpoint, hshaft, hframe, hrecords.outstanding, hrunSame]
  refine ⟨rfl, rfl, rfl, rfl, rfl, rfl, rfl, rfl, fun h => ?_, fun h hrunning => ?_⟩
  · rw [hagain h, h]
    exact ⟨rfl, rfl, rfl, rfl⟩
  · rw [hprimary h hrunning]
    exact ⟨rfl, rfl, rfl⟩

end

/-- A COLOUR record alone and its trim (R114). -/
theorem stopCarried_colour {s : State} {k : Nat} (owed : Owed) :
    s.stopCarried owed [(k, .colour)] .colour false = carryTrim owed s.table.sewSet (s.table.sewTurn.getD 0) .colour
      (s.stopIssued [(k, .colour)] false) := by
  obtain ⟨lookahead, hissued⟩ := stopIssued_eq [(k, .colour)] false s
  have htable : (s.stopIssued [(k, .colour)] false).table = { s.table with engage := 0 } := by rw [hissued]
  rw [State.stopCarried, htable]
  rfl

/-- The stop of a COLOUR record with its colour trim (R111, R112, R113, R114). -/
theorem call_trims {s : State} {turn : Option Nat} {k i : Nat} (hrun : s.inRun = true) (hrepair : s.run.repair.active = false)
    (hmotion : s.shaft.motion = .turning) (hquiet : s.shaft.quiet < s.nat .stopQuiet)
    (hstop : s.callOutcome = .stop [(k, .colour)] .colour i false) :
    let t := call ⟨turn, []⟩ s
    t.planner.caps = s.planner.caps ∧ t.planner.stopPoint = s.planner.stopPoint ∧
    (s.nat .colourTrim = 0 → t.func = s.func ∧ t.thread = s.thread) ∧
    (∀ (code : Code) (c : Chan) (act : Act) (a0 : Nat) (hs : HeadSet) (common : Bool),
      s.nat .colourTrim = code.val → code ≠ 0 → (s.func.entry code).actions = [⟨c, act⟩] → s.angle = some a0 →
      ((hs, common) = match (s.func.entry code).scope with
        | .sewing => (s.table.sewSet, false)
        | .enabled => (headsWhere fun h => s.fitted h && decide ((s.head h).state ≠ .disabled), false)
        | .common => (headsWhere s.fitted, true)) →
      (∀ o : Chan, o ≠ c → t.func.channels[o] = s.func.channels[o]) ∧
      Channel.Takes a0 act hs common s.func.channels[c] t.func.channels[c] ∧
      ((s.func.entry code).slack = false → t.thread = s.thread) ∧
      (∀ j, (s.func.entry code).slack = true → s.table.sewTurn = some j → ∀ h : Head,
        if inSet s.table.sewSet h = true then
          (t.monitor h).holdCount = s.nat .holdoff ∧ (t.monitor h).holdFrom = j
        else t.monitor h = s.monitor h)) := by
  intro t
  obtain ⟨u, v, hcarries, hu, hrecords, -, -, hcall⟩ := call_stops (come := ⟨turn, []⟩) hrun hrepair hmotion hquiet hstop
  obtain ⟨lookahead, hissued⟩ := stopIssued_eq [(k, .colour)] false s
  have hcaps : (enterAll (functionCodes [(k, .colour)]) (watchAfterCheck s)).planner.caps = s.planner.caps := by
    rw [watchAfterCheck_eq]; rfl
  rw [hcaps] at hissued
  rw [stopCarried_colour] at hu
  have hsame : v.planner = u.planner ∧ v.func = u.func ∧ v.thread = u.thread := by
    rw [hrecords.eq, lowMarkTest_eq]
    exact ⟨rfl, rfl, rfl⟩
  have hside : t.planner.caps = u.planner.caps ∧ t.planner.stopPoint = u.planner.stopPoint ∧ t.func = u.func ∧ t.thread = u.thread := by
    have ht : t = _ := hcall
    rw [ht]
    exact ⟨by rw [hsame.1], by rw [hsame.1], hsame.2.1, hsame.2.2⟩
  obtain ⟨hcapsSame, hpointSame, hfuncSame, hthreadSame⟩ := hside
  have hmonitor (h : Head) : t.monitor h = u.monitor h := by rw [State.monitor, hthreadSame]; rfl
  simp only [hmonitor]
  have hplanner : u.planner.caps = s.planner.caps ∧ u.planner.stopPoint = s.planner.stopPoint := by
    rw [hcarries.eq, hissued]
    exact ⟨rfl, rfl⟩
  rw [hcapsSame, hpointSame, hfuncSame, hthreadSame]
  have hw : (s.stopIssued [(k, .colour)] false).params = s.params ∧ (s.stopIssued [(k, .colour)] false).func = s.func ∧
      (s.stopIssued [(k, .colour)] false).thread = s.thread ∧ (s.stopIssued [(k, .colour)] false).shaft = s.shaft ∧
      ∀ h, (s.stopIssued [(k, .colour)] false).head h = s.head h := by
    rw [hissued]
    exact ⟨rfl, rfl, rfl, rfl, fun _ => rfl⟩
  revert hw hu
  generalize s.stopIssued [(k, .colour)] false = w
  rintro hu ⟨hparams, hfunc, hthread, hshaft, hheads⟩
  have hnat (p : Param) : w.nat p = s.nat p := by simp only [State.nat, State.par, hparams]
  refine ⟨hplanner.1, hplanner.2, fun hnone => ?_, fun code c act a0 hs common hcode hne hitem hangle hcap => ?_⟩
  · rw [hu, carryTrim_of_zero ((hnat _).trans hnone)]
    exact ⟨hfunc, hthread⟩
  · rw [← captured_eq, ← captured_congr hparams fun h => by rw [hheads]] at hcap
    obtain ⟨rfl, rfl⟩ := Prod.mk.inj hcap
    have hangleW : w.angle = some a0 := (angle_congr hparams (by rw [hshaft]) (by rw [hshaft])).trans hangle
    obtain ⟨hother, htakes, hstill, hslack⟩ := carryOut_single (s := w) (code := code) s.table.sewSet (s.table.sewTurn.getD 0)
      (by rw [hfunc]; exact hitem) hangleW
    rw [hu, carryTrim_of_code ((hnat _).trans hcode) hne]
    rw [hfunc] at hother htakes hstill hslack
    refine ⟨hother, htakes, fun h => (hstill h).trans hthread, fun j h hj k => ?_⟩
    rw [hslack h k, hj, hnat, State.monitor, hthread]
    split
    · exact ⟨rfl, rfl⟩
    · rfl

end Sys2Proof.Machine
end

section
/-! PROOFS. A turn issued by a call (R12, R49, R64, R66, R111, R143, R163, R164, R173, R176): the state when every block but the
frame has taken it. -/

namespace Sys2Proof.Machine

/-! ### Head sets -/

theorem inSet_oneHead : ∀ k h : Head, inSet (oneHead k) h = decide (h = k) := by decide

/-- The heads of a set made by a test. -/
theorem inSet_headsWhere (p : Head → Bool) (h : Head) : inSet (headsWhere p) h = p h := by
  have hfold (l : List Head) : ∀ acc : HeadSet,
      inSet (l.foldl (fun acc h => if p h then acc ||| oneHead h else acc) acc) h = (inSet acc h || (decide (h ∈ l) && p h)) := by
    induction l with
    | nil => intro acc; simp
    | cons k l ih =>
      intro acc
      have hadd (hs : HeadSet) : inSet (acc ||| hs) h = (inSet acc h || inSet hs h) := BitVec.getLsbD_or
      rw [List.foldl_cons, ih]
      by_cases hk : h = k
      · subst hk
        by_cases hp : p h = true <;> simp [hp, hadd, inSet_oneHead]
      · by_cases hp : p k = true <;> simp [hp, hadd, inSet_oneHead, hk]
  rw [headsWhere, hfold]
  simp [inSet, mem_allHeads]

/-! ### The planner's part (R45, R48, R49, R50) -/

/-- The state with another needle bar, run and head table: what the planner does not read but for the run's phase and repair. -/
def State.besides (n : NeedleBar) (r : Run) (tb : HeadTable) (s : State) : State := { s with needle := n, run := r, table := tb }

theorem enterAll_besides (n : NeedleBar) (r : Run) (tb : HeadTable) : ∀ (l : List Code) (s : State),
    enterAll l (s.besides n r tb) = (enterAll l s).besides n r tb
  | [], _ => rfl
  | c :: l, s => by
    have hone : enterEffect c (s.besides n r tb) = (enterEffect c s).besides n r tb := by
      have hentry : (s.besides n r tb).func.entry c = s.func.entry c := rfl
      unfold enterEffect
      rw [hentry]
      split <;> rfl
    rw [enterAll, hone, enterAll_besides n r tb l, enterAll]

theorem planTurns_besides (n : NeedleBar) (r : Run) (tb : HeadTable) (s : State) : ∀ (l : List (Nat × Rec)) (pos : Pt) (caps : List Nat)
    (slows : List (Nat × Nat)) (room : Nat), planTurns (s.besides n r tb) l pos caps slows room = planTurns s l pos caps slows room
  | [], _, _, _, _ => rfl
  | (i, x) :: l, pos, caps, slows, room => by
    have ih := planTurns_besides n r tb s l
    simp only [planTurns, ih]
    rfl

theorem freshLookahead_besides (n : NeedleBar) (r : Run) (tb : HeadTable) (s : State) :
    (s.besides n r tb).freshLookahead = s.freshLookahead :=
  congrArg Prod.fst (planTurns_besides n r tb s _ _ _ _ _)

theorem placeLine_eq (v : Nat) (s : State) : placeLine v s = { s with shaft := (placeLine v s).shaft } := by
  unfold placeLine
  split <;> rfl

theorem placeLine_shaft (v : Nat) (s : State) : (placeLine v s).shaft =
    if s.link.restart ≠ .none ∨ v = 0 then s.shaft
    else if s.shaft.line = 0 then { s.shaft with line := v, brake := false, stall := some 0 } else { s.shaft with line := v } := by
  unfold placeLine
  split <;> rfl

/-- The demand of the turn that is issued (R48, R49, R50). -/
def State.turnDemand (s : State) : Nat :=
  s.demandFor (allowedSpeed (s.nat .rampDown) s.freshLookahead) (decide (s.run.phase = some .starting))

/-- The planner's part of an issue: the demand, held in STARTING and else on the line, and the profile one place on (R49, R50). -/
theorem planTurn_eq (s : State) : planTurn s = { s with
    planner := { s.planner with
      demand := s.turnDemand, held := decide (s.run.phase = some .starting), prev := some s.turnDemand
      caps := s.planner.caps.tail, freshAt := none }
    shaft := if s.run.phase = some .starting then s.shaft else (placeLine s.turnDemand s).shaft } := by
  unfold planTurn
  by_cases h : s.run.phase = some .starting
  · simp only [h, decide_true, if_true]
    rw [show s.demandFor (allowedSpeed (s.nat .rampDown) s.freshLookahead) true = s.turnDemand by simp only [State.turnDemand, h, decide_true]]
    rfl
  · simp only [h, decide_false, if_false, Bool.false_eq_true]
    rw [show s.demandFor (allowedSpeed (s.nat .rampDown) s.freshLookahead) false = s.turnDemand by simp only [State.turnDemand, h, decide_false]]
    rw [placeLine_eq, placeLine_shaft, placeLine_shaft]
    rfl

/-- The demand by the allowed speed, the ramp and the speeds set (R49, R50). -/
theorem demandFor_eq (s : State) (a : Nat) (first : Bool) : s.demandFor (some a) first =
    min (min (s.nat .speedSet) (min a
        (if first then s.nat .speedStart else (s.planner.prev.map fun v => v + s.nat .rampUp).getD (s.nat .speedStart))))
      (if s.run.repair.active then s.nat .speedRepair else s.nat .speedSet) := by
  have hleast (ramp : Nat) : leastOf (s.nat .speedSet)
      ((some a).toList ++ [ramp] ++ if s.run.repair.active then [s.nat .speedRepair] else []) =
      min (min (s.nat .speedSet) (min a ramp)) (if s.run.repair.active then s.nat .speedRepair else s.nat .speedSet) := by
    cases s.run.repair.active
    · simp [leastOf]
    · simp [leastOf]
  unfold State.demandFor
  cases s.planner.prev with
  | none => exact hleast _
  | some v => exact hleast _

/-! ### The end of a repair (R176) -/

section
variable (records : List (Nat × Rec)) (s : State)

theorem isRepairIssue_iff : s.isRepairIssue records = true ↔
    s.run.repair.active = true ∧ ∀ p ∈ records, p.1 < s.run.repair.resume := by
  simp [State.isRepairIssue]

/-- The repair context that an issue of these records leaves (R174, R176). -/
def State.repairAfter : Repair := if s.run.repair.active && !s.isRepairIssue records then .inactive else s.run.repair

/-- What the judging of a repair changes: the context, and the heads where repair ends (R176). -/
theorem judgeRepair_eq : ∃ heads,
    (judgeRepair records (watchAfterCheck s)).1 = s.besides (watchAfterCheck s).needle
      { s.run with repair := s.repairAfter records } { s.table with heads := heads } ∧
    (s.run.repair.active = true → s.isRepairIssue records = true → heads = s.table.heads) ∧
    (s.run.repair.active = false → heads = s.table.heads) := by
  have hwatch := watchAfterCheck_eq s
  unfold judgeRepair State.repairAfter
  rw [show (watchAfterCheck s).isRepairIssue records = s.isRepairIssue records by rw [hwatch]; rfl,
    show (watchAfterCheck s).run = s.run by rw [hwatch]]
  split
  · next h =>
    obtain ⟨heads, hend⟩ := endRepair_frame (watchAfterCheck s)
    refine ⟨heads, ?_, fun ha hr => ?_, fun ha => ?_⟩
    · rw [hend, hwatch]
      rfl
    · simp [ha, hr] at h
    · simp [ha] at h
  · exact ⟨s.table.heads, hwatch, fun _ _ => rfl, fun _ => rfl⟩

/-- With room in every gap list the end of a repair lists no head (R165, R176). -/
theorem judgeRepair_none (hroom : s.run.repair.active = true → ∀ h : Head, (s.head h).gaps.length < 8) :
    (judgeRepair records (watchAfterCheck s)).2 = [] := by
  have hwatch := watchAfterCheck_eq s
  unfold judgeRepair
  split
  · next h =>
    have hactive : s.run.repair.active = true := by
      rw [hwatch] at h
      exact (Bool.and_eq_true_iff.mp h).1
    have hheads (k : Head) : ((watchAfterCheck s).modRun fun r => { r with repair := .inactive }).head k = s.head k := by
      rw [hwatch]; rfl
    have hlisted := (openAtRepairEnd_eq ((watchAfterCheck s).modRun fun r => { r with repair := .inactive })
      (watchAfterCheck s).run.repair.resume allHeads (by decide) _ (fun _ _ => rfl) rfl rfl).1
    refine hlisted.trans (List.filter_eq_nil_iff.mpr fun k _ hk => ?_)
    obtain ⟨-, hfull⟩ := Bool.and_eq_true_iff.mp hk
    have hlength := ((openGapAt_eq_none _ _).mp (Option.isNone_iff_eq_none.mp hfull)).2
    rw [hheads] at hlength
    exact absurd hlength (Nat.not_le.mpr (hroom hactive k))
  · rfl

/-- The state once repair has been judged and the demand computed (R49, R176). -/
def State.planned (codes : List Code) : State := planTurn (enterAll codes (judgeRepair records (watchAfterCheck s)).1)

/-- What the planner's part of an issue leaves (R45, R49, R50, R176). -/
theorem planned_eq (codes : List Code) : ∃ heads d,
    s.planned records codes = { s with
      needle := (watchAfterCheck s).needle
      run := { s.run with repair := s.repairAfter records }
      table := { s.table with heads := heads }
      planner := { s.planner with
        demand := d, held := decide (s.run.phase = some .starting), prev := some d
        caps := (enterAll codes s).planner.caps.tail, freshAt := none }
      shaft := if s.run.phase = some .starting then s.shaft else (placeLine d s).shaft } ∧
    (s.run.repair.active = true → s.isRepairIssue records = true → heads = s.table.heads) ∧
    (s.run.repair.active = false → heads = s.table.heads) ∧
    (∀ a, s.isRepairIssue records = true ∨ s.run.repair.active = false →
      allowedSpeed (s.nat .rampDown) (enterAll codes s).freshLookahead = some a →
      d = min (min (s.nat .speedSet) (min a (if s.run.phase = some .starting then s.nat .speedStart
          else (s.planner.prev.map fun v => v + s.nat .rampUp).getD (s.nat .speedStart))))
        (if s.run.repair.active then s.nat .speedRepair else s.nat .speedSet)) := by
  obtain ⟨heads, hjudge, hissue, houtside⟩ := judgeRepair_eq records s
  let w := s.besides (watchAfterCheck s).needle { s.run with repair := s.repairAfter records } { s.table with heads := heads }
  obtain ⟨x, hx, hbesides, hcaps⟩ : ∃ x, s.planned records codes = planTurn x ∧
      x = (enterAll codes s).besides (watchAfterCheck s).needle { s.run with repair := s.repairAfter records } { s.table with heads := heads } ∧
      x = w.withCaps (enterAll codes s).planner.caps :=
    ⟨_, by rw [State.planned, hjudge, enterAll_besides], rfl, congrArg (State.besides _ _ _) (enterAll_eq codes s)⟩
  refine ⟨heads, x.turnDemand, ?_, hissue, houtside, fun a hsame ha => ?_⟩
  · rw [hx, planTurn_eq, placeLine_shaft, placeLine_shaft]
    generalize x.turnDemand = d
    rw [hcaps]
    rfl
  · have hlist : x.freshLookahead = (enterAll codes s).freshLookahead := by rw [hbesides, freshLookahead_besides]
    have hactive : x.run.repair.active = s.run.repair.active := by
      rw [hcaps]
      change (s.repairAfter records).active = s.run.repair.active
      unfold State.repairAfter
      rcases hsame with hissue | hinactive
      · rw [hissue]; simp
      · rw [hinactive]; simp [hinactive]
    have hrest : x.params = s.params ∧ x.run.phase = s.run.phase ∧ x.planner.prev = s.planner.prev := by
      rw [hcaps]
      exact ⟨rfl, rfl, rfl⟩
    obtain ⟨hparams, hphase, hprev⟩ := hrest
    have hnat (p : Param) : x.nat p = s.nat p := by simp only [State.nat, State.par, hparams]
    rw [State.turnDemand, hlist, hnat, ha, demandFor_eq, hactive, hprev, hphase]
    simp only [hnat, decide_eq_true_eq]

end

end Sys2Proof.Machine
end

section
/-! PROOFS. The sew set of an issued turn, the monitors it is reported to, and the functions carried out with it (R111, R143, R163, R164,
R166, R168, R173). -/

namespace Sys2Proof.Machine

/-! ### Gaps closed at an issued turn (R166, R168) -/

/-- What the closing of gaps changes: the heads, none of whose states, and retire with the records below it. -/
def ClosesGaps (s t : State) : Prop :=
  ∃ heads r, t = s.retiredWith heads r ∧ s.store.retire ≤ r ∧ ∀ h : Head, (t.head h).state = (s.head h).state

theorem closesGaps_refl (s : State) : ClosesGaps s s := ⟨_, _, retiredWith_self s, le_rfl, fun _ => rfl⟩

theorem ClosesGaps.trans {s t u : State} (h : ClosesGaps s t) (h' : ClosesGaps t u) : ClosesGaps s u := by
  obtain ⟨hd, r, ht, hr, hstate⟩ := h
  obtain ⟨hd', r', hu, hr', hstate'⟩ := h'
  have hretire : t.store.retire = r := by rw [ht]; rfl
  rw [hretire] at hr'
  refine ⟨hd', r', ?_, hr.trans hr', fun k => (hstate' k).trans (hstate k)⟩
  rw [hu, ht, retiredWith_trans s hd hd' hr hr']

theorem closesGaps_modHead (h : Head) (f : HeadEntry → HeadEntry) (hf : ∀ e, (f e).state = e.state) (s : State) :
    ClosesGaps s (s.modHead h f) := by
  refine ⟨(s.modHead h f).table.heads, s.store.retire, ?_, le_rfl, fun k => ?_⟩
  · simp [State.retiredWith, State.modHead, State.modTable]
  · rw [State.modHead_head]
    split
    · next e => rw [e]; exact hf _
    · rfl

theorem closesGaps_closePending (c : Nat) (h : Head) (s : State) : ClosesGaps s (closePending c h s) := by
  have hretain (b : Bool) (u : State) : ClosesGaps u (retainIf b u) := by
    cases b with
    | false => exact closesGaps_refl u
    | true =>
      exact ⟨_, _, runRetention_eq u, (Nat.le_max_left _ _).trans (Nat.le_of_eq (runRetention_retire u).symm), fun _ => rfl⟩
  unfold closePending
  split
  · exact ((closesGaps_modHead h (fun e => { e with gaps := closeGapAt c (s.head h).gaps }) (fun _ => rfl) s).trans
      (hretain _ _)).trans (closesGaps_modHead h (fun e => { e with closing := false }) (fun _ => rfl) _)
  · exact closesGaps_refl s

theorem closesGaps_closeAtTurn (t : Nat) (sewSet : HeadSet) : ∀ (l : List Head) (s : State), ClosesGaps s (closeAtTurn t sewSet l s)
  | [], s => closesGaps_refl s
  | h :: l, s => by
    have hone : ClosesGaps s (if inSet sewSet h then closePending t h s else s) := by
      split
      · exact closesGaps_closePending t h s
      · exact closesGaps_refl s
    exact hone.trans (closesGaps_closeAtTurn t sewSet l _)

/-! ### The bundle at the heads and the monitors (R12, R143, R163, R164) -/

/-- What an issued turn changes at the heads and the monitors: the sew set with its turn and its engagement, the gaps closed there, and
the report to the monitors of a STITCH. -/
theorem engageTurn_eq (x : Turn) (s : State) : ∃ heads r monitors,
    engageTurn x s = { s with
      table := { s.table with heads := heads, sewSet := x.sewSet, sewTurn := some x.index, engage := x.sewSet }
      store := { s.store with retire := r, records := s.store.records.drop (r - s.store.retire) }
      thread := { s.thread with monitors := monitors } } ∧
    (∀ h : Head, ((engageTurn x s).head h).state = (s.head h).state) ∧
    (∀ h : Head, (engageTurn x s).monitor h = if x.jump then s.monitor h
      else (s.monitor h).turnReport (s.nat .holdoff) x.index (inSet x.sewSet h)) := by
  obtain ⟨heads, r, hclosed, -, hstate⟩ := closesGaps_closeAtTurn x.index x.sewSet allHeads
    (s.modTable fun tb => { tb with sewSet := x.sewSet, sewTurn := some x.index, engage := x.sewSet })
  have hengaged : engageTurn x s = if x.jump then closeAtTurn x.index x.sewSet allHeads
      (s.modTable fun tb => { tb with sewSet := x.sewSet, sewTurn := some x.index, engage := x.sewSet })
    else reportTurn x.index x.sewSet (closeAtTurn x.index x.sewSet allHeads
      (s.modTable fun tb => { tb with sewSet := x.sewSet, sewTurn := some x.index, engage := x.sewSet })) := rfl
  rw [hengaged]
  revert hclosed hstate
  generalize closeAtTurn x.index x.sewSet allHeads _ = v
  intro hclosed hstate
  by_cases hjump : x.jump = true
  · simp only [hjump, if_true]
    refine ⟨heads, r, s.thread.monitors, ?_, hstate, fun h => ?_⟩
    · rw [hclosed]; rfl
    · rw [hclosed]; rfl
  · simp only [hjump, if_false, Bool.false_eq_true]
    refine ⟨heads, r, (reportTurn x.index x.sewSet v).thread.monitors, ?_, hstate, fun h => ?_⟩
    · subst hclosed
      rfl
    · rw [reportTurn, State.modMonitors_monitor, hclosed]
      rfl

/-- A monitor after the report of a STITCH turn, with a holdoff restart from that turn or without one (R113, R143, R150). -/
theorem turnReport_spec {m m' : Monitor} {n t : Nat} {sews : Bool}
    (h : m' = m.turnReport n t sews ∨ sews = true ∧ m' = (m.turnReport n t sews).holdFromIndex n t) :
    m'.member = sews ∧ m'.gatherings = m.gatherings ++ (if sews = true then [⟨t, 0, .notYet, none⟩] else []) ∧
    (m.member = false → sews = true → m'.holdCount = n ∧ m'.holdFrom = t) ∧
    (m.member ≠ sews → m'.breakRun = 0 ∧ m'.window = [] ∧ m'.stuckRun = 0 ∧ m'.railRun = 0) := by
  cases hm : m.member with
  | true =>
    cases sews with
    | true =>
      have hr : m.turnReport n t true = m.openGathering t := by simp [Monitor.turnReport, hm]
      rcases h with rfl | ⟨-, rfl⟩ <;> simp [hr, Monitor.openGathering, Monitor.holdFromIndex, hm]
    | false =>
      have hr : m.turnReport n t false = { m.cleared with member := false } := by simp [Monitor.turnReport, hm]
      rcases h with rfl | ⟨hs, -⟩
      · simp [hr, Monitor.cleared]
      · cases hs
  | false =>
    cases sews with
    | true =>
      have hr : m.turnReport n t true = { (m.cleared.holdFromIndex n t).openGathering t with member := true } := by
        simp [Monitor.turnReport, hm]
      rcases h with rfl | ⟨-, rfl⟩ <;> simp [hr, Monitor.openGathering, Monitor.holdFromIndex, Monitor.cleared]
    | false =>
      have hr : m.turnReport n t false = m := by simp [Monitor.turnReport, hm]
      rcases h with rfl | ⟨hs, -⟩
      · simp [hr, hm]
      · cases hs

/-! ### The issued state (R12, R111) -/

section
variable (come : StillToCome) (records : List (Nat × Rec)) (i : Nat) (r : Rec) (s : State)

/-- The codes an issue carries out: the pending inject's and those of its FUNCTION records (R104, R111). -/
def State.issueCodes : List Code := s.run.inject.toList ++ functionCodes records

/-- The turn bundle's part that the blocks keep: the turn, its kind, and its sew set (R12, R163, R173). -/
def State.bundle : Turn :=
  ⟨i, r.isJump, (s.planned records (s.issueCodes records)).formSewSet r.isJump (s.isRepairIssue records) i come.turn⟩

/-- The issued turn at the heads, the monitors and the run (R12, R89, R104). -/
def State.engaged : State :=
  (engageTurn (s.bundle come records i r)
      (rebuild ((s.planned records (s.issueCodes records)).modStore (Store.advance records (i + 1))))).modRun
    fun x => { x with outstanding := some (s.bundle come records i r), inject := none }

/-- The issued turn at every block but the frame (R12, R20, R111). -/
def State.issued : State :=
  lowMarkTest (carryAll come.owed (s.bundle come records i r).sewSet i (s.issueCodes records) (s.engaged come records i r))

/-- A call that answers a turn: the frame's part, and the causes that the issue itself raised (R64, R66, R104, R176). -/
theorem call_of_turn (h : s.callOutcome = .turn records i r) : call come s =
    let t := causesOf s.run.repair.resume (judgeRepair records (watchAfterCheck s)).2
      (moveFrame (s.bundle come records i r) (s.issued come records i r))
    if (watchAfterCheck s).injectStops then takeCause .injectStop i t else t := by
  have hrun : (watchAfterCheck s).run = s.run := by rw [watchAfterCheck_eq]
  have hissue : (watchAfterCheck s).isRepairIssue records = s.isRepairIssue records := by simp only [State.isRepairIssue, hrun]
  have hcodes : (watchAfterCheck s).injectCodes = s.run.inject.toList := by simp only [State.injectCodes, hrun]
  simp only [call, h, issueTurn, hrun, hissue, hcodes]
  rfl

/-- The state when every block but the frame has taken an issued turn, d being the turn's demand (R12, R20, R45, R49, R50, R111). -/
theorem issued_eq : ∃ heads d retire lowArmed lookahead channels monitors notices,
    s.issued come records i r = { s with
      needle := (watchAfterCheck s).needle
      run := { s.run with
        repair := s.repairAfter records, outstanding := some (s.bundle come records i r), inject := none }
      table := { s.table with
        heads := heads, sewSet := (s.bundle come records i r).sewSet, sewTurn := some i, engage := (s.bundle come records i r).sewSet }
      store := { Store.advance records (i + 1) s.store with
        retire := retire, records := s.store.records.drop (retire - s.store.retire), lowArmed := lowArmed }
      planner := { s.planner with
        demand := d, held := decide (s.run.phase = some .starting), prev := some d
        caps := (enterAll (s.issueCodes records) s).planner.caps.tail, freshAt := none, lookahead := lookahead }
      shaft := if s.run.phase = some .starting then s.shaft else (placeLine d s).shaft
      func := { s.func with channels := channels }
      thread := { s.thread with monitors := monitors }
      notices := notices } ∧
    (∀ a, s.isRepairIssue records = true ∨ s.run.repair.active = false →
      allowedSpeed (s.nat .rampDown) (enterAll (s.issueCodes records) s).freshLookahead = some a →
      d = min (min (s.nat .speedSet) (min a (if s.run.phase = some .starting then s.nat .speedStart
          else (s.planner.prev.map fun v => v + s.nat .rampUp).getD (s.nat .speedStart))))
        (if s.run.repair.active then s.nat .speedRepair else s.nat .speedSet)) := by
  obtain ⟨heads, d, hplanned, -, -, hdemand⟩ := planned_eq records s (s.issueCodes records)
  obtain ⟨heads', retire, monitors, hengaged, -, -⟩ := engageTurn_eq (s.bundle come records i r)
    (rebuild ((s.planned records (s.issueCodes records)).modStore (Store.advance records (i + 1))))
  have hcarries := carriesOut_carryAll come.owed (s.bundle come records i r).sewSet i (s.issueCodes records) (s.engaged come records i r)
  have hissued : s.issued come records i r = lowMarkTest (carryAll come.owed (s.bundle come records i r).sewSet i (s.issueCodes records)
    (s.engaged come records i r)) := rfl
  revert hcarries hissued
  generalize carryAll come.owed (s.bundle come records i r).sewSet i (s.issueCodes records) (s.engaged come records i r) = u
  intro hcarries hissued
  obtain ⟨lookahead, hstart⟩ : ∃ lookahead, s.engaged come records i r = { s with
      needle := (watchAfterCheck s).needle
      run := { s.run with
        repair := s.repairAfter records, outstanding := some (s.bundle come records i r), inject := none }
      table := { s.table with
        heads := heads', sewSet := (s.bundle come records i r).sewSet, sewTurn := some i, engage := (s.bundle come records i r).sewSet }
      store := { Store.advance records (i + 1) s.store with
        retire := retire, records := s.store.records.drop (retire - s.store.retire) }
      planner := { s.planner with
        demand := d, held := decide (s.run.phase = some .starting), prev := some d
        caps := (enterAll (s.issueCodes records) s).planner.caps.tail, freshAt := none, lookahead := lookahead }
      shaft := if s.run.phase = some .starting then s.shaft else (placeLine d s).shaft
      thread := { s.thread with monitors := monitors } } := by
    rw [State.engaged, hengaged, hplanned]
    exact ⟨_, rfl⟩
  rw [hstart] at hcarries
  refine ⟨heads', d, retire, (lowMarkTest u).store.lowArmed, lookahead, u.func.channels, u.thread.monitors, (lowMarkTest u).notices,
    ?_, hdemand⟩
  rw [hissued, lowMarkTest_eq, hcarries.eq]

/-- The sew set of an issued turn (R163, R173). -/
theorem bundle_sewSet :
    (r.isJump = true → (s.bundle come records i r).sewSet = 0) ∧
    (r.isJump = false → s.run.repair.active = false → ∀ h : Head,
      (inSet (s.bundle come records i r).sewSet h = true ↔ s.fitted h = true ∧ (s.head h).state = .active)) ∧
    (r.isJump = false → s.isRepairIssue records = true → ∀ h : Head,
      (inSet (s.bundle come records i r).sewSet h = true ↔ s.fitted h = true ∧ (s.head h).state = .active ∧
        inSet s.run.repair.selection h = true ∧ repairPoint s.store.held (s.head h).gaps come.turn = some i)) := by
  obtain ⟨heads, d, hplanned, hissue, houtside, -⟩ := planned_eq records s (s.issueCodes records)
  have hset : (s.bundle come records i r).sewSet =
      (s.planned records (s.issueCodes records)).formSewSet r.isJump (s.isRepairIssue records) i come.turn := rfl
  have hactive (hheads : heads = s.table.heads) (h : Head) :
      (s.planned records (s.issueCodes records)).isActive h = s.isActive h := by
    rw [hplanned, hheads]; rfl
  rw [hset]
  refine ⟨fun hjump => by simp [State.formSewSet, hjump], fun hjump hinactive h => ?_, fun hjump hrepair h => ?_⟩
  · have hno : s.isRepairIssue records = false := by simp [State.isRepairIssue, hinactive]
    simp only [State.formSewSet, hjump, hno, Bool.false_eq_true, if_false, inSet_headsWhere, hactive (houtside hinactive)]
    simp [State.isActive]
  · have hruns := ((isRepairIssue_iff records s).mp hrepair).1
    have hkept : s.repairAfter records = s.run.repair := by simp [State.repairAfter, hrepair]
    have hsame : (s.planned records (s.issueCodes records)).run.repair = s.run.repair ∧
        (s.planned records (s.issueCodes records)).store = s.store ∧
        (s.planned records (s.issueCodes records)).head h = s.head h := by
      rw [hplanned, hissue hruns hrepair, hkept]
      exact ⟨rfl, rfl, rfl⟩
    simp only [State.formSewSet, hjump, hrepair, Bool.false_eq_true, if_false, if_true, inSet_headsWhere,
      hactive (hissue hruns hrepair), hsame.1, hsame.2.1, hsame.2.2]
    simp [State.isActive, and_assoc]

/-- The monitors after an issue: unchanged by a JUMP, and by a STITCH reported to, with a holdoff restart at most at those that sew
(R113, R143). -/
theorem issued_monitor (h : Head) :
    (r.isJump = true → (s.issued come records i r).monitor h = s.monitor h) ∧
    (r.isJump = false →
      let reported := (s.monitor h).turnReport (s.nat .holdoff) i (inSet (s.bundle come records i r).sewSet h)
      (s.issued come records i r).monitor h = reported ∨
      inSet (s.bundle come records i r).sewSet h = true ∧
        (s.issued come records i r).monitor h = reported.holdFromIndex (s.nat .holdoff) i) := by
  obtain ⟨heads, d, hplanned, -, -, -⟩ := planned_eq records s (s.issueCodes records)
  obtain ⟨heads', retire, monitors, hengaged, -, hmonitor⟩ := engageTurn_eq (s.bundle come records i r)
    (rebuild ((s.planned records (s.issueCodes records)).modStore (Store.advance records (i + 1))))
  have hlow (u : State) : (lowMarkTest u).monitor h = u.monitor h := by rw [lowMarkTest_eq]; rfl
  have hplannedSame : (s.planned records (s.issueCodes records)).monitor h = s.monitor h ∧
      (s.planned records (s.issueCodes records)).nat .holdoff = s.nat .holdoff := by
    rw [hplanned]; exact ⟨rfl, rfl⟩
  have hstart : (s.engaged come records i r).monitor h = if r.isJump then s.monitor h
      else (s.monitor h).turnReport (s.nat .holdoff) i (inSet (s.bundle come records i r).sewSet h) := by
    rw [← hplannedSame.1, ← hplannedSame.2]
    exact hmonitor h
  have hholdoff : (s.engaged come records i r).nat .holdoff = s.nat .holdoff := by
    rw [State.engaged, hengaged, ← hplannedSame.2]; rfl
  have hcarried := (carriesOut_carryAll come.owed (s.bundle come records i r).sewSet i (s.issueCodes records)
    (s.engaged come records i r)).monitor h
  rw [hholdoff, hstart, ← hlow] at hcarried
  refine ⟨fun hjump => ?_, fun hjump => ?_⟩
  · have hnone : inSet (s.bundle come records i r).sewSet h = false := by
      rw [(bundle_sewSet come records i r s).1 hjump]; simp [inSet]
    rw [hjump, hnone] at hcarried
    simp only [if_true, Bool.false_eq_true, false_and, or_false] at hcarried
    exact hcarried
  · rw [hjump] at hcarried
    exact hcarried

end

end Sys2Proof.Machine
end

section
/-! PROOFS. The frame's part of an issued turn, in SEWING and at the first call, and the causes that follow it (R64, R66, R87, R88, R104,
R176). -/

namespace Sys2Proof.Machine

/-- What the frame's part of an issue, and a stop asked for at it, leave of the issued turn. -/
structure Moved (u t : State) : Prop where
  table : t.table = u.table
  thread : t.thread = u.thread
  func : t.func = u.func
  outstanding : t.run.outstanding = u.run.outstanding
  inject : t.run.inject = u.run.inject
  repair : t.run.repair = u.run.repair
  caps : t.planner.caps = u.planner.caps
  demand : t.planner.demand = u.planner.demand
  prev : t.planner.prev = u.planner.prev

theorem AsksStop.moved {s t : State} (h : AsksStop s t) : Moved s t :=
  ⟨by rw [h.eq], by rw [h.eq], by rw [h.eq], h.outstanding, h.inject, h.repair, h.caps, h.demand, h.prev⟩

theorem Moved.trans {s t u : State} (h : Moved s t) (h' : Moved t u) : Moved s u :=
  ⟨h'.table.trans h.table, h'.thread.trans h.thread, h'.func.trans h.func, h'.outstanding.trans h.outstanding, h'.inject.trans h.inject,
    h'.repair.trans h.repair, h'.caps.trans h.caps, h'.demand.trans h.demand, h'.prev.trans h.prev⟩

section
variable {come : StillToCome} {records : List (Nat × Rec)} {i : Nat} {r : Rec} {s : State}

/-- The design point past the records of an issue (R11, R60). -/
theorem issued_designPoint {d : Pt} (h : s.callOutcome = .turn records i r) (hd : r.move = some d) :
    (s.issued come records i r).designPoint = s.designPoint.add d := by
  obtain ⟨-, -, -, -, zero, rfl, hzero⟩ := callOutcome_turn_spec h
  obtain ⟨heads, e, retire, low, look, chans, mons, nots, hissued, -⟩ := issued_eq come (zero ++ [(i, r)]) i r s
  rw [hissued]
  have hzeros : travel (zero.map Prod.snd) = .zero := travel_of_zero_turns fun x hx => by
    obtain ⟨p, hp, rfl⟩ := List.mem_map.mp hx
    exact (hzero p hp).1
  change s.store.origin.add ((zero ++ [(i, r)]).foldl _ s.store.cursorPos) = _
  rw [foldl_moves, List.map_append, travel_append, hzeros]
  simp only [List.map_cons, List.map_nil, travel, hd, Option.getD_some, Pt.zero_add, Pt.add_zero]
  rw [State.designPoint, Pt.add_assoc]

/-- What of the issued state the frame's part reads (R64, R66). -/
theorem issued_frame : (s.issued come records i r).run.phase = s.run.phase ∧ (s.issued come records i r).run.state = s.run.state ∧
    (s.issued come records i r).run.work = s.run.work ∧ (s.issued come records i r).frame = s.frame ∧
    (s.issued come records i r).params = s.params ∧ (s.issued come records i r).link = s.link ∧
    (s.issued come records i r).planner.tableX = s.planner.tableX ∧ (s.issued come records i r).planner.tableY = s.planner.tableY ∧
    (s.issued come records i r).clock = s.clock ∧
    (s.issued come records i r).planner.held = decide (s.run.phase = some .starting) ∧
    (s.issued come records i r).run.outstanding = some (s.bundle come records i r) ∧
    ((s.run.phase = some .starting → (s.issued come records i r).shaft = s.shaft)) ∧
    (s.run.phase ≠ some .starting →
      (s.issued come records i r).shaft = (placeLine (s.issued come records i r).planner.demand s).shaft) := by
  obtain ⟨heads, e, retire, low, look, chans, mons, nots, hissued, -⟩ := issued_eq come records i r s
  rw [hissued]
  exact ⟨rfl, rfl, rfl, rfl, rfl, rfl, rfl, rfl, rfl, rfl, rfl, fun h => if_pos h, fun h => if_neg h⟩

theorem bundle_index : (s.bundle come records i r).index = i := rfl

/-- In SEWING the turn's move begins, and the causes of the issue ask for a stop (R53, R64, R104, R176). -/
theorem call_turn_sewing (hphase : s.run.phase = some .sewing) (h : s.callOutcome = .turn records i r) :
    AsksStop (beginTurnMove i r.isJump (s.issued come records i r).designPoint (s.issued come records i r)) (call come s) := by
  have hmove : moveFrame (s.bundle come records i r) (s.issued come records i r) =
      beginTurnMove i r.isJump (s.issued come records i r).designPoint (s.issued come records i r) := by
    have hne : (s.issued come records i r).run.phase ≠ some .starting := by
      rw [issued_frame.1, hphase]; decide
    exact if_neg hne
  rw [call_of_turn come records i r s h, hmove]
  have hsewing : (beginTurnMove i r.isJump (s.issued come records i r).designPoint (s.issued come records i r)).run.phase = some .sewing := by
    rw [beginTurnMove_eq]
    exact issued_frame.1.trans hphase
  have hcauses := causesOf_asksStop s.run.repair.resume (judgeRepair records (watchAfterCheck s)).2 hsewing
  dsimp only
  split
  · exact hcauses.trans (takeCause_asksStop rfl (hcauses.phase.trans hsewing) i)
  · exact hcauses

/-- The frame's move of a turn issued in SEWING (R64). -/
theorem call_turn_sewing_frame {d : Pt} (hphase : s.run.phase = some .sewing) (h : s.callOutcome = .turn records i r)
    (hd : r.move = some d) :
    let target := s.designPoint.add d
    let l := s.stepsBetween s.settledFrame.coord target
    let m : Move := ⟨.turnMove, target, target, l.1, l.2, some i, r.isJump, none⟩
    let t := call come s
    (l = (0, 0) → t.frame = { s.settledFrame with coord := target, move := none, late := none }) ∧
    (l ≠ (0, 0) → t.frame = { s.settledFrame.lay m with late := some (if r.isJump then .jumpEnd else .windowEnd) }) := by
  intro target l m t
  obtain ⟨-, -, -, hframe, hparams, -⟩ := issued_frame (come := come) (records := records) (i := i) (r := r) (s := s)
  have hsteps (a b : Pt) : (s.issued come records i r).stepsBetween a b = s.stepsBetween a b := by
    simp only [State.stepsBetween, State.par, hparams]
  have hsettled : (s.issued come records i r).settledFrame = s.settledFrame := by simp only [State.settledFrame, hframe]
  have ht : t.frame = (beginTurnMove i r.isJump (s.issued come records i r).designPoint (s.issued come records i r)).frame := by
    simp only [t]; rw [(call_turn_sewing hphase h).eq]
  rw [ht, beginTurnMove_eq, issued_designPoint h hd]
  dsimp only
  rw [hsteps, hsettled]
  exact ⟨fun hl => if_pos hl, fun hl => if_neg hl⟩

/-- The phase stays SEWING, and the shaft's line after an issue is the demand, unless a RESTART has been taken (R33, R49, R194). -/
theorem call_turn_sewing_line (hphase : s.run.phase = some .sewing) (h : s.callOutcome = .turn records i r) :
    let t := call come s
    t.run.phase = some .sewing ∧ t.planner.held = false ∧ (s.link.restart = .none → 0 < t.planner.demand → t.shaft.line = t.planner.demand) := by
  intro t
  obtain ⟨-, -, -, -, -, -, -, -, -, hheld, -, -, hshaft⟩ :=
    issued_frame (come := come) (records := records) (i := i) (r := r) (s := s)
  have hasks : AsksStop _ t := call_turn_sewing hphase h
  have hne : s.run.phase ≠ some .starting := by rw [hphase]; decide
  have hmoved : (beginTurnMove i r.isJump (s.issued come records i r).designPoint (s.issued come records i r)).planner =
      (s.issued come records i r).planner := by rw [beginTurnMove_eq]
  have hmovedShaft : (beginTurnMove i r.isJump (s.issued come records i r).designPoint (s.issued come records i r)).shaft =
      (s.issued come records i r).shaft := by rw [beginTurnMove_eq]
  have ht : t.shaft = (s.issued come records i r).shaft := by rw [hasks.eq]; exact hmovedShaft
  refine ⟨?_, ?_, fun hrestart hpos => ?_⟩
  · rw [hasks.phase, beginTurnMove_eq]
    exact issued_frame.1.trans hphase
  · rw [hasks.held, hmoved, hheld]
    exact decide_eq_false hne
  · rw [hasks.demand, hmoved] at hpos ⊢
    rw [ht, hshaft hne]
    exact placeLine_line hrestart (Nat.ne_of_gt hpos)

/-! ### The first call of a run (R50, R66, R87, R88) -/

section
variable (hstops : ∀ c, s.run.inject = some c → (s.func.entry c).effect ≠ .stopAfter)
  (hroom : s.run.repair.active = true → ∀ h : Head, (s.head h).gaps.length < 8)
include hstops hroom

/-- With no inject that stops and room in every gap list, an issue brings no cause of its own (R104, R176). -/
theorem call_turn_quiet (h : s.callOutcome = .turn records i r) :
    call come s = moveFrame (s.bundle come records i r) (s.issued come records i r) := by
  have hwatch := watchAfterCheck_eq s
  have hstop : (watchAfterCheck s).injectStops = false := by
    have hsame : (watchAfterCheck s).injectStops = s.injectStops := by rw [hwatch]; rfl
    rw [hsame, State.injectStops, State.injectCodes]
    cases hinject : s.run.inject with
    | none => rfl
    | some c => simpa using hstops c hinject
  rw [call_of_turn come records i r s h, judgeRepair_none records s hroom, hstop]
  rfl

variable (hphase : s.run.phase = some .starting) {d : Pt} (h : s.callOutcome = .turn records i r) (hd : r.move = some d)
include hphase h hd

/-- The first move is laid out where the frame is off its target (R63, R66, R87). -/
theorem call_turn_firstMove (hup : s.shaft.needleUp = true) (hoff : s.settledFrame.coord ≠ s.designPoint.add d) :
    ∃ m, call come s = { s.issued come records i r with
        frame := s.settledFrame.lay m, run := { (s.issued come records i r).run with work := some .firstMove } } ∧
      s.LaysChunk .firstMove s.settledFrame.coord (s.designPoint.add d) m ∧ m.turn = some i ∧ m.abort = none := by
  obtain ⟨hphase', -, -, hframe, hparams, -, htabX, htabY, -, -, -, hshaft, -⟩ :=
    issued_frame (come := come) (records := records) (i := i) (r := r) (s := s)
  have hsettled : (s.issued come records i r).settledFrame = s.settledFrame := by simp only [State.settledFrame, hframe]
  have hup' : (s.issued come records i r).shaft.needleUp = true := by rw [hshaft hphase]; exact hup
  have hpoint := issued_designPoint (come := come) h hd
  obtain ⟨m, hm, habort, hturn, hlays⟩ := beginChunked_lays (s := s.issued come records i r) (p := .firstMove)
    (target := (s.issued come records i r).designPoint) (turn := some i) (by rw [hsettled, hpoint]; exact hoff)
  rw [hsettled, hpoint] at hlays
  refine ⟨m, ?_, laysChunk_congr hparams htabX htabY hlays, hturn, habort⟩
  rw [call_turn_quiet hstops hroom h, moveFrame]
  dsimp only
  rw [if_pos (hphase'.trans hphase), if_neg (not_not.mpr hup'), bundle_index, hm, hsettled]
  rfl

/-- With the frame at the target the phase is SEWING at once and the held demand goes onto the line (R50, R66, R87). -/
theorem call_turn_atTarget (hstate : s.run.state = .running) (hup : s.shaft.needleUp = true) (hat : s.settledFrame.coord = s.designPoint.add d) :
    call come s = { s.issued come records i r with
      frame := s.settledFrame
      run := { (s.issued come records i r).run with phase := some .sewing, work := none }
      planner := { (s.issued come records i r).planner with held := false }
      shaft := (placeLine (s.issued come records i r).planner.demand s).shaft } := by
  obtain ⟨hphase', hstate', -, hframe, -, hlink, -, -, -, hheld, -, hshaft, -⟩ :=
    issued_frame (come := come) (records := records) (i := i) (r := r) (s := s)
  have hsettled : (s.issued come records i r).settledFrame = s.settledFrame := by simp only [State.settledFrame, hframe]
  have hup' : (s.issued come records i r).shaft.needleUp = true := by rw [hshaft hphase]; exact hup
  have hpoint := issued_designPoint (come := come) h hd
  have hdone : beginChunked .firstMove (s.issued come records i r).designPoint (some i) (s.issued come records i r) =
      ({ s.issued come records i r with frame := s.settledFrame }, true) := by
    rw [beginChunked_eq, if_pos (by rw [hsettled, hpoint]; exact hat), turnMoveEnds_eq, hsettled]
  rw [call_turn_quiet hstops hroom h, moveFrame]
  dsimp only
  rw [if_pos (hphase'.trans hphase), if_neg (not_not.mpr hup'), bundle_index, hdone]
  have hrunning : (s.issued come records i r).run.state = .running := hstate'.trans hstate
  have hholds : (s.issued come records i r).planner.held = true := by rw [hheld, hphase]; rfl
  simp only [if_true, firstMoveComplete, hrunning, State.modRun, hholds, State.modPlanner]
  rw [placeLine_eq, placeLine_shaft, placeLine_shaft, hlink, hshaft hphase]

end

end

end Sys2Proof.Machine
end

section
/-! PROOFS. The first call with the needle down: MOVE_LATE ends the start, and with the shaft at rest the stop ends at once (R34, R66,
R88, R93, R96). -/

namespace Sys2Proof.Machine

theorem closesGaps_closeAllPending (c : Nat) : ∀ (l : List Head) (s : State), ClosesGaps s (closeAllPending c l s)
  | [], s => closesGaps_refl s
  | h :: l, s => (closesGaps_closePending c h s).trans (closesGaps_closeAllPending c l _)

/-- The blocks of the sewing side at rest: neither the frame nor the shaft nor the run is touched, and the demand is 0 (R52, R96). -/
theorem blocksAtRest_leaves (s : State) : (blocksAtRest s).frame = s.frame ∧ (blocksAtRest s).shaft = s.shaft ∧
    (blocksAtRest s).run = s.run ∧ (blocksAtRest s).planner.demand = 0 := by
  let u := faultHeldHeads ((s.modMonitors fun _ m => { m with gatherings := [] }).modTable fun t => { t with engage := 0 })
  obtain ⟨heads, r, hclosed, -, -⟩ := closesGaps_closeAllPending s.store.cursor allHeads u
  have hrest : blocksAtRest s = plannerAtRest (closeAllPending s.store.cursor allHeads u) := rfl
  rw [hrest, hclosed]
  exact ⟨rfl, rfl, rfl, rfl⟩

/-- The run at the end of a stop: the report filled, and nothing of the run left (R92, R96). -/
def State.stopFilled (x : StoppedReport) (s : State) : State :=
  (discardInject (fillReport x s)).modRun fun r => { r with phase := none, outstanding := none, work := none, rested := none }

/-- The state in which a stop has been reported, HALTED (R96). -/
def State.stopReported (x : StoppedReport) (s : State) : State :=
  let v := setRunState .halted (blocksAtRest (s.stopFilled x))
  raiseNotice srcStop ((v.run.report.primary.map Recorded.index).getD 0) (reportBytes v.run.report) v

theorem stopFilled_eq (x : StoppedReport) (s : State) : s.stopFilled x = { s with run := { s.run with
    phase := none, outstanding := none, work := none, rested := none, inject := none
    report := { s.run.report with
      kind := s.run.kind, angle := x.angle, verdict := some x.verdict, overrun := x.overrun
      incomplete := s.run.outstanding.map Turn.index, discarded := s.run.inject.or s.run.report.discarded } } } := by
  rw [State.stopFilled, discardInject_eq]
  rfl

theorem stopReported_leaves (x : StoppedReport) (s : State) :
    (s.stopReported x).frame = s.frame ∧ (s.stopReported x).shaft = s.shaft ∧
    (s.stopReported x).run = { (s.stopFilled x).run with state := .halted } ∧ (s.stopReported x).planner.demand = 0 := by
  obtain ⟨hframe, hshaft, hrun, hdemand⟩ := blocksAtRest_leaves (s.stopFilled x)
  have hfilled : (s.stopFilled x).frame = s.frame ∧ (s.stopFilled x).shaft = s.shaft := by rw [stopFilled_eq]; exact ⟨rfl, rfl⟩
  simp only [State.stopReported, raiseNotice_frame, raiseNotice_shaft, raiseNotice_run, raiseNotice_planner, setRunState_frame,
    setRunState_shaft, setRunState_run, setRunState_planner, hframe, hshaft, hrun, hdemand, hfilled, and_self]

/-- The end of a stop whose kind is no EMERGENCY (R96). -/
theorem endStop_of_halting {s : State} (x : StoppedReport) (hkind : s.run.kind ≠ some .emergency) :
    endStop x s = afterHalt (s.stopReported x) := by
  have hkept : (blocksAtRest (s.stopFilled x)).run.kind ≠ some .emergency := by
    rw [(blocksAtRest_leaves (s.stopFilled x)).2.2.1, stopFilled_eq]
    exact hkind
  simp only [State.stopFilled] at hkept
  simp only [endStop, decide_eq_true_eq, hkept, if_false, State.stopReported, State.stopFilled]

/-- What the end of a stop leaves where its kind is no EMERGENCY and its primary cause no COLOUR (R92, R96). -/
theorem endStop_leaves {s : State} {c : Recorded} (x : StoppedReport) (hkind : s.run.kind ≠ some .emergency)
    (hprimary : s.run.report.primary = some c) (hcolour : c.cause ≠ .colour) :
    let t := endStop x s
    t.run.state = .halted ∧ t.run.phase = none ∧ t.run.report.primary = some c ∧ t.run.report.kind = s.run.kind ∧
    t.run.report.incomplete = s.run.outstanding.map Turn.index ∧ t.run.outstanding = none ∧ t.planner.demand = 0 ∧
    t.shaft = s.shaft ∧ t.frame = s.frame := by
  intro t
  have ht : t = afterHalt (s.stopReported x) := endStop_of_halting x hkind
  obtain ⟨hframe, hshaft, hrun, hdemand⟩ := stopReported_leaves x s
  rw [stopFilled_eq] at hrun
  rw [ht]
  revert hframe hshaft hrun hdemand
  generalize s.stopReported x = z
  intro hframe hshaft hrun hdemand
  have hcause : ¬ (z.run.report.primary.map Recorded.cause = some .colour) := by
    rw [hrun]
    simpa [hprimary] using hcolour
  have hafter : afterHalt z = z.modRun fun r => { r with resume := z.waitAfterStop } := by
    rw [afterHalt]
    exact if_neg hcause
  rw [hafter, State.modRun, hrun]
  exact ⟨rfl, rfl, hprimary, rfl, rfl, rfl, hdemand, hshaft, hframe⟩

/-- The end of a start with no work in progress and the shaft at rest is the end of its stop (R34, R88, R96). -/
theorem endStart_at_rest {s : State} (hstate : s.run.state = .stopping) (hwork : s.run.work = none) (hmotion : s.shaft.motion = .stopped) :
    ∃ x w, endStart s = endStop x w ∧ w.run.kind = s.run.kind ∧ w.run.report.primary = s.run.report.primary ∧
      w.run.outstanding = s.run.outstanding ∧ w.frame = s.frame ∧ w.shaft.line = 0 ∧ w.shaft.brake = true := by
  let v := cancelPulses (assertBrake (dropLine (zeroDemand s)))
  let x := (assertBrake (dropLine (zeroDemand s))).stoppedReport 0
  have hstart : endStart s = brakeOrder .atOnce (zeroDemand s) := by simp [endStart, zeroDemand, hwork]
  have hstill : (dropLine (zeroDemand s)).shaft.motion = .stopped := hmotion
  have hbrake : brakeOrder .atOnce (zeroDemand s) = deliverReport x (assertBrake (dropLine (zeroDemand s))) := by
    simp only [brakeOrder, hstill, if_true, x]
  have hstopping : v.run.state = .stopping := hstate
  have hdeliver : deliverReport x (assertBrake (dropLine (zeroDemand s))) = tryEndStop (v.modRun fun r => { r with rested := some x }) := by
    rw [deliverReport]
    exact if_pos hstopping
  have hend : tryEndStop (v.modRun fun r => { r with rested := some x }) = endStop x (v.modRun fun r => { r with rested := some x }) := by
    have hnowork : (v.modRun fun r => { r with rested := some x }).run.work = none := hwork
    have hst : (v.modRun fun r => { r with rested := some x }).run.state = .stopping := hstate
    have hrested : (v.modRun fun r => { r with rested := some x }).run.rested = some x := rfl
    unfold tryEndStop
    rw [hst, hrested]
    exact if_neg fun h => h.2 hnowork
  refine ⟨x, v.modRun fun r => { r with rested := some x }, by rw [hstart, hbrake, hdeliver, hend], rfl, rfl, rfl, rfl, ?_, ?_⟩
  · change (assertBrake (dropLine (zeroDemand s))).shaft.line = 0
    simp only [assertBrake, State.modShaft]
    split <;> rfl
  · exact (assertBrake_shaft (dropLine (zeroDemand s))).1

/-- MOVE_LATE in a start with no work in progress and the shaft at rest (R66, R88, R93, R96). -/
theorem takeCause_moveLate {s : State} (hstate : s.run.state = .running) (hphase : s.run.phase = some .starting)
    (hwork : s.run.work = none) (hmotion : s.shaft.motion = .stopped) (i : Nat) :
    let t := takeCause .moveLate i s
    t.run.state = .halted ∧ t.run.phase = none ∧ t.run.report.primary = some ⟨.moveLate, i, s.clock⟩ ∧
    t.run.report.kind = some .quick ∧ t.run.report.incomplete = s.run.outstanding.map Turn.index ∧ t.run.outstanding = none ∧
    t.planner.demand = 0 ∧ t.shaft.line = 0 ∧ t.shaft.brake = true ∧ t.frame = s.frame := by
  intro t
  have hrecords := records_recordPrimary .moveLate i s
  have hrun : (recordPrimary .moveLate i s).run = { s.run with
      state := .stopping, kind := some .quick, report := { s.run.report with primary := some ⟨.moveLate, i, s.clock⟩ } } := by
    rw [recordPrimary, setRunState_run]
    rfl
  have ht : t = endStart (recordPrimary .moveLate i s) := by
    have hquiet : Cause.isEmergency .moveLate = false := rfl
    have hst : (recordPrimary .moveLate i s).run.phase = some .starting := hrecords.phase.trans hphase
    simp only [t, takeCause, hstate, hquiet, Bool.false_eq_true, if_false, actOnRun, hst, if_true]
  have hshaft : (recordPrimary .moveLate i s).shaft = s.shaft := by rw [hrecords.eq]
  have hframe : (recordPrimary .moveLate i s).frame = s.frame := by rw [hrecords.eq]
  obtain ⟨x, w, hend, hkind, hprimary, hout, hwframe, hline, hbrake⟩ := endStart_at_rest (s := recordPrimary .moveLate i s)
    (by rw [hrun]) (by rw [hrun]; exact hwork) (by rw [hshaft]; exact hmotion)
  rw [hrun] at hkind hprimary hout
  rw [hframe] at hwframe
  obtain ⟨h1, h2, h3, h4, h5, h6, h7, h8, h9⟩ := endStop_leaves (s := w) x (by rw [hkind]; simp) hprimary (by simp)
  rw [ht, hend, h8]
  refine ⟨h1, h2, h3, h4.trans hkind, h5.trans (by rw [hout]), h6, h7, hline, hbrake, h9.trans hwframe⟩

end Sys2Proof.Machine
end

section
/-! PROOFS. A turn issued, as R12 has every block take it, and O45. -/

namespace Sys2Proof.Machine

section
variable {come : StillToCome} {s : State} {records : List (Nat × Rec)} {i : Nat} {r : Rec}

/-- What a state that keeps the issued turn shows of it (R12, R45, R49, R104, R143, R163, R164, R173, R176). -/
theorem moved_shows {t : State} (hmoved : Moved (s.issued come records i r) t) :
    let codes := s.run.inject.toList ++ functionCodes records
    let repairs := s.run.repair.active = true ∧ ∀ p ∈ records, p.1 < s.run.repair.resume
    t.run.outstanding = some ⟨i, r.isJump, t.table.sewSet⟩ ∧ t.run.inject = none ∧
    t.table.sewTurn = some i ∧ t.table.engage = t.table.sewSet ∧
    (r.isJump = true → t.table.sewSet = 0) ∧
    (r.isJump = false → s.run.repair.active = false → ∀ h : Head,
      (inSet t.table.sewSet h = true ↔ s.fitted h = true ∧ (s.head h).state = .active)) ∧
    (r.isJump = false → repairs → ∀ h : Head,
      (inSet t.table.sewSet h = true ↔ s.fitted h = true ∧ (s.head h).state = .active ∧
        inSet s.run.repair.selection h = true ∧ repairPoint s.store.held (s.head h).gaps come.turn = some i)) ∧
    (repairs → t.run.repair = s.run.repair) ∧
    (s.run.repair.active = true → ¬ repairs → t.run.repair = ⟨false, 0, 0⟩) ∧
    (∀ h : Head,
      (t.monitor h).member = (if r.isJump then (s.monitor h).member else inSet t.table.sewSet h) ∧
      (t.monitor h).gatherings = (s.monitor h).gatherings ++
        (if r.isJump = false ∧ inSet t.table.sewSet h = true then [⟨i, 0, .notYet, none⟩] else []) ∧
      (r.isJump = false → (s.monitor h).member = false → inSet t.table.sewSet h = true →
        (t.monitor h).holdCount = s.nat .holdoff ∧ (t.monitor h).holdFrom = i) ∧
      (r.isJump = false → (s.monitor h).member ≠ inSet t.table.sewSet h →
        (t.monitor h).breakRun = 0 ∧ (t.monitor h).window = [] ∧ (t.monitor h).stuckRun = 0 ∧ (t.monitor h).railRun = 0)) ∧
    (∀ a, repairs ∨ s.run.repair.active = false →
      allowedSpeed (s.nat .rampDown) (enterAll codes s).freshLookahead = some a →
      let ramp := if s.run.phase = some .starting then s.nat .speedStart
        else (s.planner.prev.map fun v => v + s.nat .rampUp).getD (s.nat .speedStart)
      t.planner.demand = min (min (s.nat .speedSet) (min a ramp))
        (if s.run.repair.active then s.nat .speedRepair else s.nat .speedSet) ∧
      t.planner.prev = some t.planner.demand) ∧
    t.planner.caps = (enterAll codes s).planner.caps.tail := by
  intro codes repairs
  have hissue : s.isRepairIssue records = true ↔ repairs := isRepairIssue_iff records s
  obtain ⟨heads, d, retire, low, look, chans, mons, nots, hissued, hdemand⟩ := issued_eq come records i r s
  obtain ⟨hjumps, houtside, hrepairs⟩ := bundle_sewSet come records i r s
  have hshown : t.table.sewSet = (s.bundle come records i r).sewSet ∧ t.table.sewTurn = some i ∧
      t.table.engage = (s.bundle come records i r).sewSet ∧ t.run.outstanding = some (s.bundle come records i r) ∧
      t.run.inject = none ∧ t.run.repair = s.repairAfter records ∧ t.planner.demand = d ∧ t.planner.prev = some d ∧
      t.planner.caps = (enterAll codes s).planner.caps.tail := by
    rw [hmoved.table, hmoved.outstanding, hmoved.inject, hmoved.repair, hmoved.demand, hmoved.prev, hmoved.caps, hissued]
    exact ⟨rfl, rfl, rfl, rfl, rfl, rfl, rfl, rfl, rfl⟩
  obtain ⟨hset, hturn, hengage, hout, hinject, hrepair, hd, hprev, hcaps⟩ := hshown
  have hmonitor (h : Head) : t.monitor h = (s.issued come records i r).monitor h := by rw [State.monitor, hmoved.thread]; rfl
  rw [hset, hturn, hengage, hout, hinject, hrepair, hd, hprev, hcaps]
  refine ⟨rfl, rfl, rfl, rfl, hjumps, houtside, fun hjump hr => hrepairs hjump (hissue.mpr hr), fun hr => ?_, fun hactive hr => ?_,
    fun h => ?_, fun a hr ha => ?_, rfl⟩
  · rw [State.repairAfter, hissue.mpr hr]; simp
  · have hno : s.isRepairIssue records = false := Bool.eq_false_iff.mpr fun h => hr (hissue.mp h)
    rw [State.repairAfter, hno, hactive]; rfl
  · rw [hmonitor]
    obtain ⟨hjump, hstitch⟩ := issued_monitor come records i r s h
    cases hkind : r.isJump with
    | true =>
      rw [hjump hkind]
      simp
    | false =>
      obtain ⟨hmember, hgathers, hholdoff, hcleared⟩ := turnReport_spec (hstitch hkind)
      simp only [Bool.false_eq_true, if_false, true_and, forall_const]
      exact ⟨hmember, hgathers, hholdoff, hcleared⟩
  · exact ⟨hdemand a (hr.imp_left hissue.mpr) ha, rfl⟩

/-- The frame's part and the stop asked for in SEWING keep the issued turn. -/
theorem call_turn_sewing_moved (hphase : s.run.phase = some .sewing) (h : s.callOutcome = .turn records i r) :
    Moved (s.issued come records i r) (call come s) := by
  have hmove : Moved (s.issued come records i r)
      (beginTurnMove i r.isJump (s.issued come records i r).designPoint (s.issued come records i r)) := by
    rw [beginTurnMove_eq]
    exact ⟨rfl, rfl, rfl, rfl, rfl, rfl, rfl, rfl, rfl⟩
  exact hmove.trans (call_turn_sewing hphase h).moved

section
variable (hstops : ∀ c, s.run.inject = some c → (s.func.entry c).effect ≠ .stopAfter)
  (hroom : s.run.repair.active = true → ∀ h : Head, (s.head h).gaps.length < 8) (hphase : s.run.phase = some .starting)
  (hstate : s.run.state = .running) (h : s.callOutcome = .turn records i r)
include hstops hroom hphase hstate h

/-- The first call of a run with the needle down and the shaft at rest (R66, R88, R96). -/
theorem call_turn_first_down (hwork : s.run.work = none) (hdown : s.shaft.needleUp = false) (hmotion : s.shaft.motion = .stopped) :
    let t := call come s
    t.run.state = .halted ∧ t.run.phase = none ∧
    t.run.report.primary = some ⟨.moveLate, i, s.clock⟩ ∧ t.run.report.kind = some .quick ∧
    t.run.report.incomplete = some i ∧ t.run.outstanding = none ∧ t.planner.demand = 0 ∧ t.shaft.line = 0 ∧
    t.shaft.brake = true ∧ t.frame = s.frame := by
  intro t
  obtain ⟨hphase', hstate', hwork', hframe, -, -, -, -, hclock, -, hout, hshaft, -⟩ :=
    issued_frame (come := come) (records := records) (i := i) (r := r) (s := s)
  have ht : t = takeCause .moveLate i (s.issued come records i r) := by
    have hdown' : ¬ (s.issued come records i r).shaft.needleUp = true := by rw [hshaft hphase, hdown]; decide
    simp only [t, call_turn_quiet hstops hroom h, moveFrame]
    rw [if_pos (hphase'.trans hphase), if_pos hdown', bundle_index]
  obtain ⟨h1, h2, h3, h4, h5, h6, h7, h8, h9, h10⟩ := takeCause_moveLate (s := s.issued come records i r) (hstate'.trans hstate)
    (hphase'.trans hphase) (hwork'.trans hwork) (by rw [hshaft hphase]; exact hmotion) i
  rw [ht]
  rw [hclock] at h3
  exact ⟨h1, h2, h3, h4, h5.trans (by rw [hout]; rfl), h6, h7, h8, h9, h10.trans hframe⟩

variable {d : Pt} (hd : r.move = some d)
include hd

/-- The first call with the needle up keeps the issued turn. -/
theorem call_turn_first_moved (hup : s.shaft.needleUp = true) : Moved (s.issued come records i r) (call come s) := by
  by_cases hat : s.settledFrame.coord = s.designPoint.add d
  · rw [call_turn_atTarget hstops hroom hphase h hd hstate hup hat]
    exact ⟨rfl, rfl, rfl, rfl, rfl, rfl, rfl, rfl, rfl⟩
  · obtain ⟨m, hm, -⟩ := call_turn_firstMove (come := come) hstops hroom hphase h hd hup hat
    rw [hm]
    exact ⟨rfl, rfl, rfl, rfl, rfl, rfl, rfl, rfl, rfl⟩

/-- The first call of a run with the needle up (R50, R66, R87). -/
theorem call_turn_first_up (hup : s.shaft.needleUp = true) :
    let t := call come s
    let target := s.designPoint.add d
    t.run.state = .running ∧
    (s.settledFrame.coord ≠ target → t.run.phase = some .starting ∧ t.run.work = some .firstMove ∧
      t.planner.held = true ∧ t.shaft = s.shaft ∧
      ∃ m, t.frame = s.settledFrame.lay m ∧ s.LaysChunk .firstMove s.settledFrame.coord target m ∧
        m.turn = some i ∧ m.abort = none) ∧
    (s.settledFrame.coord = target → t.run.phase = some .sewing ∧ t.run.work = none ∧ t.planner.held = false ∧
      t.frame = s.settledFrame ∧
      (s.link.restart = .none → 0 < t.planner.demand → s.shaft.line = 0 →
        t.shaft = { s.shaft with line := t.planner.demand, brake := false, stall := some 0 })) := by
  intro t target
  obtain ⟨hphase', hstate', -, -, -, -, -, -, -, hheld, -, hshaft, -⟩ :=
    issued_frame (come := come) (records := records) (i := i) (r := r) (s := s)
  by_cases hat : s.settledFrame.coord = target
  · have ht : t = _ := call_turn_atTarget (come := come) hstops hroom hphase h hd hstate hup hat
    rw [ht]
    refine ⟨hstate'.trans hstate, fun hoff => absurd hat hoff, fun _ => ⟨rfl, rfl, rfl, rfl, fun hrestart hpos hline => ?_⟩⟩
    have hplaces : ¬ (s.link.restart ≠ .none ∨ (s.issued come records i r).planner.demand = 0) := by
      rintro (hr | h0)
      · exact hr hrestart
      · exact Nat.ne_of_gt hpos h0
    exact (placeLine_shaft _ s).trans ((if_neg hplaces).trans (if_pos hline))
  · obtain ⟨m, hm, hlays, hturn, habort⟩ := call_turn_firstMove (come := come) hstops hroom hphase h hd hup hat
    have ht : t = _ := hm
    rw [ht]
    refine ⟨hstate'.trans hstate, fun _ => ⟨hphase'.trans hphase, rfl, ?_, hshaft hphase, m, rfl, hlays, hturn, habort⟩,
      fun h => absurd h hat⟩
    exact hheld.trans (decide_eq_true hphase)

end

end

/-- The issued turn before its functions are carried out, outside repair (R112, R163). -/
theorem engaged_outside {come : StillToCome} {s : State} {records : List (Nat × Rec)} {i : Nat} {r : Rec}
    (hrepair : s.run.repair.active = false) :
    (s.engaged come records i r).params = s.params ∧ (s.engaged come records i r).func = s.func ∧
    (s.engaged come records i r).angle = s.angle ∧ ∀ h, ((s.engaged come records i r).head h).state = (s.head h).state := by
  obtain ⟨heads, d, hplanned, -, houtside, -⟩ := planned_eq records s (s.issueCodes records)
  obtain ⟨heads', retire, monitors, hengaged, hstate, -⟩ := engageTurn_eq (s.bundle come records i r)
    (rebuild ((s.planned records (s.issueCodes records)).modStore (Store.advance records (i + 1))))
  have hside : (s.engaged come records i r).params = s.params ∧ (s.engaged come records i r).func = s.func := by
    rw [State.engaged, hengaged, hplanned]
    exact ⟨rfl, rfl⟩
  have hshaft : (s.engaged come records i r).shaft.synced = s.shaft.synced ∧
      (s.engaged come records i r).shaft.count = s.shaft.count := by
    rw [State.engaged, hengaged, hplanned]
    simp only [State.modRun_shaft, rebuild_shaft, State.modStore_shaft, placeLine_shaft]
    split
    · exact ⟨rfl, rfl⟩
    · split
      · exact ⟨rfl, rfl⟩
      · split <;> exact ⟨rfl, rfl⟩
  refine ⟨hside.1, hside.2, angle_congr hside.1 hshaft.1 hshaft.2, fun h => (hstate h).trans ?_⟩
  rw [hplanned, houtside hrepair]
  rfl

/-- A FUNCTION record of one item carried out with a turn in SEWING (R111, R112, R113, R117, R120, R150). -/
theorem call_carries {turn : Option Nat} {s : State} {k : Nat} {code : Code} {i : Nat} {r : Rec} {c : Chan} {act : Act} {a0 : Nat}
    {hs : HeadSet} {common : Bool} (hphase : s.run.phase = some .sewing)
    (h : s.callOutcome = .turn [(k, .function code), (i, r)] i r) (hinject : s.run.inject = none)
    (hitem : (s.func.entry code).actions = [⟨c, act⟩]) (hangle : s.angle = some a0) (hrepair : s.run.repair.active = false) :
    let t := call ⟨turn, []⟩ s
    ((hs, common) = match (s.func.entry code).scope with
      | .sewing => (t.table.sewSet, false)
      | .enabled => (headsWhere fun h => s.fitted h && decide ((s.head h).state ≠ .disabled), false)
      | .common => (headsWhere s.fitted, true)) →
    (∀ o : Chan, o ≠ c → t.func.channels[o] = s.func.channels[o]) ∧
    Channel.Takes a0 act hs common s.func.channels[c] t.func.channels[c] ∧
    ((s.func.entry code).slack = true → ∀ h : Head, inSet t.table.sewSet h = true →
      (t.monitor h).holdCount = s.nat .holdoff ∧ (t.monitor h).holdFrom = i) := by
  intro t hcap
  have hmoved : Moved _ t := call_turn_sewing_moved (come := ⟨turn, []⟩) hphase h
  obtain ⟨hparams, hfunc, hangleSame, hstates⟩ := engaged_outside (come := ⟨turn, []⟩) (records := [(k, .function code), (i, r)])
    (i := i) (r := r) hrepair
  have hcodes : s.issueCodes [(k, .function code), (i, r)] = [code] := by
    obtain ⟨-, -, -, hmove, -⟩ := callOutcome_turn_spec h
    rw [State.issueCodes, hinject]
    cases r with
    | stitch dx dy | jump dx dy => rfl
    | function c' | colour | endRec => cases hmove
  have hissued : s.issued ⟨turn, []⟩ [(k, .function code), (i, r)] i r = lowMarkTest (carryOut []
      (s.bundle ⟨turn, []⟩ [(k, .function code), (i, r)] i r).sewSet i code (s.engaged ⟨turn, []⟩ [(k, .function code), (i, r)] i r)) := by
    rw [State.issued, hcodes]; rfl
  have hset : t.table.sewSet = (s.bundle ⟨turn, []⟩ [(k, .function code), (i, r)] i r).sewSet := by
    have hout := (moved_shows hmoved).1
    rw [hmoved.outstanding, issued_frame.2.2.2.2.2.2.2.2.2.2.1] at hout
    exact (congrArg Turn.sewSet (Option.some.inj hout)).symm
  have hkept : t.func = (carryOut [] (s.bundle ⟨turn, []⟩ [(k, .function code), (i, r)] i r).sewSet i code
      (s.engaged ⟨turn, []⟩ [(k, .function code), (i, r)] i r)).func ∧
      t.thread = (carryOut [] (s.bundle ⟨turn, []⟩ [(k, .function code), (i, r)] i r).sewSet i code
      (s.engaged ⟨turn, []⟩ [(k, .function code), (i, r)] i r)).thread := by
    rw [hmoved.func, hmoved.thread, hissued, lowMarkTest_eq]
    exact ⟨rfl, rfl⟩
  rw [hset] at hcap ⊢
  have hmonitor (x : Head) : t.monitor x = (carryOut [] (s.bundle ⟨turn, []⟩ [(k, .function code), (i, r)] i r).sewSet i code
      (s.engaged ⟨turn, []⟩ [(k, .function code), (i, r)] i r)).monitor x := by rw [State.monitor, hkept.2]; rfl
  simp only [hmonitor]
  rw [hkept.1]
  have hnat : (s.engaged ⟨turn, []⟩ [(k, .function code), (i, r)] i r).nat .holdoff = s.nat .holdoff := by
    simp only [State.nat, State.par, hparams]
  rw [← captured_eq, ← captured_congr hparams hstates] at hcap
  obtain ⟨rfl, rfl⟩ := Prod.mk.inj hcap
  obtain ⟨hother, htakes, -, hslack⟩ := carryOut_single (s := s.engaged ⟨turn, []⟩ [(k, .function code), (i, r)] i r) (code := code)
    (s.bundle ⟨turn, []⟩ [(k, .function code), (i, r)] i r).sewSet i (by rw [hfunc]; exact hitem) (hangleSame.trans hangle)
  rw [hfunc] at hother htakes hslack
  refine ⟨hother, htakes, fun hsl x hx => ?_⟩
  rw [hslack hsl x, if_pos hx, hnat]
  exact ⟨rfl, rfl⟩

/-- Settles O45: the outcome of the call, the state that every block but the frame leaves of an issued turn or of a stop answer, and
the frame's part after it. -/
theorem aCallAdvancesTheCursor : Obligations.ACallAdvancesTheCursor := by
  refine ⟨fun s records i r h => callOutcome_turn_spec h, fun s records c i again h => callOutcome_stop_spec h, call_advances,
    runRetention_spec, fun tension x s hnears hphase hx => encoderCount_windowStart tension hnears hphase hx, ?_, ?_, ?_, ?_⟩
  · intro come s records i r d first goes h hd t codes repairs target l m
    refine ⟨fun hgoes => ?_, fun hrun hphase => ?_, fun hfirst hup => ?_, fun hfirst hdown hmotion => ?_⟩
    · rcases hgoes with ⟨-, hphase⟩ | ⟨⟨hphase, hstate, -, hstops, hroom⟩, hup⟩
      · exact moved_shows (call_turn_sewing_moved hphase h)
      · exact moved_shows (call_turn_first_moved hstops hroom hphase hstate h hd hup)
    · obtain ⟨hsewing, hheld, hline⟩ := call_turn_sewing_line (come := come) hphase h
      obtain ⟨hat, hoff⟩ := call_turn_sewing_frame (come := come) hphase h hd
      exact ⟨hsewing, hheld, hline, hat, hoff⟩
    · obtain ⟨hphase, hstate, hwork, hstops, hroom⟩ := hfirst
      exact call_turn_first_up hstops hroom hphase hstate h hd hup
    · obtain ⟨hphase, hstate, hwork, hstops, hroom⟩ := hfirst
      exact call_turn_first_down hstops hroom hphase hstate h hwork hdown hmotion
  · intro turn s k code i r c act a0 hs common hrun hphase h hinject hitem hangle t hcap hrepair
    exact call_carries hphase h hinject hitem hangle hrepair hcap
  · intro turn s k i hrun hphase hrepair hmotion hquiet h
    exact call_trims hrun hrepair hmotion hquiet h
  · intro come s records c i again hrun hphase hrepair hmotion hquiet h
    exact call_stops_spec hrun hrepair hmotion hquiet h

end Sys2Proof.Machine
end

section
/-! PROOFS. NEEDLE UP and NEEDLE SELECT: their refusals, and how they begin or end at once (R38, R135). -/

namespace Sys2Proof.Machine

/-! ### An operation placed in the slot (R102) -/

/-- An operation that ends as it begins leaves the empty slot empty, and OP_DONE (R102). -/
theorem endOperation_fillSlot {s : State} (h : s.run.slot = none) (k : OpKind) (w : Starter) (g : Option Goal) (r : OpResult)
    (d : List Byte) : endOperation r d (fillSlot k w g s) =
      raiseNotice srcOpDone s.store.cursor (u8 k.value ++ u8 w.value ++ u8 r.value ++ d) s := by
  have hrun : ({ s.run with slot := none } : Run) = s.run := by rw [← h]
  rw [endOperation_of_slot (op := ⟨k, w, s.clock, g, false⟩) rfl]
  exact congrArg (fun x => raiseNotice srcOpDone s.store.cursor (u8 k.value ++ u8 w.value ++ u8 r.value ++ d)
    { s with run := x }) hrun

/-- The run states of most operations are those outside a run and LOCKED (R102). -/
theorem mem_atRest {s : State} (hrun : s.inRun = false) (hlocked : s.run.state ≠ .locked) : s.run.state ∈ atRest := by
  have h := not_run_or_locked hrun hlocked
  cases hs : s.run.state <;> simp_all [atRest]

/-- In a run and in LOCKED an operation is refused STATE (R102). -/
theorem slotCheck_of_state {s : State} (h : s.inRun = true ∨ s.run.state = .locked) : s.slotCheck atRest = some .state := by
  have hout : s.run.state ∉ atRest := by
    intro hin
    cases hs : s.run.state <;> simp_all [atRest, State.inRun]
  simp [State.slotCheck, hout]

/-- With the slot full an operation is refused BUSY (R102). -/
theorem slotCheck_of_full {s : State} {accepted : List RunState} (h : s.run.state ∈ accepted) (hs : s.run.slot ≠ none) :
    s.slotCheck accepted = some .busy := by
  simp [State.slotCheck, h, State.slotEmpty, hs]

/-- A first demand on the line releases BRAKE and starts the stall timer (R33 to R35). -/
theorem placeLine_of_zero {s : State} (hr : s.link.restart = .none) (h0 : s.shaft.line = 0) {v : Nat} (hv : 0 < v) :
    placeLine v s = { s with shaft := { s.shaft with line := v, brake := false, stall := some 0 } } := by
  simp only [placeLine, hr, ne_eq, not_true_eq_false, false_or, Nat.ne_of_gt hv, if_false, State.modShaft, h0, if_true]

/-! ### NEEDLE UP (R38) -/

section
variable {s : State} (hcheck : s.slotCheck atRest = none)
include hcheck

theorem needleUpRequest_of_unready (hd : s.driveIsReady = false) : needleUpRequest s = (s, plain .faulted) := by
  simp [needleUpRequest, hcheck, hd]

/-- With the needles up at rest NEEDLE UP ends as it begins (R38). -/
theorem needleUpRequest_of_up (hd : s.driveIsReady = true) (hs : s.run.slot = none) (hup : s.restsUp = true) :
    needleUpRequest s = (raiseNotice srcOpDone s.store.cursor
      ([0, 0, 0] ++ halfOrNone s.angle ++ u8 (s.verdictAt s.angle).value ++ [0, 0, 0, 0, 1]) s, plain .started) := by
  have hup' : (fillSlot .needleUp .host none s).restsUp = true := hup
  simp only [needleUpRequest, hcheck, hd, hup', not_true_eq_false, if_false, if_true, endOperation_fillSlot hs]
  have htail : u32 0 ++ flagByte true = [0, 0, 0, 0, 1] := by decide
  have hdetail : needleUpDetail ((fillSlot .needleUp .host none s).stoppedReport 0) true =
      halfOrNone s.angle ++ (u8 (s.verdictAt s.angle).value ++ (u32 0 ++ flagByte true)) := by
    simp only [needleUpDetail, List.append_assoc]
    rfl
  rw [hdetail, htail, List.append_assoc, List.append_assoc]
  rfl

/-- Else NEEDLE UP turns the shaft (R38). -/
theorem needleUpRequest_of_down (hd : s.driveIsReady = true) (hup : s.restsUp = false) (hr : s.link.restart = .none)
    (h0 : s.shaft.line = 0) (hmin : 0 < s.nat .speedMin) :
    needleUpRequest s = ({ s with
      run := { s.run with slot := some ⟨.needleUp, .host, s.clock, none, false⟩ }
      shaft := { s.shaft with line := s.nat .speedMin, brake := false, stall := some 0 } }, plain .started) := by
  have hup' : ¬ (fillSlot .needleUp .host none s).restsUp = true := by
    change ¬ s.restsUp = true
    rw [hup]; decide
  simp only [needleUpRequest, hcheck, hd, hup', not_true_eq_false, if_false, Bool.false_eq_true]
  rw [placeLine_of_zero (s := fillSlot .needleUp .host none s) (v := (fillSlot .needleUp .host none s).nat .speedMin) hr h0 hmin]
  rfl
end

/-! ### NEEDLE SELECT (R131, R135) -/

theorem isNeedle_iff (s : State) (n : Nat) : s.isNeedle n = true ↔ 1 ≤ n ∧ n ≤ s.nat .needles := by
  simp [State.isNeedle]

theorem needleSelectRequest_of_none {s : State} {needle : Byte} (h : ¬ s.isNeedle needle.toNat = true) :
    needleSelectRequest needle s = (s, plain .form) := by
  simp [needleSelectRequest, h]

section
variable {s : State} {needle : Byte} (hneedle : s.isNeedle needle.toNat = true)
include hneedle

theorem needleSelectRequest_of_bar {st : Status} (h : s.slotCheck atRest = some st) :
    needleSelectRequest needle s = (s, plain st) := by
  simp [needleSelectRequest, hneedle, h]

variable (hcheck : s.slotCheck atRest = none)
include hcheck

theorem needleSelectRequest_of_down (hup : s.restsUp = false) : needleSelectRequest needle s = (s, plain .state) := by
  simp [needleSelectRequest, hneedle, hcheck, hup]

variable (hup : s.restsUp = true)
include hup

/-- On the needle already settled NEEDLE SELECT ends as it begins, with no REQUEST (R131, R135). -/
theorem needleSelectRequest_of_settled (hs : s.run.slot = none) (hsettled : s.needle.settled = some needle.toNat) :
    needleSelectRequest needle s = (raiseNotice srcOpDone s.store.cursor
      ([4, 0, 0] ++ u8 s.store.cursorColour ++ [needle, needle, 0, 0, 0, 0, 0, 0])
      { s with needle := { s.needle with target := needle.toNat, watch := none } }, plain .started) := by
  let u : State := { s with needle := { s.needle with target := needle.toNat, watch := none } }
  have hbegin : beginChange .select needle.toNat .host (fillSlot .needleSelect .host none s) =
      (fillSlot .needleSelect .host none u, true) := by
    have h : (fillSlot .needleSelect .host none s).needle.settled = some needle.toNat := hsettled
    rw [beginChange, if_pos h]
    rfl
  have hus : u.run.slot = none := hs
  simp only [needleSelectRequest, hneedle, hcheck, hup, not_true_eq_false, if_false, hbegin, if_true, endOperation_fillSlot hus]
  congr 2
  have hbyte : u8 needle.toNat = [needle] := by simp
  simp only [changeDetail, needleBytes, byteOrNone, fillSlot, State.modRun, u, hsettled, Option.getD_some, hbyte, List.append_assoc]
  rfl

/-- On another needle the change begins with REQUEST (R127, R131, R135). -/
theorem needleSelectRequest_of_unsettled (hsettled : s.needle.settled ≠ some needle.toNat) :
    needleSelectRequest needle s = ({ s with
      run := { s.run with slot := some ⟨.needleSelect, .host, s.clock, none, false⟩ }
      needle := { s.needle with
        target := needle.toNat, request := true, watch := none
        change := some ⟨.select, needle.toNat, .host, s.nat .needleTimeout, s.nat .needleTimeout, s.clock⟩ } }, plain .started) := by
  have h : (fillSlot .needleSelect .host none s).needle.settled ≠ some needle.toNat := hsettled
  simp only [needleSelectRequest, hneedle, hcheck, hup, not_true_eq_false, if_false, beginChange, h, Bool.false_eq_true]
  rfl
end

theorem exec_needleUp {s t : State} {st : Status} {p : List Byte} (hs : s.ready) (tag : Byte) (h : needleUpRequest (hunt s) = (t, ⟨st, p⟩)) :
    exec (.needleUp tag) s = .next (replied 0x19 tag st p t) :=
  exec_answered (a := ⟨st, p⟩) rfl hs rfl (by decide) h

theorem exec_needleSelect {s t : State} {st : Status} {p : List Byte} (hs : s.ready) (tag needle : Byte)
    (h : needleSelectRequest needle (hunt s) = (t, ⟨st, p⟩)) :
    exec (.needleSelect tag needle) s = .next (replied 0x1A tag st p t) :=
  exec_answered (a := ⟨st, p⟩) rfl hs rfl (by decide) h

/-- Settles O52: each refusal and each beginning is the request's own, on the state that the frame has left. -/
theorem needleOperationsBegin : Obligations.NeedleOperationsBegin := by
  refine ⟨fun tag s hs hslot hstate => ?_, fun tag needle s hs => ⟨fun hout => ?_, fun hlow hhigh => ?_⟩⟩
  · have hcheck : (hunt s).slotCheck atRest = none :=
      slotCheck_of_empty (s := hunt s) (by rcases hstate with h | h | h <;> simp [hunt, atRest, h]) hslot
    exact ⟨fun hd => exec_needleUp hs tag (needleUpRequest_of_unready hcheck hd),
      fun hd hup => exec_needleUp hs tag (needleUpRequest_of_up hcheck hd hslot hup),
      fun hd hup h0 hmin => exec_needleUp hs tag (needleUpRequest_of_down hcheck hd hup hs.2.1 h0 hmin)⟩
  · have hneedle : ¬ (hunt s).isNeedle needle.toNat = true := by
      rw [isNeedle_iff]
      change ¬ (1 ≤ needle.toNat ∧ needle.toNat ≤ s.nat .needles)
      omega
    exact exec_needleSelect hs tag needle (needleSelectRequest_of_none hneedle)
  · have hneedle : (hunt s).isNeedle needle.toNat = true := (isNeedle_iff _ _).mpr ⟨hlow, hhigh⟩
    refine ⟨fun h => ?_, fun hrun hlocked hslot => ?_, fun hrun hlocked hslot => ?_⟩
    · exact exec_needleSelect hs tag needle (needleSelectRequest_of_bar hneedle (slotCheck_of_state (s := hunt s) h))
    · exact exec_needleSelect hs tag needle
        (needleSelectRequest_of_bar hneedle (slotCheck_of_full (mem_atRest (s := hunt s) hrun hlocked) hslot))
    · have hcheck := slotCheck_of_empty (mem_atRest (s := hunt s) hrun hlocked) hslot
      exact ⟨fun hup => exec_needleSelect hs tag needle (needleSelectRequest_of_down hneedle hcheck hup),
        fun hup h => exec_needleSelect hs tag needle (needleSelectRequest_of_settled hneedle hcheck hup hslot h),
        fun hup h => exec_needleSelect hs tag needle (needleSelectRequest_of_unsettled hneedle hcheck hup h)⟩

end Sys2Proof.Machine
end

section
/-! PROOFS. The machine's side of the part: what the Run Controller's records, the ends of operations and of needle changes, and the
end of a stop leave alone (R92 to R96, R102, R132 to R134). -/

namespace Sys2Proof.Machine

/-- The parameters, the inputs, the shaft, the frame, the channels and the counter. -/
structure MachineSide where
  params : Vector Int 50
  pins : Pins
  shaft : Shaft
  frame : Frame
  func : FuncUnit
  clock : Word

def State.machineSide (s : State) : MachineSide := ⟨s.params, s.pins, s.shaft, s.frame, s.func, s.clock⟩

/-- States with the same machine's side have each of its parts the same. -/
theorem machineSide_eq_iff {s t : State} : t.machineSide = s.machineSide ↔
    t.params = s.params ∧ t.pins = s.pins ∧ t.shaft = s.shaft ∧ t.frame = s.frame ∧ t.func = s.func ∧ t.clock = s.clock := by
  simp [State.machineSide]

section
variable (s : State)

@[simp] theorem machineSide_modStore (f : Store → Store) : (s.modStore f).machineSide = s.machineSide := rfl
@[simp] theorem machineSide_modPlanner (f : Planner → Planner) : (s.modPlanner f).machineSide = s.machineSide := rfl
@[simp] theorem machineSide_modRun (f : Run → Run) : (s.modRun f).machineSide = s.machineSide := rfl
@[simp] theorem machineSide_modNeedle (f : NeedleBar → NeedleBar) : (s.modNeedle f).machineSide = s.machineSide := rfl
@[simp] theorem machineSide_modTable (f : HeadTable → HeadTable) : (s.modTable f).machineSide = s.machineSide := rfl
@[simp] theorem machineSide_modHead (h : Head) (f : HeadEntry → HeadEntry) : (s.modHead h f).machineSide = s.machineSide := rfl
@[simp] theorem machineSide_modMonitors (f : Head → Monitor → Monitor) : (s.modMonitors f).machineSide = s.machineSide := rfl
@[simp] theorem machineSide_raiseNotice (src : Source) (i : Nat) (d : List Byte) :
    (raiseNotice src i d s).machineSide = s.machineSide := rfl
@[simp] theorem machineSide_rebuild : (rebuild s).machineSide = s.machineSide := rfl

@[simp] theorem machineSide_ite (c : Prop) {_ : Decidable c} (t : State) :
    (if c then s else t).machineSide = if c then s.machineSide else t.machineSide := apply_ite ..

/-! ### The run's records and the ends of operations and of changes -/

@[simp] theorem machineSide_clearResume : (clearResume s).machineSide = s.machineSide := rfl
@[simp] theorem machineSide_zeroDemand : (zeroDemand s).machineSide = s.machineSide := rfl
@[simp] theorem machineSide_fillSlot (k : OpKind) (w : Starter) (g : Option Goal) : (fillSlot k w g s).machineSide = s.machineSide := rfl
@[simp] theorem machineSide_discardInject : (discardInject s).machineSide = s.machineSide := by rw [discardInject_eq]; rfl
@[simp] theorem machineSide_setRunState (r : RunState) : (setRunState r s).machineSide = s.machineSide := by
  simp [State.machineSide]
@[simp] theorem machineSide_endOperation (r : OpResult) (d : List Byte) : (endOperation r d s).machineSide = s.machineSide := by
  simp [State.machineSide]
@[simp] theorem machineSide_appendCause (c : Cause) (i : Nat) : (appendCause c i s).machineSide = s.machineSide := by
  simp [appendCause]
@[simp] theorem machineSide_causeInHalted (c : Cause) (i : Nat) : (causeInHalted c i s).machineSide = s.machineSide := by
  simp [causeInHalted]
@[simp] theorem machineSide_recordPrimary (c : Cause) (i : Nat) : (recordPrimary c i s).machineSide = s.machineSide := by
  simp [recordPrimary]
@[simp] theorem machineSide_convertKind (c : Cause) : (convertKind c s).machineSide = s.machineSide := by simp [convertKind]
@[simp] theorem machineSide_recordAlone (c : Cause) (i : Nat) : (recordAlone c i s).machineSide = s.machineSide := by
  simp [recordAlone]
@[simp] theorem machineSide_requestStopPoint (c : Cause) : (requestStopPoint c s).machineSide = s.machineSide := rfl
@[simp] theorem machineSide_beginChange (p : ChangePurpose) (n : Nat) (w : Starter) :
    (beginChange p n w s).1.machineSide = s.machineSide := by
  unfold beginChange; split <;> rfl
@[simp] theorem machineSide_startColourTimer : (startColourTimer s).machineSide = s.machineSide := by simp [startColourTimer]
@[simp] theorem machineSide_endColourChange (r : OpResult) (n ms : Nat) (w : Option DetailWord) :
    (endColourChange r n ms w s).machineSide = s.machineSide := by
  cases r <;> simp [endColourChange]
@[simp] theorem machineSide_releaseChange : (releaseChange s).machineSide = s.machineSide := rfl
@[simp] theorem machineSide_endChange (r : OpResult) (w : Option DetailWord) : (endChange r w s).machineSide = s.machineSide := by
  unfold endChange
  split
  · rfl
  · next c _ => cases c.purpose <;> simp
@[simp] theorem machineSide_endNeedleUp (r : StoppedReport) : (endNeedleUp r s).machineSide = s.machineSide := by
  unfold endNeedleUp; split <;> simp

/-! ### The end of a stop -/

@[simp] theorem machineSide_colourStop : (colourStop s).machineSide = s.machineSide := by
  unfold colourStop
  dsimp only
  split <;> simp
@[simp] theorem machineSide_afterHalt : (afterHalt s).machineSide = s.machineSide := by simp [afterHalt]
@[simp] theorem machineSide_blocksAtRest : (blocksAtRest s).machineSide = s.machineSide := by
  let u := faultHeldHeads ((s.modMonitors fun _ m => { m with gatherings := [] }).modTable fun t => { t with engage := 0 })
  obtain ⟨heads, r, hclosed, -, -⟩ := closesGaps_closeAllPending s.store.cursor allHeads u
  have hrest : blocksAtRest s = plannerAtRest (closeAllPending s.store.cursor allHeads u) := rfl
  rw [hrest, hclosed]
  rfl
@[simp] theorem machineSide_endStop (r : StoppedReport) : (endStop r s).machineSide = s.machineSide := by
  simp [endStop, fillReport]
@[simp] theorem machineSide_tryEndStop : (tryEndStop s).machineSide = s.machineSide := by
  unfold tryEndStop; split <;> simp

end

end Sys2Proof.Machine
end

section
/-! PROOFS. The marks at which something is taken, and what a cause leaves of them (R28, R29, R88, R93, R94, R121). -/

namespace Sys2Proof.Machine

/-- Only the channels' marks are not the parameters' (R28). -/
theorem takesAt_of_params {s t : State} (h : t.params = s.params) (a : Nat) {x : Taker} (hx : ∀ k, x ≠ .channel k) :
    t.takesAt a x = s.takesAt a x := by
  have hpar (p : Param) : t.par p = s.par p := by simp only [State.par, h]
  rw [Bool.eq_iff_iff]
  cases x with
  | channel k => exact absurd rfl (hx k)
  | _ =>
    simp only [State.takesAt, decide_eq_true_iff]
    simp only [State.nat, State.jumpEndAngle, State.brakeAngle, hpar]

/-- From s to t the angle is the same and no mark has come to it. -/
structure State.Unmarks (s t : State) : Prop where
  params : t.params = s.params
  count : t.shaft.count = s.shaft.count
  synced : t.shaft.synced = s.shaft.synced
  marks : ∀ (k : Chan) (a : Nat), a ∈ t.func.channels[k].marks → a ∈ s.func.channels[k].marks

namespace State.Unmarks

theorem refl (s : State) : s.Unmarks s := ⟨rfl, rfl, rfl, fun _ _ => id⟩

theorem trans {s t u : State} (h : s.Unmarks t) (h' : t.Unmarks u) : s.Unmarks u :=
  ⟨h'.params.trans h.params, h'.count.trans h.count, h'.synced.trans h.synced, fun k a => h.marks k a ∘ h'.marks k a⟩

/-- The same machine's side has the same marks. -/
theorem of_side {s t : State} (h : t.machineSide = s.machineSide) : s.Unmarks t := by
  obtain ⟨hparams, -, hshaft, -, hfunc, -⟩ := machineSide_eq_iff.mp h
  exact ⟨hparams, by rw [hshaft], by rw [hshaft], fun k a => by rw [hfunc]; exact id⟩

theorem nat_eq {s t : State} (h : s.Unmarks t) (p : Param) : t.nat p = s.nat p := by
  simp only [State.nat, State.par, h.params]

theorem angle_eq {s t : State} (h : s.Unmarks t) : t.angle = s.angle := by
  simp only [State.angle, h.synced, h.count, h.nat_eq]

/-- What nothing takes at an angle in the one state, nothing takes there in the other. -/
theorem takesAt_eq_false {s t : State} (h : s.Unmarks t) {a : Nat} {x : Taker} (hx : s.takesAt a x = false) : t.takesAt a x = false := by
  by_cases hchan : ∃ k, x = .channel k
  · obtain ⟨k, rfl⟩ := hchan
    simp only [State.takesAt, decide_eq_false_iff_not] at hx ⊢
    exact fun hm => hx (h.marks k a hm)
  · rw [takesAt_of_params h.params a fun k hk => hchan ⟨k, hk⟩, hx]

end State.Unmarks

/-! ### What a cause without an emergency leaves of the marks -/

section
variable (s : State)

theorem unmarks_dropLine : s.Unmarks (dropLine s) := ⟨rfl, rfl, rfl, fun _ _ => id⟩

theorem unmarks_assertBrake : s.Unmarks (assertBrake s) := by
  unfold assertBrake
  refine ⟨rfl, ?_, ?_, fun _ _ => id⟩ <;> rw [State.modShaft_shaft] <;> split <;> rfl

theorem unmarks_restShaft : s.Unmarks (restShaft s) := ⟨rfl, rfl, rfl, fun _ _ => id⟩

theorem unmarks_markAbort (w : AbortBy) : s.Unmarks (markAbort w s) := ⟨rfl, rfl, rfl, fun _ _ => id⟩

theorem cancelPulses_channel (k : Chan) : (cancelPulses s).func.channels[k] = s.func.channels[k].endPulse :=
  mapTwelve_get _ _ k

theorem unmarks_cancelPulses : s.Unmarks (cancelPulses s) :=
  ⟨rfl, rfl, rfl, fun k a h => by rw [cancelPulses_channel] at h; cases h⟩

theorem unmarks_deliverReport (r : StoppedReport) : s.Unmarks (deliverReport r s) := by
  refine (unmarks_cancelPulses s).trans (.of_side ?_)
  simp [deliverReport]

theorem unmarks_detectStop : s.Unmarks (detectStop s) := (unmarks_restShaft s).trans (unmarks_deliverReport _ _)

theorem unmarks_brakeOrder (k : BrakeOrder) : s.Unmarks (brakeOrder k s) := by
  have hwait (t : State) : t.Unmarks (if k = .atOnce then assertBrake t else t.modShaft fun h => { h with waiting := h.waiting.or (some k) }) := by
    split
    · exact unmarks_assertBrake t
    · exact ⟨rfl, rfl, rfl, fun _ _ => id⟩
  have hdetect (t : State) : t.Unmarks (if t.nat .stopQuiet ≤ t.shaft.quiet then detectStop t else t) := by
    split
    · exact unmarks_detectStop t
    · exact .refl t
  unfold brakeOrder
  dsimp only
  refine (unmarks_dropLine s).trans ?_
  split
  · exact (unmarks_assertBrake _).trans (unmarks_deliverReport _ _)
  · exact (hwait _).trans (hdetect _)

theorem unmarks_goBraking : s.Unmarks (goBraking s) :=
  (State.Unmarks.of_side (by simp)).trans (unmarks_brakeOrder _ _)

theorem unmarks_endStart : s.Unmarks (endStart s) := by
  have hwork (t : State) : t.Unmarks (match t.run.work with
      | some .returnMove => markAbort .stop t
      | some .needle => endChange .aborted (some .stopped) t
      | _ => t) := by
    split
    · exact unmarks_markAbort t _
    · exact .of_side (by simp)
    · exact .refl t
  exact ((State.Unmarks.of_side (machineSide_zeroDemand s)).trans (hwork _)).trans (unmarks_brakeOrder _ _)

theorem unmarks_actOnRun (c : Cause) (first : Bool) : s.Unmarks (actOnRun c first s) := by
  unfold actOnRun
  split
  · cases first
    · exact .refl s
    · exact unmarks_endStart s
  · split
    · exact .of_side (by simp)
    · exact unmarks_goBraking s
  · exact .refl s

theorem unmarks_takeCause {c : Cause} (hc : c.isEmergency = false) (i : Nat) : s.Unmarks (takeCause c i s) := by
  unfold takeCause
  simp only [hc, Bool.false_eq_true, if_false]
  split
  · exact (State.Unmarks.of_side (machineSide_recordPrimary s c i)).trans (unmarks_actOnRun _ _ _)
  · exact (State.Unmarks.of_side (t := convertKind c (appendCause c i s)) (by simp)).trans (unmarks_actOnRun _ _ _)
  · exact .of_side (by simp)
  · exact .of_side (by simp)
  · exact .of_side (by simp)
  · exact .of_side (by simp)

/-! ### What the fall of the needle flag leaves of the marks (R32) -/

theorem unmarks_endStepwise (r : OpResult) (w : Option DetailWord) : s.Unmarks (endStepwise r w s) :=
  State.Unmarks.trans (t := s.modFrame fun f => { f with dwell := none }) ⟨rfl, rfl, rfl, fun _ _ => id⟩ (.of_side (by simp [endStepwise]))

theorem unmarks_needleDownAtFrame : s.Unmarks (needleDownAtFrame s) := by
  unfold needleDownAtFrame
  split
  · split
    · exact unmarks_takeCause s rfl _
    · exact unmarks_markAbort s _
  · split
    · exact unmarks_endStepwise s _ _
    · exact .refl s

theorem unmarks_needleDownAtBar : s.Unmarks (needleDownAtBar s) := by
  have hfail (t : State) : t.Unmarks (failStartChange t) := by
    unfold failStartChange
    dsimp only
    split
    · exact (State.Unmarks.of_side (by simp)).trans (unmarks_takeCause _ rfl _)
    · exact .of_side (by simp)
  unfold needleDownAtBar
  split
  · exact .refl s
  · refine (State.Unmarks.of_side (machineSide_endChange s .aborted (some .needleDown))).trans ?_
    dsimp only
    split
    · exact hfail _
    · exact .refl _

end

end Sys2Proof.Machine
end

section
/-! PROOFS. An EMERGENCY cause (R95): the work and the operation that it ends, and what it leaves of the machine while the shaft turns. -/

namespace Sys2Proof.Machine

/-! ### The ends of the work in progress and of an operation (R88, R103, R122, R133) -/

/-- What the end of a start's work, or of the operation in the slot, may change: the slot, the wait and the work themselves, the frame's
dwell and homing, the needle bar, the tests, the pulse of a channel under test, and the notice OP_DONE; and with the slot empty no
notice. -/
structure EndsWork (s t : State) : Prop where
  eq : t = { s with
    run := { s.run with slot := t.run.slot, resume := t.run.resume, colourTimer := t.run.colourTimer, work := t.run.work }
    frame := { s.frame with dwell := t.frame.dwell, homing := t.frame.homing }
    func := { s.func with channels := t.func.channels, test := t.func.test }
    needle := t.needle, thread := t.thread, notices := t.notices }
  wait : t.run.resume = s.run.resume ∧ t.run.colourTimer = s.run.colourTimer ∨ t.run.resume = none ∧ t.run.colourTimer = .stopped
  work : t.run.work = s.run.work ∨ t.run.work = none
  channels : ∀ k : Chan, t.func.channels[k] = s.func.channels[k] ∨ t.func.channels[k] = s.func.channels[k].endPulse
  notices : ∀ src : Source, src ≠ srcOpDone → t.notices.sources[src] = s.notices.sources[src]
  idle : s.run.slot = none → t.run.slot = none ∧ t.notices = s.notices

namespace EndsWork
variable {s t u : State}

theorem refl (s : State) : EndsWork s s :=
  ⟨rfl, .inl ⟨rfl, rfl⟩, .inl rfl, fun _ => .inl rfl, fun _ _ => rfl, fun h => ⟨h, rfl⟩⟩

theorem trans (h : EndsWork s t) (h' : EndsWork t u) : EndsWork s u where
  eq := by
    have heq := h'.eq
    rw [h.eq] at heq
    exact heq
  wait := by
    rcases h'.wait with ⟨hr, hc⟩ | h'
    · rw [hr, hc]; exact h.wait
    · exact .inr h'
  work := by
    rcases h'.work with hw | hw
    · rw [hw]; exact h.work
    · exact .inr hw
  channels k := by
    rcases h'.channels k with hk | hk <;> rw [hk] <;> rcases h.channels k with h | h <;> simp [h, Channel.endPulse]
  notices src hsrc := (h'.notices src hsrc).trans (h.notices src hsrc)
  idle hs := by
    obtain ⟨hslot, hnotices⟩ := h.idle hs
    obtain ⟨hslot', hnotices'⟩ := h'.idle hslot
    exact ⟨hslot', hnotices'.trans hnotices⟩

/-- A change of the needle bar, the tests, and the frame's dwell and homing alone. -/
theorem of_eq {x : NeedleBar} {y : ThreadUnit} {z : Option ChanTest} {d : Option Nat} {h : Option Homing}
    (ht : t = { s with
      frame := { s.frame with dwell := d, homing := h }, func := { s.func with test := z }, needle := x, thread := y }) :
    EndsWork s t := by
  subst ht
  exact ⟨rfl, .inl ⟨rfl, rfl⟩, .inl rfl, fun _ => .inl rfl, fun _ _ => rfl, fun h => ⟨h, rfl⟩⟩

end EndsWork

section
variable (s : State)

theorem endsWork_endOperation (r : OpResult) (d : List Byte) : EndsWork s (endOperation r d s) := by
  cases h : s.run.slot with
  | none => rw [endOperation_of_empty h]; exact .refl s
  | some op =>
    rw [endOperation_of_slot h]
    exact ⟨rfl, .inl ⟨rfl, rfl⟩, .inl rfl, fun _ => .inl rfl, fun src hsrc => raiseNotice_other _ _ _ _ _ hsrc,
      fun h' => by rw [h] at h'; cases h'⟩

theorem endsWork_clearResume : EndsWork s (clearResume s) :=
  ⟨rfl, .inr ⟨rfl, rfl⟩, .inl rfl, fun _ => .inl rfl, fun _ _ => rfl, fun h => ⟨h, rfl⟩⟩

theorem endsWork_noWork : EndsWork s (s.modRun fun r => { r with work := none }) :=
  ⟨rfl, .inl ⟨rfl, rfl⟩, .inr rfl, fun _ => .inl rfl, fun _ _ => rfl, fun h => ⟨h, rfl⟩⟩

theorem endsWork_cancelPulses : EndsWork s (cancelPulses s) :=
  ⟨rfl, .inl ⟨rfl, rfl⟩, .inl rfl, fun k => .inr (cancelPulses_channel s k), fun _ _ => rfl, fun h => ⟨h, rfl⟩⟩

theorem endsWork_endColourChange {w : Option DetailWord} (hw : w ≠ some .timeout) (n ms : Nat) :
    EndsWork s (endColourChange .aborted n ms w s) := by
  have h : endColourChange .aborted n ms w s = clearResume (endOperation .aborted (changeDetail s n ms w) s) := by
    simp [endColourChange, hw]
  rw [h]
  exact (endsWork_endOperation s _ _).trans (endsWork_clearResume _)

theorem endsWork_endChange {w : Option DetailWord} (hw : w ≠ some .timeout) : EndsWork s (endChange .aborted w s) := by
  have hrelease : EndsWork s (releaseChange s) := .of_eq rfl
  unfold endChange
  split
  · exact .refl s
  · refine hrelease.trans ?_
    dsimp only
    split
    · exact endsWork_endColourChange _ hw _ _
    · exact endsWork_endOperation _ _ _
    · exact endsWork_endOperation _ _ _
    · exact endsWork_noWork _

theorem endsWork_ceaseWork : EndsWork s (ceaseWork s) := by
  have hwork : EndsWork s (match s.run.work with
      | some .sensorTest => releaseSensorTest s
      | some .needle => endChange .aborted (some .emergency) s
      | _ => s) := by
    split
    · exact .of_eq rfl
    · exact endsWork_endChange s (by decide)
    · exact .refl s
  exact hwork.trans (endsWork_noWork _)

theorem endsWork_endHome (r : OpResult) : EndsWork s (endHome r s) :=
  (EndsWork.of_eq (t := s.modFrame fun f => { f with homing := none }) rfl).trans (endsWork_endOperation _ _ _)

theorem endsWork_endStepwise (r : OpResult) (w : Option DetailWord) : EndsWork s (endStepwise r w s) :=
  (EndsWork.of_eq (t := s.modFrame fun f => { f with dwell := none }) rfl).trans (endsWork_endOperation _ _ _)

theorem endsWork_abortSensorTest : EndsWork s (abortSensorTest s) := by
  unfold abortSensorTest
  split
  · exact endsWork_endOperation s _ _
  · exact (EndsWork.of_eq (t := releaseSensorTest s) rfl).trans (endsWork_endOperation _ _ _)

theorem endsWork_endChannelTest : EndsWork s (endChannelTest s) := by
  unfold endChannelTest
  split
  · exact .refl s
  · next x _ =>
    refine ⟨rfl, .inl ⟨rfl, rfl⟩, .inl rfl, fun k => ?_, fun _ _ => rfl, fun h => ⟨h, rfl⟩⟩
    by_cases hk : k = x.chan
    · subst hk; exact .inr (modChannel_same _ _ _)
    · exact .inl (modChannel_other hk _ _)

theorem endsWork_finishChannelTest (r : OpResult) : EndsWork s (finishChannelTest r s) := by
  unfold finishChannelTest
  split
  · exact endsWork_endOperation s _ _
  · exact (endsWork_endChannelTest s).trans (endsWork_endOperation _ _ _)

theorem endsWork_endNeedleUp (r : StoppedReport) : EndsWork s (endNeedleUp r s) := by
  unfold endNeedleUp
  split
  · split
    · exact endsWork_endOperation s _ _
    · exact .refl s
  · exact .refl s

theorem ownMove_of_none {f : Frame} (h : f.move = none) : f.ownMove = none := by simp [Frame.ownMove, h]

end

/-! #### The operation in the slot, by its kind, with no move in progress (R39, R103) -/

section
variable {s : State} {op : Op} (hslot : s.run.slot = some op) (w : DetailWord)
include hslot

theorem abortOperation_needleUp (hk : op.kind = .needleUp) :
    abortOperation w s = s.modRun fun r => { r with slot := some { op with aborted := true } } := by
  simp [abortOperation, hslot, hk]

theorem abortOperation_change (hk : op.kind = .needleSelect ∨ op.kind = .colourChange) :
    abortOperation w s = endChange .aborted (some w) s := by
  rcases hk with hk | hk <;> simp [abortOperation, hslot, hk]

theorem abortOperation_sensorTest (hk : op.kind = .sensorTest) : abortOperation w s = abortSensorTest s := by
  simp [abortOperation, hslot, hk]

theorem abortOperation_channelTest (hk : op.kind = .channelTest) : abortOperation w s = finishChannelTest .aborted s := by
  simp [abortOperation, hslot, hk]

variable (hmove : s.frame.move = none)
include hmove

theorem abortOperation_home (hk : op.kind = .home) : abortOperation w s = endHome .aborted s := by
  simp [abortOperation, hslot, hk, ownMove_of_none hmove]

theorem abortOperation_offset (hk : op.kind = .frameOut ∨ op.kind = .frameReturn) :
    abortOperation w s = endOffsetMove .aborted s := by
  rcases hk with hk | hk <;> simp [abortOperation, hslot, hk, ownMove_of_none hmove]

theorem abortOperation_stepwise (hk : op.kind = .backtrack ∨ op.kind = .repair ∨ op.kind = .repairAbandon) :
    abortOperation w s = if s.needle.change.isSome then endChange .aborted (some w) s else endStepwise .aborted none s := by
  rcases hk with hk | hk | hk <;> simp [abortOperation, hslot, hk, ownMove_of_none hmove]

end

theorem abortOperation_of_empty {s : State} (hslot : s.run.slot = none) (w : DetailWord) : abortOperation w s = s := by
  simp [abortOperation, hslot]

/-- With no move in progress an aborted operation ends, or NEEDLE UP is marked to end (R39, R103). -/
theorem endsWork_abortOperation (s : State) (hmove : s.frame.move = none) {w : DetailWord} (hw : w ≠ .timeout) :
    EndsWork s (abortOperation w s) := by
  have hword : some w ≠ some DetailWord.timeout := by simpa using hw
  cases hslot : s.run.slot with
  | none => rw [abortOperation_of_empty hslot]; exact .refl s
  | some op =>
    cases hk : op.kind
    case needleUp =>
      rw [abortOperation_needleUp hslot w hk]
      exact ⟨rfl, .inl ⟨rfl, rfl⟩, .inl rfl, fun _ => .inl rfl, fun _ _ => rfl, fun h => by rw [hslot] at h; cases h⟩
    case home => rw [abortOperation_home hslot w hmove hk]; exact endsWork_endHome s _
    case frameOut => rw [abortOperation_offset hslot w hmove (.inl hk)]; exact endsWork_endOperation s _ _
    case frameReturn => rw [abortOperation_offset hslot w hmove (.inr hk)]; exact endsWork_endOperation s _ _
    case needleSelect => rw [abortOperation_change hslot w (.inl hk)]; exact endsWork_endChange s hword
    case colourChange => rw [abortOperation_change hslot w (.inr hk)]; exact endsWork_endChange s hword
    case sensorTest => rw [abortOperation_sensorTest hslot w hk]; exact endsWork_abortSensorTest s
    case channelTest => rw [abortOperation_channelTest hslot w hk]; exact endsWork_finishChannelTest s _
    all_goals
      rw [abortOperation_stepwise hslot w hmove (by simp [hk])]
      split
      · exact endsWork_endChange s hword
      · exact endsWork_endStepwise s _ _

end Sys2Proof.Machine
end

section
/-! PROOFS. An EMERGENCY cause up to its brake order, and the brake order at once (R34, R37, R67, R92 to R95, R104, R122, R164). -/

namespace Sys2Proof.Machine

/-! ### What the cause does before it ends the work and the operation -/

/-- The waits and the inject are gone, the demand is 0, the move has ended, the channels are IDLE and no needle is engaged (R52, R67, R95,
R97, R104, R122, R164). -/
def State.stilled (s : State) : State :=
  { s with
    run := { s.run with
      kind := some .emergency, inject := none, resume := none, colourTimer := .stopped
      report := { s.run.report with discarded := s.run.inject.or s.run.report.discarded } }
    planner := { s.planner with demand := 0, held := false }
    frame := (haltFrame s).frame
    func := { s.func with channels := mapTwelve (fun _ c => c.idle) s.func.channels }
    table := { s.table with engage := 0 } }

/-- A run brakes, and any other state is left for LOCKED (R93, R94). -/
def State.braced (s : State) : State :=
  if s.run.state = .running ∨ s.run.state = .stopping then s.modRun fun r => { r with phase := some .braking }
  else setRunState .locked s

/-- The state in which an EMERGENCY cause gives its brake order (R95). -/
def State.emergencyMade (s : State) : State := abortOperation .emergency (ceaseWork s.stilled).braced

/-- What happens to the frame's part depends on it alone (R67). -/
theorem haltFrame_of_frame {s t : State} (h : t.frame = s.frame) : haltFrame t = { t with frame := (haltFrame s).frame } := by
  unfold haltFrame
  rw [State.modFrame_frame, ← h]
  rfl

/-- The changes up to the end of the work, as one. -/
theorem zeroDemand_haltFrame (s : State) : zeroDemand (haltFrame ((idleChannels ((clearResume (discardInject s)).modRun fun r =>
    { r with kind := some .emergency })).modTable fun t => { t with engage := 0 })) = s.stilled := by
  rw [discardInject_eq]
  exact congrArg zeroDemand (haltFrame_of_frame (s := s) (by rfl))

theorem emergency_eq (s : State) : emergency s = brakeOrder .atOnce s.emergencyMade := by
  simp only [emergency, zeroDemand_haltFrame, State.emergencyMade, State.braced]

theorem haltFrame_frame (s : State) : (haltFrame s).frame.move = none ∧ (haltFrame s).frame.stepX = s.frame.stepX ∧
    (haltFrame s).frame.stepY = s.frame.stepY ∧
    (haltFrame s).frame.ref = if s.frame.move ≠ none ∧ s.frame.ref = .referenced then .unsure else s.frame.ref := by
  unfold haltFrame
  rw [State.modFrame_frame]
  split
  · next h => simp [h]
  · next h => simp [h]

/-- What an EMERGENCY cause leaves of s in t, whatever of the work and of an operation it ended (R67, R69, R95, R97, R104, R122, R164). -/
structure State.Stills (s t : State) : Prop where
  params : t.params = s.params
  pins : t.pins = s.pins
  clock : t.clock = s.clock
  kind : t.run.kind = some .emergency
  inject : t.run.inject = none
  resume : t.run.resume = none
  colourTimer : t.run.colourTimer = .stopped
  work : t.run.work = none
  armed : t.run.armed = s.run.armed
  repair : t.run.repair = s.run.repair
  demand : t.planner.demand = 0
  move : t.frame.move = none
  stepX : t.frame.stepX = s.frame.stepX
  stepY : t.frame.stepY = s.frame.stepY
  ref : t.frame.ref = if s.frame.move ≠ none ∧ s.frame.ref = .referenced then .unsure else s.frame.ref
  channels : ∀ k : Chan, t.func.channels[k] = s.func.channels[k].idle
  engage : t.table.engage = 0
  cursor : t.store.cursor = s.store.cursor

/-- The end of the work and of the operation leaves it so. -/
theorem State.Stills.endsWork {s t u : State} (h : s.Stills t) (h' : EndsWork t u) : s.Stills u where
  params := by rw [h'.eq]; exact h.params
  pins := by rw [h'.eq]; exact h.pins
  clock := by rw [h'.eq]; exact h.clock
  kind := by rw [h'.eq]; exact h.kind
  inject := by rw [h'.eq]; exact h.inject
  resume := by
    rcases h'.wait with ⟨hr, -⟩ | ⟨hr, -⟩
    · rw [hr]; exact h.resume
    · exact hr
  colourTimer := by
    rcases h'.wait with ⟨-, hc⟩ | ⟨-, hc⟩
    · rw [hc]; exact h.colourTimer
    · exact hc
  work := by
    rcases h'.work with hw | hw
    · rw [hw]; exact h.work
    · exact hw
  armed := by rw [h'.eq]; exact h.armed
  repair := by rw [h'.eq]; exact h.repair
  demand := by rw [h'.eq]; exact h.demand
  move := by rw [h'.eq]; exact h.move
  stepX := by rw [h'.eq]; exact h.stepX
  stepY := by rw [h'.eq]; exact h.stepY
  ref := by rw [h'.eq]; exact h.ref
  channels k := by
    rcases h'.channels k with hk | hk <;> rw [hk, h.channels k]
    rfl
  engage := by rw [h'.eq]; exact h.engage
  cursor := by rw [h'.eq]; exact h.cursor

theorem stills_ceaseWork (s : State) : s.Stills (ceaseWork s.stilled) := by
  obtain ⟨hmove, hx, hy, href⟩ := haltFrame_frame s
  have h : s.Stills (s.stilled.modRun fun r => { r with work := none }) :=
    ⟨rfl, rfl, rfl, rfl, rfl, rfl, rfl, rfl, rfl, rfl, rfl, hmove, hx, hy, href, fun k => mapTwelve_get _ _ k, rfl, rfl⟩
  have hwork : (ceaseWork s.stilled).run.work = none := rfl
  have hends := endsWork_ceaseWork s.stilled
  have hless : EndsWork (s.stilled.modRun fun r => { r with work := none }) (ceaseWork s.stilled) := by
    refine ⟨?_, hends.wait, .inr hwork, hends.channels, hends.notices, hends.idle⟩
    exact hends.eq
  exact h.endsWork hless

theorem State.Stills.braced {s t : State} (h : s.Stills t) : s.Stills t.braced := by
  unfold State.braced
  split
  · exact ⟨h.params, h.pins, h.clock, h.kind, h.inject, h.resume, h.colourTimer, h.work, h.armed, h.repair, h.demand, h.move, h.stepX,
      h.stepY, h.ref, h.channels, h.engage, h.cursor⟩
  · constructor <;> simp only [setRunState_params, setRunState_pins, setRunState_clock, setRunState_run, setRunState_planner,
      setRunState_frame, setRunState_func, setRunState_table, setRunState_store, h.params, h.pins, h.clock, h.kind, h.inject, h.resume,
      h.colourTimer, h.work, h.armed, h.repair, h.demand, h.move, h.stepX, h.stepY, h.ref, h.channels, h.engage, h.cursor, implies_true]

/-- The operation is ended last. -/
theorem endsWork_emergencyMade (s : State) : EndsWork (ceaseWork s.stilled).braced s.emergencyMade :=
  endsWork_abortOperation _ (stills_ceaseWork s).braced.move (by decide)

theorem stills_emergencyMade (s : State) : s.Stills s.emergencyMade :=
  (stills_ceaseWork s).braced.endsWork (endsWork_emergencyMade s)

/-- What else is as it was when the brake order is given, and the run by its state (R92 to R95). -/
theorem emergencyMade_leaves (s : State) :
    s.emergencyMade.shaft = s.shaft ∧ s.emergencyMade.store = s.store ∧ s.emergencyMade.table = { s.table with engage := 0 } ∧
    s.emergencyMade.run.report = { s.run.report with discarded := s.run.inject.or s.run.report.discarded } ∧
    s.emergencyMade.run.outstanding = s.run.outstanding ∧
    (s.run.state = .running ∨ s.run.state = .stopping →
      s.emergencyMade.run.state = s.run.state ∧ s.emergencyMade.run.phase = some .braking) ∧
    (¬ (s.run.state = .running ∨ s.run.state = .stopping) →
      s.emergencyMade.run.state = .locked ∧ s.emergencyMade.run.phase = s.run.phase) := by
  have hceased := (endsWork_ceaseWork s.stilled).eq
  rw [(endsWork_emergencyMade s).eq]
  have hstate : (ceaseWork s.stilled).run.state = s.run.state := by rw [hceased]; rfl
  by_cases h : s.run.state = .running ∨ s.run.state = .stopping
  · have hbraced : (ceaseWork s.stilled).braced = (ceaseWork s.stilled).modRun fun r => { r with phase := some .braking } := by
      rw [State.braced, hstate, if_pos h]
    rw [hbraced, hceased]
    exact ⟨rfl, rfl, rfl, rfl, rfl, fun _ => ⟨rfl, rfl⟩, fun h' => absurd h h'⟩
  · have hbraced : (ceaseWork s.stilled).braced = setRunState .locked (ceaseWork s.stilled) := by
      rw [State.braced, hstate, if_neg h]
    have hrun : (ceaseWork s.stilled).braced.run = { (ceaseWork s.stilled).run with state := .locked } := by
      rw [hbraced, setRunState_run]
    have hrest : (ceaseWork s.stilled).braced.shaft = s.shaft ∧ (ceaseWork s.stilled).braced.store = s.store ∧
        (ceaseWork s.stilled).braced.table = { s.table with engage := 0 } := by
      rw [hbraced, setRunState_shaft, setRunState_store, setRunState_table, hceased]
      exact ⟨rfl, rfl, rfl⟩
    obtain ⟨hshaft, hstore, htable⟩ := hrest
    refine ⟨hshaft, hstore, htable, ?_, ?_, fun h' => absurd h' h, fun _ => ⟨?_, ?_⟩⟩
    all_goals
      dsimp only
      rw [hrun]
    all_goals rw [hceased]; rfl

/-! ### The brake order at once (R34, R37) -/

/-- The shaft with the line at 0 and BRAKE asserted (R33, R35, R37). -/
def Shaft.braked (h : Shaft) : Shaft :=
  { h with
    line := 0, stall := none, brake := true, waiting := none
    counting := if h.brake then h.counting else decide (h.motion = .turning)
    overrun := if h.brake then h.overrun else 0 }

theorem assertBrake_dropLine (s : State) : assertBrake (dropLine s) = { s with shaft := s.shaft.braked } := by
  have h : (assertBrake (dropLine s)).shaft = s.shaft.braked := by
    cases hb : s.shaft.brake <;> simp [assertBrake, Shaft.braked, hb]
  rw [← h]
  rfl

/-- A shaft that turns on goes on turning until its stopped detection (R34, R37). -/
theorem brakeOrder_turns {s : State} (hmotion : s.shaft.motion = .turning) (hquiet : s.shaft.quiet < s.nat .stopQuiet) :
    brakeOrder .atOnce s = { s with shaft := s.shaft.braked } := by
  have hmoving : (dropLine s).shaft.motion ≠ .stopped := by
    change s.shaft.motion ≠ .stopped
    rw [hmotion]; decide
  simp only [brakeOrder, hmoving, if_false, if_true, assertBrake_dropLine]
  exact if_neg (Nat.not_le.mpr hquiet)

/-- A shaft at rest, or one whose quiet time has passed, has its stopped report at once (R31, R34). -/
theorem brakeOrder_rests {s : State} (h : s.shaft.motion = .stopped ∨ s.nat .stopQuiet ≤ s.shaft.quiet) :
    ∃ x r, brakeOrder .atOnce s = deliverReport r { s with shaft := x } ∧ x.line = 0 ∧ x.brake = true ∧ x.stall = none ∧
      x.motion = .stopped ∧ x.count = s.shaft.count ∧ x.synced = s.shaft.synced ∧
      r.angle = s.angle ∧ r.verdict = s.verdictAt s.angle := by
  cases hmotion : s.shaft.motion with
  | stopped =>
    have hstill : (dropLine s).shaft.motion = .stopped := hmotion
    refine ⟨s.shaft.braked, ({ s with shaft := s.shaft.braked } : State).stoppedReport 0, ?_, rfl, rfl, rfl, hmotion, rfl, rfl, rfl, rfl⟩
    simp only [brakeOrder, hstill, if_true, assertBrake_dropLine]
  | turning =>
    have hmoving : (dropLine s).shaft.motion ≠ .stopped := by
      change s.shaft.motion ≠ .stopped
      rw [hmotion]; decide
    have hquiet : s.nat .stopQuiet ≤ s.shaft.quiet := h.resolve_left (by rw [hmotion]; decide)
    let b : State := { s with shaft := s.shaft.braked }
    have hbrake : brakeOrder .atOnce s = detectStop b := by
      simp only [brakeOrder, hmoving, if_false, if_true, assertBrake_dropLine]
      exact if_pos hquiet
    exact ⟨(restShaft b).shaft, _, hbrake, rfl, rfl, rfl, rfl, rfl, rfl, rfl, rfl⟩

/-! ### An EMERGENCY cause taken (R93, R94) -/

/-- The state with an EMERGENCY cause recorded, by the run state (R92, R93, R94). -/
def State.recorded (c : Cause) (i : Nat) (s : State) : State :=
  match s.run.state with
  | .running => recordPrimary c i s
  | .stopping => convertKind c (appendCause c i s)
  | .halted | .locked => appendCause c i s
  | .idle | .ready => recordAlone c i s

theorem takeCause_emergency {c : Cause} (hc : c.isEmergency = true) (i : Nat) (s : State) :
    takeCause c i s = emergency (s.recorded c i) := by
  unfold takeCause
  simp only [hc, if_true]
  cases h : s.run.state <;> simp only [State.recorded, h]

/-- The recording changes the run's state, kind and report, and the notices. -/
theorem recorded_eq (c : Cause) (i : Nat) (s : State) : s.recorded c i = { s with
    run := { s.run with state := (s.recorded c i).run.state, kind := (s.recorded c i).run.kind, report := (s.recorded c i).run.report }
    notices := (s.recorded c i).notices } := by
  have happend (u : State) : appendCause c i u = { u with run := { u.run with report := (appendCause c i u).run.report } } := by
    unfold appendCause
    split <;> rfl
  unfold State.recorded
  split
  · have hset (u : State) : setRunState .stopping u = { u with
        run := { u.run with state := .stopping }, notices := (setRunState .stopping u).notices } := by
      unfold setRunState
      split
      · next h => rw [← h]
      · rfl
    unfold recordPrimary
    dsimp only
    rw [hset]
    rfl
  · unfold convertKind
    split
    · rw [happend]; rfl
    · rw [happend]
  · rw [happend]
  · rw [happend]
  · rfl
  · rfl

/-- The secondary causes with this one appended while the report has room (R92). -/
def StopReport.noted (r : StopReport) (e : Recorded) : List Recorded := r.secondary ++ if r.secondary.length < 8 then [e] else []

theorem appendCause_run (c : Cause) (i : Nat) (s : State) : (appendCause c i s).run =
    { s.run with report := { s.run.report with secondary := s.run.report.noted ⟨c, i, s.clock⟩ } } := by
  unfold appendCause StopReport.noted
  split
  · next h => rw [if_pos (show _ < 8 from h)]; rfl
  · next h => rw [if_neg (show ¬ _ < 8 from h), List.append_nil]

theorem recorded_run_of_running {s : State} (h : s.run.state = .running) (c : Cause) (i : Nat) : (s.recorded c i).run =
    { s.run with state := .stopping, kind := some c.kind, report := { s.run.report with primary := some ⟨c, i, s.clock⟩ } } := by
  simp only [State.recorded, h]
  rw [recordPrimary, setRunState_run]
  rfl

theorem recorded_of_stopping {s : State} (h : s.run.state = .stopping) (c : Cause) (i : Nat) :
    (s.recorded c i).run.state = .stopping ∧
    (s.recorded c i).run.report = { s.run.report with secondary := s.run.report.noted ⟨c, i, s.clock⟩ } := by
  simp only [State.recorded, h]
  unfold convertKind
  split
  · exact ⟨(congrArg Run.state (appendCause_run c i s)).trans h, congrArg Run.report (appendCause_run c i s)⟩
  · exact ⟨(congrArg Run.state (appendCause_run c i s)).trans h, congrArg Run.report (appendCause_run c i s)⟩

theorem recorded_of_halted {s : State} (h : s.run.state = .halted ∨ s.run.state = .locked) (c : Cause) (i : Nat) :
    s.recorded c i = appendCause c i s := by
  rcases h with h | h <;> simp only [State.recorded, h]

theorem recorded_of_idle {s : State} (h : s.run.state = .idle ∨ s.run.state = .ready) (c : Cause) (i : Nat) :
    s.recorded c i = recordAlone c i s := by
  rcases h with h | h <;> simp only [State.recorded, h]

/-- What is left of a run when the cause has been recorded (R93, R94). -/
structure State.RecordsRun (s t : State) (e : Recorded) : Prop where
  state : t.run.state = .stopping
  running : s.run.state = .running → t.run.report.primary = some e ∧ t.run.report.secondary = s.run.report.secondary
  stopping : s.run.state = .stopping → t.run.report.primary = s.run.report.primary ∧ t.run.report.secondary = s.run.report.noted e

theorem recordsRun_recorded {s : State} (h : s.run.state = .running ∨ s.run.state = .stopping) (c : Cause) (i : Nat) :
    s.RecordsRun (s.recorded c i) ⟨c, i, s.clock⟩ := by
  rcases h with h | h
  · have hrun := recorded_run_of_running h c i
    exact ⟨by rw [hrun], fun _ => by rw [hrun]; exact ⟨rfl, rfl⟩, fun h' => absurd (h.symm.trans h') (by decide)⟩
  · obtain ⟨hstate, hreport⟩ := recorded_of_stopping h c i
    exact ⟨hstate, fun h' => absurd (h.symm.trans h') (by decide), fun _ => by rw [hreport]; exact ⟨rfl, rfl⟩⟩

theorem stills_recorded (c : Cause) (i : Nat) {s t : State} (h : (s.recorded c i).Stills t) : s.Stills t := by
  have heq := recorded_eq c i s
  generalize s.recorded c i = w at heq h
  rw [heq] at h
  exact ⟨h.params, h.pins, h.clock, h.kind, h.inject, h.resume, h.colourTimer, h.work, h.armed, h.repair, h.demand, h.move, h.stepX,
    h.stepY, h.ref, h.channels, h.engage, h.cursor⟩

/-- The state in which the cause, recorded, gives its brake order. -/
def State.caused (c : Cause) (i : Nat) (s : State) : State := (s.recorded c i).emergencyMade

section
variable (c : Cause) (i : Nat) (s : State)

theorem stills_caused : s.Stills (s.caused c i) := stills_recorded c i (stills_emergencyMade _)

theorem caused_shaft : (s.caused c i).shaft = s.shaft := by
  obtain ⟨hshaft, -⟩ := emergencyMade_leaves (s.recorded c i)
  exact hshaft.trans (by rw [recorded_eq])

theorem caused_nat (p : Param) : (s.caused c i).nat p = s.nat p := by
  simp only [State.nat, State.par, (stills_caused c i s).params]

end

/-- A run is STOPPING when the cause has been made known, and brakes (R93, R94). -/
theorem caused_run {c : Cause} (i : Nat) {s : State} (hrun : s.run.state = .running ∨ s.run.state = .stopping) :
    s.RecordsRun (s.caused c i) ⟨c, i, s.clock⟩ ∧ (s.caused c i).run.phase = some .braking ∧
      (s.caused c i).run.outstanding = s.run.outstanding := by
  have hrecords := recordsRun_recorded hrun c i
  have hout : (s.recorded c i).run.outstanding = s.run.outstanding := by rw [recorded_eq]
  obtain ⟨-, -, -, hreport, houtstanding, hin, -⟩ := emergencyMade_leaves (s.recorded c i)
  obtain ⟨hstate, hphase⟩ := hin (.inr hrecords.state)
  unfold State.caused
  refine ⟨⟨hstate.trans hrecords.state, fun h => ?_, fun h => ?_⟩, hphase, houtstanding.trans hout⟩
  · rw [hreport]; exact hrecords.running h
  · rw [hreport]; exact hrecords.stopping h

/-- While the shaft turns and its last count is not yet quiet, an EMERGENCY cause leaves it turning with BRAKE on (R34, R95). -/
theorem takeCause_turning_eq {c : Cause} (hc : c.isEmergency = true) (i : Nat) {s : State} (hmotion : s.shaft.motion = .turning)
    (hquiet : s.shaft.quiet < s.nat .stopQuiet) : takeCause c i s = { s.caused c i with shaft := s.shaft.braked } := by
  have hturns := brakeOrder_turns (s := s.caused c i) (by rw [caused_shaft, hmotion]) (by rw [caused_shaft, caused_nat]; exact hquiet)
  rw [caused_shaft] at hturns
  rw [takeCause_emergency hc, emergency_eq]
  exact hturns

/-- The shaft is no part of what an EMERGENCY cause leaves behind it. -/
theorem State.Stills.modShaft {s t : State} (h : s.Stills t) (x : Shaft) : s.Stills { t with shaft := x } :=
  ⟨h.params, h.pins, h.clock, h.kind, h.inject, h.resume, h.colourTimer, h.work, h.armed, h.repair, h.demand, h.move, h.stepX, h.stepY,
    h.ref, h.channels, h.engage, h.cursor⟩

theorem takeCause_emergency_turning {c : Cause} (hc : c.isEmergency = true) (i : Nat) {s : State} (hmotion : s.shaft.motion = .turning)
    (hquiet : s.shaft.quiet < s.nat .stopQuiet) :
    (takeCause c i s).shaft = s.shaft.braked ∧ s.Stills (takeCause c i s) := by
  rw [takeCause_turning_eq hc i hmotion hquiet]
  exact ⟨rfl, (stills_caused c i s).modShaft _⟩

/-- A run then brakes with the cause recorded (R93, R94, R95). -/
theorem takeCause_emergency_run {c : Cause} (hc : c.isEmergency = true) (i : Nat) {s : State} (hmotion : s.shaft.motion = .turning)
    (hquiet : s.shaft.quiet < s.nat .stopQuiet) (hrun : s.run.state = .running ∨ s.run.state = .stopping) :
    s.RecordsRun (takeCause c i s) ⟨c, i, s.clock⟩ ∧ (takeCause c i s).run.phase = some .braking ∧
      (takeCause c i s).run.outstanding = s.run.outstanding := by
  obtain ⟨hrecords, hphase, hout⟩ := caused_run (c := c) i hrun
  rw [takeCause_turning_eq hc i hmotion hquiet]
  exact ⟨⟨hrecords.state, hrecords.running, hrecords.stopping⟩, hphase, hout⟩

end Sys2Proof.Machine
end

section
/-! PROOFS. The takers of an arrival, and what a count does that reaches no mark, or one mark anew (R24, R28, R31, R32). -/

namespace Sys2Proof.Machine

/-! ### The takers in order (R28) -/

theorem mem_firstOfEach {x : Taker} : ∀ {l seen : List Taker}, x ∈ firstOfEach seen l ↔ x ∈ l ∧ x ∉ seen
  | [], _ => by simp [firstOfEach]
  | t :: l, seen => by
    by_cases ht : t ∈ seen
    · rw [firstOfEach, if_pos (List.contains_iff_mem.mpr ht), mem_firstOfEach, List.mem_cons]
      constructor
      · exact fun ⟨hl, hs⟩ => ⟨.inr hl, hs⟩
      · rintro ⟨rfl | hl, hs⟩
        · exact absurd ht hs
        · exact ⟨hl, hs⟩
    · have hc : ¬ seen.contains t = true := fun h => ht (List.contains_iff_mem.mp h)
      rw [firstOfEach, if_neg hc, List.mem_cons, mem_firstOfEach, List.mem_cons, List.mem_cons]
      by_cases hxt : x = t
      · subst hxt; simp [ht]
      · simp [hxt]

theorem nodup_firstOfEach : ∀ (l seen : List Taker), (firstOfEach seen l).Nodup
  | [], _ => List.nodup_nil
  | t :: l, seen => by
    unfold firstOfEach
    split
    · exact nodup_firstOfEach l seen
    · refine List.nodup_cons.mpr ⟨fun h => ?_, nodup_firstOfEach l _⟩
      exact (mem_firstOfEach.mp h).2 List.mem_cons_self

theorem mem_allChans : ∀ k : Chan, k ∈ allChans := by decide

theorem mem_takersInOrder (order : List Taker) (x : Taker) : x ∈ takersInOrder order := by
  refine mem_firstOfEach.mpr ⟨List.mem_append_right _ ?_, List.not_mem_nil⟩
  cases x with
  | channel k => exact List.mem_append_right _ (List.mem_map_of_mem (mem_allChans k))
  | _ => exact List.mem_append_left _ (by decide)

theorem nodup_takersInOrder (order : List Taker) : (takersInOrder order).Nodup := nodup_firstOfEach _ _

/-- Where one thing alone is taken, it is taken once. -/
theorem filter_takersInOrder_of_one (order : List Taker) {p : Taker → Bool} {x : Taker} (h : ∀ t, p t = true ↔ t = x) :
    (takersInOrder order).filter p = [x] := by
  have hp : p = fun t => t == x := by
    funext t
    rw [Bool.eq_iff_iff, h, beq_iff_eq]
  rw [hp, List.filter_beq, List.count_eq_one_of_mem (nodup_takersInOrder order) (mem_takersInOrder order x)]
  rfl

/-! ### An arrival with nothing, or with one thing, to take -/

theorem arrive_of_none {order : List Taker} {a : Nat} {s : State} (h : ∀ t, s.takesAt a t = false) : arrive order a s = s := by
  have hnone : (takersInOrder order).filter (s.takesAt a) = [] := List.filter_eq_nil_iff.mpr fun t _ => by simp [h t]
  rw [arrive, hnone]
  rfl

theorem arrive_of_one {order : List Taker} {a : Nat} {x : Taker} {s : State} (h : ∀ t, s.takesAt a t = true ↔ t = x) :
    arrive order a s = (takeOne a [] x (s, none)).1 := by
  rw [arrive, filter_takersInOrder_of_one order h]
  rfl

/-! ### An arrival at window start with no turn outstanding and no call to make (R37, R89) -/

/-- The Run Controller takes no part of a window start. -/
def State.TurnsNone (s : State) : Prop := s.run.phase = none ∨ s.run.phase = some .braking ∧ s.run.outstanding = none

theorem takeWindowStart_of_turnsNone {s : State} (h : s.TurnsNone) :
    ∃ w, takeWindowStart s = (s, w) ∧ w.done = none ∧ w.calls = false := by
  rcases h with hphase | ⟨hphase, hout⟩
  · exact ⟨⟨none, false, 0⟩, by simp [takeWindowStart, hphase], rfl, rfl⟩
  · have hrun : { s.run with outstanding := none } = s.run := by rw [← hout]
    have hsame : (s.modRun fun r => { r with outstanding := none }) = s := by rw [State.modRun, hrun]
    refine ⟨⟨none, false, if s.run.repair.active then s.run.repair.selection else 0⟩, ?_, rfl, rfl⟩
    simp [takeWindowStart, hphase, hout, hsame]

/-- The arrival has been taken by the Run Controller to this effect, or is still to be. -/
def Awaits (x : State × Option WindowStart) : Prop :=
  match x.2 with
  | none => x.1.TurnsNone
  | some w => w.done = none ∧ w.calls = false

/-- What completes, retains and calls then does nothing (R89). -/
theorem takeOne_awaits {t : Taker} (ht : t ∈ [Taker.completion, .retention, .call]) (a : Nat) (later : List Taker)
    {x : State × Option WindowStart} (hx : Awaits x) : ∃ w, takeOne a later t x = (x.1, w) ∧ Awaits (x.1, w) := by
  obtain ⟨s, o⟩ := x
  simp only [List.mem_cons, List.not_mem_nil, or_false] at ht
  cases o with
  | none =>
    obtain ⟨w, hw, hdone, hcalls⟩ := takeWindowStart_of_turnsNone hx
    refine ⟨some w, ?_, hdone, hcalls⟩
    rcases ht with rfl | rfl | rfl <;> simp [takeOne, hw, completeTurn, hdone, hcalls]
  | some w =>
    obtain ⟨hdone, hcalls⟩ := hx
    refine ⟨some w, ?_, hdone, hcalls⟩
    rcases ht with rfl | rfl | rfl <;> simp [takeOne, completeTurn, hdone, hcalls]

/-- Without the overrun the arrival does nothing. -/
theorem takeAll_awaits (a : Nat) : ∀ (l : List Taker) {x : State × Option WindowStart},
    (∀ t ∈ l, t ∈ [Taker.completion, .retention, .call]) → Awaits x → (takeAll a l x).1 = x.1
  | [], _, _, _ => rfl
  | t :: l, x, hl, hx => by
    obtain ⟨w, hw, hrest⟩ := takeOne_awaits (hl t List.mem_cons_self) a l hx
    rw [takeAll, hw]
    exact takeAll_awaits a l (fun t ht => hl t (List.mem_cons_of_mem _ ht)) hrest

/-- With it, wherever it comes, the overrun alone is taken. -/
theorem takeAll_overrun (a : Nat) {l : List Taker} {x : State × Option WindowStart}
    (hl : ∀ t ∈ l, t = .overrun ∨ t ∈ [Taker.completion, .retention, .call]) (hnodup : l.Nodup) (hmem : .overrun ∈ l) (hx : Awaits x)
    (hnone : (overrunArrival x.1).TurnsNone) : (takeAll a l x).1 = overrunArrival x.1 := by
  induction l generalizing x with
  | nil => cases hmem
  | cons t l ih =>
    obtain ⟨hnot, hnodup⟩ := List.nodup_cons.mp hnodup
    have hrest : ∀ t ∈ l, t = .overrun ∨ t ∈ [Taker.completion, .retention, .call] := fun t ht => hl t (List.mem_cons_of_mem _ ht)
    rw [takeAll]
    rcases hl t List.mem_cons_self with rfl | ht
    · have hafter : Awaits (overrunArrival x.1, x.2) := by
        obtain ⟨s, o⟩ := x
        cases o with
        | none => exact hnone
        | some w => exact hx
      rw [show takeOne a l .overrun x = (overrunArrival x.1, x.2) from takeOne_overrun a l x.1 x.2]
      exact takeAll_awaits a l (fun t ht => (hrest t ht).resolve_left fun h => hnot (h ▸ ht)) hafter
    · obtain ⟨w, hw, hawaits⟩ := takeOne_awaits ht a l hx
      have hne : Taker.overrun ≠ t := by rintro rfl; simp at ht
      rw [hw]
      exact ih hrest hnodup ((List.mem_cons.mp hmem).resolve_left hne) hawaits hnone

theorem arrive_overrun {order : List Taker} {a : Nat} {s : State}
    (h : ∀ t, s.takesAt a t = true ↔ t ∈ [Taker.overrun, .completion, .retention, .call]) (hs : s.TurnsNone)
    (hnone : (overrunArrival s).TurnsNone) : arrive order a s = overrunArrival s := by
  refine takeAll_overrun a (fun t ht => ?_) ((nodup_takersInOrder order).filter _) ?_ hs hnone
  · simpa using (h t).mp (List.mem_filter.mp ht).2
  · exact List.mem_filter.mpr ⟨mem_takersInOrder order _, (h _).mpr (by simp)⟩

/-! ### A count noted (R24, R31) -/

/-- The shaft with its quiet time and stall timer restarted. -/
def Shaft.noted (h : Shaft) : Shaft := { h with quiet := 0, stall := h.stall.map fun _ => 0 }

/-- The state with a count of this direction noted, in range. -/
def State.counts (d : Dir) (s : State) : State :=
  (noteCount s).modShaft fun h => { h with count := h.count + Dir.step d, timedRev := h.timedRev && decide (d = .forward) }

/-- The counts that R24 keeps the counter at. -/
def State.CountsTo (s : State) (c : Int) : Prop :=
  (if s.shaft.synced then -2 else -(s.nat .encCounts + 2 : Int)) ≤ c ∧ c ≤ s.nat .encCounts + 2

theorem inCountRange_noteCount {s : State} {c : Int} : (noteCount s).inCountRange c = true ↔ s.CountsTo c := by
  rw [State.inCountRange, Bool.and_eq_true, decide_eq_true_iff, decide_eq_true_iff]
  exact and_comm

theorem noteCount_of_turning {s : State} (h : s.shaft.motion = .turning) : noteCount s = { s with shaft := s.shaft.noted } := by
  have hmotion : (if 0 < s.shaft.line then Motion.turning else s.shaft.motion) = s.shaft.motion := by rw [h, ite_self]
  unfold noteCount State.modShaft Shaft.noted
  dsimp only
  rw [hmotion]

theorem followFlag_of_turning {s : State} (h : s.shaft.motion = .turning) (old : Bool) : followFlag old s = s :=
  if_neg (by rw [h]; decide)

theorem unmarks_followFlag (old : Bool) (s : State) : s.Unmarks (followFlag old s) := by
  have hflag : s.Unmarks (s.modShaft fun h => { h with needleUp := s.flagNow }) := ⟨rfl, rfl, rfl, fun _ _ => id⟩
  unfold followFlag
  dsimp only
  split
  · split
    · exact (hflag.trans (unmarks_needleDownAtFrame _)).trans (unmarks_needleDownAtBar _)
    · exact hflag
  · exact .refl s

/-- A count in range that raises no mark moves the counter, and the needle flag follows (R24, R28, R32). -/
theorem countShaft_unmarked {d : Dir} {s : State} (order : List Taker) (hrange : s.CountsTo (s.shaft.count + Dir.step d))
    (hnone : d = .reverse ∨ s.shaft.synced = false ∨
      ∀ t, s.takesAt (angleOfCount (s.nat .encCounts) (s.shaft.count + Dir.step d)) t = false) :
    countShaft d order s = followFlag s.shaft.needleUp (s.counts d) := by
  have hin : (noteCount s).inCountRange ((noteCount s).shaft.count + Dir.step d) = true := inCountRange_noteCount.mpr hrange
  have hraw : ((noteCount s).modShaft fun h =>
      { h with count := (noteCount s).shaft.count + Dir.step d, timedRev := h.timedRev && decide (d = .forward) }) = s.counts d := rfl
  have hkeeps := unmarks_followFlag s.shaft.needleUp (s.counts d)
  have htakes (a : Nat) (t : Taker) : (s.counts d).takesAt a t = s.takesAt a t := by cases t <;> rfl
  simp only [countShaft, hin, if_true, hraw, hkeeps.angle_eq]
  split
  · next a hangle =>
    have hsynced : s.shaft.synced = true := by
      by_contra h
      rw [State.angle, if_neg (show ¬ (s.counts .forward).shaft.synced = true from h)] at hangle
      cases hangle
    have ha : angleOfCount (s.nat .encCounts) (s.shaft.count + Dir.step .forward) = a := by
      rw [State.angle, if_pos (show (s.counts .forward).shaft.synced = true from hsynced)] at hangle
      exact Option.some.inj hangle
    have hno := (hnone.resolve_left (by decide)).resolve_left (by simp [hsynced])
    split
    · rfl
    · exact arrive_of_none fun t => hkeeps.takesAt_eq_false ((htakes a t).trans (ha ▸ hno t))
  · rfl

/-- A count out of range misses the index (R24). -/
theorem countShaft_misses {d : Dir} {s : State} (order : List Taker) (hrange : ¬ s.CountsTo (s.shaft.count + Dir.step d)) :
    countShaft d order s = followFlag s.shaft.needleUp (missIndex (noteCount s)) :=
  if_neg fun h => hrange (inCountRange_noteCount.mp h)

theorem exec_encoderCount {s : State} (hs : s.awake) (d : Dir) (tension : List (BitVec 10)) (order : List Taker) :
    exec (.encoderCount d tension order) s = .next (settle (countShaft d order (setTension tension s))) :=
  congrArg _ (event_of_awake hs)

theorem exec_encoderIndex {s : State} (hs : s.awake) (d : Dir) (us : Word) (tension : List (BitVec 10)) (order : List Taker) :
    exec (.encoderIndex d us tension order) s = .next (settle (indexShaft d us.toNat order (setTension tension s))) :=
  congrArg _ (event_of_awake hs)

/-! ### A count that reaches an angle anew (R28) -/

/-- A forward count brings the turning shaft, SYNCED, to another angle. -/
structure State.Reaches (s : State) : Prop where
  awake : s.awake
  turning : s.shaft.motion = .turning
  synced : s.shaft.synced = true
  inRange : s.CountsTo (s.shaft.count + 1)
  anew : s.angle ≠ some (angleOfCount (s.nat .encCounts) (s.shaft.count + 1))

/-- The angle it reaches. -/
def State.nextAngle (s : State) : Nat := angleOfCount (s.nat .encCounts) (s.shaft.count + 1)

theorem counted_takesAt (tension : List (BitVec 10)) (s : State) (a : Nat) (t : Taker) :
    (s.counted tension).takesAt a t = s.takesAt a t := by
  cases t <;> rfl

theorem exec_reaches {s : State} (h : s.Reaches) (tension : List (BitVec 10)) (order : List Taker) :
    exec (.encoderCount .forward tension order) s = .next (settle (arrive order s.nextAngle (s.counted tension))) := by
  have hin : (noteCount (setTension tension s)).inCountRange ((noteCount (setTension tension s)).shaft.count + 1) = true :=
    inCountRange_noteCount.mpr h.inRange
  have hangle : (s.counted tension).angle = some s.nextAngle := by
    have hsync : (s.counted tension).shaft.synced = true := h.synced
    rw [State.angle, if_pos hsync]
    rfl
  have hflag (old : Bool) : followFlag old (s.counted tension) = s.counted tension :=
    followFlag_of_turning (s := s.counted tension) h.turning old
  rw [exec_encoderCount h.awake]
  simp only [countShaft, Dir.step, hin, if_true, decide_true, noteCount_counted tension h.turning, hflag, hangle]
  congr 2
  exact if_neg h.anew

/-- One thing is taken there. -/
theorem exec_reaches_one {s : State} (h : s.Reaches) (tension : List (BitVec 10)) (order : List Taker) {x : Taker}
    (hx : ∀ t, s.takesAt s.nextAngle t = true ↔ t = x) :
    exec (.encoderCount .forward tension order) s =
      .next (settle (takeOne s.nextAngle [] x (s.counted tension, none)).1) := by
  rw [exec_reaches h, arrive_of_one (x := x)]
  intro t
  rw [counted_takesAt, hx]

end Sys2Proof.Machine
end

section
/-! PROOFS. What a count does at each mark that it reaches anew (R34, R37, R38, R65, R118, R144, R145). -/

namespace Sys2Proof.Machine

/-- The state once a count of the turning shaft has been noted, the counter at n (R24). -/
theorem counts_of_turning {s : State} (h : s.shaft.motion = .turning) (d : Dir) : s.counts d = { s with
    shaft := { s.shaft.noted with
      count := s.shaft.count + Dir.step d, timedRev := s.shaft.timedRev && decide (d = .forward) } } := by
  rw [State.counts, noteCount_of_turning h]
  rfl

/-! ### The gate and sample marks (R144, R145) -/

/-- The newest gathering is the last of the list. -/
theorem changeNewest_eq (f : Gathering → Gathering) : ∀ l : List Gathering,
    changeNewest f l = l.dropLast ++ l.getLast?.toList.map f
  | [] => rfl
  | [_] => rfl
  | g :: g' :: l => by
    rw [changeNewest, changeNewest_eq f (g' :: l)]
    · simp
    · simp

/-- A change of every monitor that does not ask for its head. -/
theorem mapTwelve_const {α : Type} (f : α → α) (v : Vector α 12) : mapTwelve (fun _ => f) v = v.map f := by
  ext i hi
  simpa using mapTwelve_get (fun _ => f) v ⟨i, hi⟩

theorem gateStart_eq (m : Monitor) : m.gateStart = { m with
    gatherings := m.gatherings.dropLast ++ m.gatherings.getLast?.toList.map fun g =>
      { g with gate := if g.gate = .notYet then .opened else g.gate } } := by
  have hf : (fun g : Gathering => if g.gate = .notYet then { g with gate := .opened } else g) =
      fun g => { g with gate := if g.gate = .notYet then .opened else g.gate } := by
    funext g
    split <;> rfl
  rw [Monitor.gateStart, changeNewest_eq, hf]

theorem gateEnd_eq (m : Monitor) : m.gateEnd = { m with
    gatherings := m.gatherings.dropLast ++ m.gatherings.getLast?.toList.map fun g =>
      { g with gate := if g.gate = .opened then .closed else g.gate } } := by
  have hf : (fun g : Gathering => if g.gate = .opened then { g with gate := .closed } else g) =
      fun g => { g with gate := if g.gate = .opened then .closed else g.gate } := by
    funext g
    split <;> rfl
  rw [Monitor.gateEnd, changeNewest_eq, hf]

theorem sample_eq (level : BitVec 10) (m : Monitor) : m.sample level = { m with
    gatherings := m.gatherings.dropLast ++ m.gatherings.getLast?.toList.map fun g =>
      { g with reading := g.reading.or (some level) } } := by
  have hf : (fun g : Gathering => if g.reading.isNone then { g with reading := some level } else g) =
      fun g => { g with reading := g.reading.or (some level) } := by
    funext g
    cases hg : g.reading with
    | none => rfl
    | some r =>
      simp only [Option.isNone_some, Bool.false_eq_true, if_false, Option.some_or]
      rw [← hg]
  rw [Monitor.sample, changeNewest_eq, hf]

/-- Where the command names no level of a head, its input keeps its level. -/
theorem setTension_tension {tension : List (BitVec 10)} {h : Head} (hnone : tension[h.val]? = none) (s : State) :
    (setTension tension s).pins.tension[h] = s.pins.tension[h] := by
  refine (mapTwelve_get _ s.pins.tension h).trans ?_
  rw [hnone]
  rfl

/-! ### BRAKE at the brake and rest marks (R34, R37, R38) -/

/-- BRAKE asserted on a turning shaft begins the overrun count (R37). -/
theorem assertBrake_of_turning {s : State} (hmotion : s.shaft.motion = .turning) (hbrake : s.shaft.brake = false) :
    assertBrake s = { s with shaft := { s.shaft with brake := true, waiting := none, counting := true, overrun := 0 } } := by
  simp [assertBrake, State.modShaft, hmotion, hbrake]

theorem brakeMark_of_waiting {s : State} (hwaiting : s.shaft.waiting = some .atBrakeMark) : brakeMark s = assertBrake s :=
  if_pos hwaiting

theorem restMark_of_needleUp {s : State} {op : Op} (hslot : s.run.slot = some op) (hkind : op.kind = .needleUp)
    (hline : 0 < s.shaft.line) : restMark s = assertBrake (dropLine s) :=
  if_pos ⟨by simp [State.needleUpRuns, hslot, hkind], hline⟩

/-! ### A channel's mark (R29, R118) -/

/-- A due that is not reached at this arrival. -/
theorem countOff_ne_zero (a : Nat) {d : Due} (h : 0 < d.toGo ∧ (d.angle = a → 1 < d.toGo)) : (d.countOff a).toGo ≠ 0 := by
  unfold Due.countOff
  split
  · next hat => exact Nat.sub_ne_zero_of_lt (h.2 hat)
  · exact h.1.ne'

section
variable {k : Channel} {p : Pulse} (a : Nat) (hp : k.pulse = some p)
include hp

/-- The last arrival at the end of a pulse ends it. -/
theorem arrive_ends {d : Due} (hstop : p.stop = some d) (hat : d.angle = a) (hlast : d.toGo = 1) :
    Channel.arrive a k = { k with pulse := none } := by
  simp [Channel.arrive, hp, hstop, Due.countOff, hat, hlast, Channel.endPulse]

/-- With the end still to come, the last arrival at its start begins the pulse. -/
theorem arrive_begins {b : Due} (hstart : p.start = some b) (hat : b.angle = a) (hlast : b.toGo = 1)
    (hstop : ∀ d, p.stop = some d → 0 < d.toGo ∧ (d.angle = a → 1 < d.toGo)) :
    Channel.arrive a k = { k with pulse := some { p with active := true, start := none, stop := p.stop.map (Due.countOff a) } } := by
  have hends : ((p.stop.map (Due.countOff a)).any fun d => decide (d.toGo = 0)) = false := by
    cases hd : p.stop with
    | none => rfl
    | some d => simpa using countOff_ne_zero a (hstop d hd)
  have hbegins : ((p.start.map (Due.countOff a)).any fun d => decide (d.toGo = 0)) = true := by
    simp [hstart, Due.countOff, hat, hlast]
  simp only [Channel.arrive, hp, hends, hbegins, Bool.false_eq_true, if_false, if_true]

/-- Any other arrival is counted off the dues. -/
theorem arrive_counts (h : ∀ d, p.start = some d ∨ p.stop = some d → 0 < d.toGo ∧ (d.angle = a → 1 < d.toGo)) :
    Channel.arrive a k = { k with
      pulse := some { p with start := p.start.map (Due.countOff a), stop := p.stop.map (Due.countOff a) } } := by
  have hmore (o : Option Due) (ho : ∀ d, o = some d → 0 < d.toGo ∧ (d.angle = a → 1 < d.toGo)) :
      ((o.map (Due.countOff a)).any fun d => decide (d.toGo = 0)) = false := by
    cases o with
    | none => rfl
    | some d => simpa using countOff_ne_zero a (ho d rfl)
  simp only [Channel.arrive, hp, hmore p.stop fun d hd => h d (.inr hd), hmore p.start fun d hd => h d (.inl hd), Bool.false_eq_true,
    if_false]

end

/-! ### The late marks of a move (R65) -/

/-- MOVE_LATE in SEWING begins the braking (R52, R90, R93). -/
theorem takeCause_moveLate_sewing {s : State} (hstate : s.run.state = .running) (hphase : s.run.phase = some .sewing)
    (hmotion : s.shaft.motion = .turning) (hquiet : s.shaft.quiet < s.nat .stopQuiet) (i : Nat) :
    ∃ t, takeCause .moveLate i s = t ∧ t.run.state = .stopping ∧ t.run.phase = some .braking ∧ t.run.kind = some .quick ∧
      t.run.report.primary = some ⟨.moveLate, i, s.clock⟩ ∧ t.run.inject = none ∧ t.run.outstanding = s.run.outstanding ∧
      t.planner.demand = 0 ∧ t.frame = s.frame ∧
      t.shaft = { s.shaft with line := 0, stall := none, waiting := s.shaft.waiting.or (some .atBrakeMark) } ∧
      t.store = s.store ∧ t.thread = s.thread ∧ t.table = s.table ∧ t.func = s.func := by
  let r := recordPrimary .moveLate i s
  have hrecords : Records s r := records_recordPrimary .moveLate i s
  have hrun : r.run = { s.run with
      state := .stopping, kind := some .quick, report := { s.run.report with primary := some ⟨.moveLate, i, s.clock⟩ } } := by
    simp only [r]
    rw [recordPrimary, setRunState_run]
    rfl
  have heq := hrecords.eq
  have hshaft : r.shaft = s.shaft := by rw [heq]
  have hparams : r.params = s.params := by rw [heq]
  have hnat : r.nat .stopQuiet = s.nat .stopQuiet := by simp only [State.nat, State.par, hparams]
  have htaken : takeCause .moveLate i s = goBraking r := by
    have hnot : Cause.isEmergency .moveLate = false := rfl
    have hfamily : Cause.isFamily .moveLate = false := rfl
    have hsewing : r.run.phase = some .sewing := by rw [hrun]; exact hphase
    simp only [takeCause, hstate, hnot, Bool.false_eq_true, if_false, actOnRun]
    change (match r.run.phase with | some .starting => _ | some .sewing => _ | _ => _) = _
    rw [hsewing]
    simp only [hfamily, Bool.false_eq_true, if_false]
    rfl
  rw [htaken, goBraking_of_turning (by rw [hshaft, hmotion]) (by rw [hshaft, hnat]; exact hquiet)]
  refine ⟨_, rfl, ?_, rfl, ?_, ?_, rfl, hrecords.outstanding, rfl, ?_, ?_, ?_, ?_, ?_, ?_⟩
  · dsimp only; rw [hrun]
  · dsimp only; rw [hrun]
  · dsimp only; rw [hrun]
  · dsimp only; rw [heq]
  · dsimp only; rw [hshaft]
  · dsimp only; rw [heq]
  · dsimp only; rw [heq]
  · dsimp only; rw [heq]
  · dsimp only; rw [heq]

theorem lateMark_of_other {w : LateWatch} {s : State} (h : s.frame.late ≠ some w) : lateMark w s = s := if_neg h

theorem lateMark_of_watched {w : LateWatch} {s : State} {m : Move} {i : Nat} (h : s.frame.late = some w) (hmove : s.frame.move = some m)
    (hturn : m.turn = some i) : lateMark w s = takeCause .moveLate i { s with frame := { s.frame with late := none } } := by
  rw [lateMark, if_pos h, hmove]
  change takeCause .moveLate (m.turn.getD s.store.cursor) _ = _
  rw [hturn]
  rfl

/-! ### The overrun count (R37) -/

theorem overrunArrival_counts {s : State} (hcounting : s.shaft.counting = true) (h : s.shaft.overrun ≠ 2) :
    overrunArrival s = { s with shaft := { s.shaft with overrun := s.shaft.overrun + 1 } } := by
  have hless : s.shaft.overrun + 1 ≠ Config.overrunLimit := fun h' => h (Nat.succ.inj h')
  rw [overrunArrival, if_pos hcounting]
  exact if_neg hless

theorem overrunArrival_third {s : State} (hcounting : s.shaft.counting = true) (h : s.shaft.overrun = 2) :
    overrunArrival s = takeCause .stopFail s.store.cursor { s with shaft := { s.shaft with overrun := 3 } } := by
  rw [overrunArrival, if_pos hcounting]
  have hthird : (s.modShaft fun h => { h with overrun := h.overrun + 1 }) = { s with shaft := { s.shaft with overrun := 3 } } := by
    rw [State.modShaft, h]
  dsimp only
  rw [hthird]
  exact if_pos rfl

end Sys2Proof.Machine
end

section
/-! PROOFS. The index, and a count that misses it, on a turning shaft (R24, R25, R27). -/

namespace Sys2Proof.Machine

/-! ### The fault ENCODER (R24, R25) -/

/-- A count that misses the index raises ENCODER with the counter at 0, and the shaft turns on. -/
theorem countShaft_misses_turning {d : Dir} {s : State} (order : List Taker) (hmotion : s.shaft.motion = .turning)
    (hquiet : 0 < s.nat .stopQuiet) (hrange : ¬ s.CountsTo (s.shaft.count + Dir.step d)) :
    countShaft d order s = takeCause .encoder s.store.cursor
      { s with shaft := { s.shaft.noted with count := 0, synced := false, timedRev := false, needleUp := false } } := by
  have hmiss : missIndex (noteCount s) = takeCause .encoder s.store.cursor
      { s with shaft := { s.shaft.noted with count := 0, synced := false, timedRev := false, needleUp := false } } := by
    rw [missIndex, noteCount_of_turning hmotion]
    rfl
  rw [countShaft_misses order hrange, hmiss]
  obtain ⟨hshaft, -⟩ := takeCause_emergency_turning (c := .encoder) rfl s.store.cursor
    (s := { s with shaft := { s.shaft.noted with count := 0, synced := false, timedRev := false, needleUp := false } }) hmotion hquiet
  refine followFlag_of_turning ?_ _
  rw [hshaft]
  exact hmotion

/-! ### The index (R25, R27) -/

section
variable {s : State} (d : Dir) (us : Nat) (order : List Taker)

theorem indexShaft_of_unsynced (hsynced : s.shaft.synced = false) : indexShaft d us order s =
    followFlag s.shaft.needleUp ((noteCount s).modShaft fun h =>
      { h with count := s.countAtIndex d, synced := true, timedRev := false }) :=
  if_pos hsynced

/-- A later index, whose check passes or raises ENCODER first. -/
theorem indexShaft_of_synced (hsynced : s.shaft.synced = true) : indexShaft d us order s =
    let t := if s.indexCheck d = true then noteCount s else takeCause .encoder s.store.cursor (noteCount s)
    followFlag s.shaft.needleUp (match d with
      | .forward => indexForward (s.indexCheck d) us order t
      | .reverse => indexReverse t) :=
  if_neg (by rw [show (noteCount s).shaft.synced = s.shaft.synced from rfl, hsynced]; decide)

/-- A forward index that passes angle 0 alone, with nothing there to take, times the revolution (R27). -/
theorem indexForward_at_zero {ok : Bool} (hat : s.angle = some 359 ∨ ok = false)
    (hnone : ∀ t, s.takesAt 0 t = false) (hmotion : s.shaft.motion = .turning) : indexForward ok us order s = { s with
      shaft := { s.shaft with
        count := 0, revs := s.shaft.revs + 1, timedRev := true
        speed := if s.shaft.timedRev then speedOf us else s.shaft.speed } } := by
  have hend : endRevolution us s = { s with shaft := { s.shaft with
      revs := s.shaft.revs + 1, timedRev := true, speed := if s.shaft.timedRev then speedOf us else s.shaft.speed } } := by
    simp [endRevolution, State.modShaft, hmotion]
  have hangles : (if ok then anglesToZero (s.angle.getD 0) else if s.angle.getD 0 = 0 then [] else [0]) = [0] ∨
      (if ok then anglesToZero (s.angle.getD 0) else if s.angle.getD 0 = 0 then [] else [0]) = [] := by
    rcases hat with hat | rfl
    · rw [hat]
      cases ok <;> decide
    · by_cases h : s.angle.getD 0 = 0
      · exact .inr (by simp [h])
      · exact .inl (by simp [h])
  have htakes (w : State) (t : Taker) (hw : w.takesAt 0 t = s.takesAt 0 t) : w.takesAt 0 t = false := hw.trans (hnone t)
  unfold indexForward
  dsimp only
  rw [hend]
  rcases hangles with h | h <;> rw [h]
  · rw [arriveAll, arriveAll, arrive_of_none]
    · rfl
    · exact fun t => htakes _ t (by cases t <;> rfl)
  · rfl

end

/-- What is taken where the channels are IDLE and the parameters the same (R29). -/
theorem takesAt_of_idle {s t : State} (hparams : t.params = s.params) (hidle : ∀ k : Chan, t.func.channels[k] = s.func.channels[k].idle)
    {a : Nat} (h : ∀ x, s.takesAt a x = true → ∃ k, x = .channel k) (x : Taker) : t.takesAt a x = false := by
  by_cases hchan : ∃ k, x = .channel k
  · obtain ⟨k, rfl⟩ := hchan
    have hmarks : t.func.channels[k].marks = [] := by rw [hidle k]; rfl
    simp only [State.takesAt, hmarks, List.not_mem_nil, decide_false]
  · rw [takesAt_of_params hparams a fun k hk => hchan ⟨k, hk⟩]
    exact Bool.eq_false_iff.mpr fun hx => hchan (h x hx)

section
variable {s : State} (us : Nat) (order : List Taker) (hsynced : s.shaft.synced = true) (hmotion : s.shaft.motion = .turning)
include hsynced hmotion

theorem indexShaft_reverse (hlow : -2 ≤ s.shaft.count) (hhigh : s.shaft.count ≤ 2) : indexShaft .reverse us order s =
    { s with shaft := { s.shaft.noted with count := s.nat .encCounts, timedRev := false } } := by
  have hcheck : s.indexCheck .reverse = true := by simp [State.indexCheck, hlow, hhigh]
  have hback : indexReverse (noteCount s) =
      { s with shaft := { s.shaft.noted with count := s.nat .encCounts, synced := true, timedRev := false } } := by
    rw [noteCount_of_turning hmotion]
    rfl
  have hsame : ({ s.shaft.noted with count := s.nat .encCounts, synced := true, timedRev := false } : Shaft) =
      { s.shaft.noted with count := s.nat .encCounts, timedRev := false } := by
    rw [← hsynced]
    rfl
  rw [indexShaft_of_synced _ _ _ hsynced]
  simp only [hcheck, if_true, hback, hsame]
  exact followFlag_of_turning (by exact hmotion) _

theorem indexShaft_forward (hat : s.angle = some 359) (hlow : (s.nat .encCounts : Int) - 2 ≤ s.shaft.count)
    (hhigh : s.shaft.count ≤ s.nat .encCounts + 2) (hnone : ∀ t, s.takesAt 0 t = false) : indexShaft .forward us order s = { s with
      shaft := { s.shaft.noted with
        count := 0, revs := s.shaft.revs + 1, timedRev := true
        speed := if s.shaft.timedRev then speedOf us else s.shaft.speed } } := by
  have hcheck : s.indexCheck .forward = true := by simp [State.indexCheck, hlow, hhigh]
  have hindex : indexForward true us order (noteCount s) = { s with
      shaft := { s.shaft.noted with
        count := 0, revs := s.shaft.revs + 1, timedRev := true
        speed := if s.shaft.timedRev then speedOf us else s.shaft.speed } } := by
    rw [noteCount_of_turning hmotion]
    exact indexForward_at_zero (s := { s with shaft := s.shaft.noted }) us order (.inl hat)
      (fun t => Eq.trans (by cases t <;> rfl) (hnone t)) hmotion
  rw [indexShaft_of_synced _ _ _ hsynced]
  simp only [hcheck, if_true, hindex]
  exact followFlag_of_turning (by exact hmotion) _

section
variable (hquiet : 0 < s.nat .stopQuiet)
include hquiet

theorem indexShaft_reverse_failed (hcount : s.shaft.count < -2 ∨ 2 < s.shaft.count) :
    let u := takeCause .encoder s.store.cursor { s with shaft := s.shaft.noted }
    indexShaft .reverse us order s = { u with shaft := { u.shaft with count := s.nat .encCounts, synced := true, timedRev := false } } := by
  intro u
  obtain ⟨hshaft, hstills⟩ := takeCause_emergency_turning (c := .encoder) rfl s.store.cursor
    (s := { s with shaft := s.shaft.noted }) hmotion hquiet
  have hcheck : ¬ s.indexCheck .reverse = true := by
    simp only [State.indexCheck, Bool.and_eq_true, decide_eq_true_eq]
    omega
  have hnat : u.nat .encCounts = s.nat .encCounts := by simp only [u, State.nat, State.par, hstills.params]
  have hback : indexReverse u = { u with shaft := { u.shaft with count := s.nat .encCounts, synced := true, timedRev := false } } := by
    rw [← hnat]
    rfl
  rw [indexShaft_of_synced _ _ _ hsynced, noteCount_of_turning hmotion]
  simp only [hcheck, Bool.false_eq_true, if_false]
  change followFlag _ (indexReverse u) = _
  rw [hback]
  refine followFlag_of_turning ?_ _
  change u.shaft.motion = .turning
  rw [hshaft]
  exact hmotion

theorem indexShaft_forward_failed (hcount : s.shaft.count < (s.nat .encCounts : Int) - 2 ∨ (s.nat .encCounts : Int) + 2 < s.shaft.count)
    (hchan : ∀ t, s.takesAt 0 t = true → ∃ k, t = .channel k) :
    let u := takeCause .encoder s.store.cursor { s with shaft := s.shaft.noted }
    indexShaft .forward us order s = { u with shaft := { u.shaft with
      count := 0, revs := s.shaft.revs + 1, timedRev := true
      speed := if s.shaft.timedRev then speedOf us else s.shaft.speed } } := by
  intro u
  obtain ⟨hshaft, hstills⟩ := takeCause_emergency_turning (c := .encoder) rfl s.store.cursor
    (s := { s with shaft := s.shaft.noted }) hmotion hquiet
  have hcheck : s.indexCheck .forward = false := by
    simp only [State.indexCheck, Bool.and_eq_false_iff, decide_eq_false_iff_not]
    omega
  have humotion : u.shaft.motion = .turning := by rw [hshaft]; exact hmotion
  have hindex : indexForward false us order u = { u with shaft := { u.shaft with
      count := 0, revs := s.shaft.revs + 1, timedRev := true
      speed := if s.shaft.timedRev then speedOf us else s.shaft.speed } } := by
    rw [indexForward_at_zero us order (.inr rfl) (takesAt_of_idle hstills.params hstills.channels ?_) humotion, hshaft]
    · rfl
    · exact fun x hx => hchan x (Eq.trans (by cases x <;> rfl) hx)
  rw [indexShaft_of_synced _ _ _ hsynced, noteCount_of_turning hmotion]
  simp only [hcheck, Bool.false_eq_true, if_false]
  change followFlag _ (indexForward false us order u) = _
  rw [hindex]
  exact followFlag_of_turning (by exact humotion) _

end
end

/-- The first index after the sync was lost (R25). -/
theorem indexShaft_unsynced_turning {s : State} (d : Dir) (us : Nat) (order : List Taker) (hsynced : s.shaft.synced = false)
    (hmotion : s.shaft.motion = .turning) : indexShaft d us order s =
    { s with shaft := { s.shaft.noted with count := s.countAtIndex d, synced := true, timedRev := false } } := by
  rw [indexShaft_of_unsynced _ _ _ hsynced, noteCount_of_turning hmotion]
  exact followFlag_of_turning (by exact hmotion) _

end Sys2Proof.Machine
end

section
/-! PROOFS. The needle flag of a stopped shaft, and what its fall ends (R32, R66, R74, R80, R133 to R137). -/

namespace Sys2Proof.Machine

/-! ### With the needle down no cause begins a change (R134) -/

/-- The shaft is at rest with the needle down, and no needle change is in progress. -/
structure State.BarStill (s : State) : Prop where
  change : s.needle.change = none
  down : s.shaft.needleUp = false
  rest : s.shaft.motion = .stopped

namespace State.BarStill
variable {s t : State}

theorem of_eq (h : s.BarStill) (hchange : t.needle.change = s.needle.change) (hside : t.machineSide = s.machineSide) : t.BarStill := by
  obtain ⟨-, -, hshaft, -⟩ := machineSide_eq_iff.mp hside
  exact ⟨hchange.trans h.change, by rw [hshaft]; exact h.down, by rw [hshaft]; exact h.rest⟩

theorem modRun (h : s.BarStill) (f : Run → Run) : (s.modRun f).BarStill := ⟨h.change, h.down, h.rest⟩

theorem raiseNotice (h : s.BarStill) (src : Source) (i : Nat) (d : List Byte) : (Machine.raiseNotice src i d s).BarStill :=
  ⟨h.change, h.down, h.rest⟩

theorem zeroDemand (h : s.BarStill) : (Machine.zeroDemand s).BarStill := ⟨h.change, h.down, h.rest⟩

theorem setRunState (h : s.BarStill) (r : RunState) : (Machine.setRunState r s).BarStill := by
  refine h.of_eq ?_ (by simp)
  unfold Machine.setRunState
  split
  · rfl
  · cases r <;> rfl

theorem appendCause (h : s.BarStill) (c : Cause) (i : Nat) : (Machine.appendCause c i s).BarStill := by
  refine h.of_eq ?_ (by simp)
  unfold Machine.appendCause
  split <;> rfl

theorem clearResume (h : s.BarStill) : (Machine.clearResume s).BarStill := h.modRun _

theorem causeInHalted (h : s.BarStill) (c : Cause) (i : Nat) : (Machine.causeInHalted c i s).BarStill := (h.appendCause c i).clearResume

theorem convertKind (h : s.BarStill) (c : Cause) : (Machine.convertKind c s).BarStill := by
  unfold Machine.convertKind
  split
  · exact h.modRun _
  · exact h

theorem discardInject (h : s.BarStill) : (Machine.discardInject s).BarStill :=
  h.of_eq (by rw [discardInject_eq]) (by simp)

theorem endOperation (h : s.BarStill) (r : OpResult) (d : List Byte) : (Machine.endOperation r d s).BarStill :=
  h.of_eq (by simp) (by simp)

/-- A colour stop with the needle down ends its change at once. -/
theorem colourStop (h : s.BarStill) : (Machine.colourStop s).BarStill := by
  have hu := h.raiseNotice srcColour s.store.cursor (colourDetail s s.planNeedle)
  unfold Machine.colourStop
  revert hu
  generalize Machine.raiseNotice srcColour s.store.cursor (colourDetail s s.planNeedle) s = u
  intro hu
  dsimp only
  split
  · exact hu.causeInHalted _ _
  · next n _ =>
    split
    · exact hu.clearResume
    · have hfill : (fillSlot .colourChange .part none u).BarStill := hu.modRun _
      have hdown : ¬ (fillSlot .colourChange .part none u).restsUp = true := by
        rw [State.restsUp, hfill.down]
        simp
      rw [if_pos hdown]
      simp only [endColourChange, reduceCtorEq, Option.some.injEq, false_and, if_false]
      exact (hfill.endOperation _ _).clearResume

theorem afterHalt (h : s.BarStill) : (Machine.afterHalt s).BarStill := by
  have hwait := h.modRun fun r => { r with resume := s.waitAfterStop }
  unfold Machine.afterHalt
  dsimp only
  split
  · exact hwait.colourStop
  · exact hwait

theorem blocksAtRest (h : s.BarStill) : (Machine.blocksAtRest s).BarStill := by
  refine h.of_eq ?_ (by simp)
  let u := faultHeldHeads ((s.modMonitors fun _ m => { m with gatherings := [] }).modTable fun t => { t with engage := 0 })
  obtain ⟨heads, r, hclosed, -, -⟩ := closesGaps_closeAllPending s.store.cursor allHeads u
  have hrest : Machine.blocksAtRest s = plannerAtRest (closeAllPending s.store.cursor allHeads u) := rfl
  rw [hrest, hclosed]
  rfl

theorem endStop (h : s.BarStill) (r : StoppedReport) : (Machine.endStop r s).BarStill := by
  have hfilled := ((State.BarStill.modRun h fun x => { x with report := { x.report with
      kind := x.kind, angle := r.angle, verdict := some r.verdict, overrun := r.overrun
      incomplete := x.outstanding.map Turn.index } }).discardInject.modRun fun x =>
    { x with phase := none, outstanding := none, work := none, rested := none }).blocksAtRest
  unfold Machine.endStop fillReport
  dsimp only
  split
  · exact (hfilled.setRunState _).raiseNotice _ _ _
  · exact ((hfilled.setRunState _).raiseNotice _ _ _).afterHalt

theorem tryEndStop (h : s.BarStill) : (Machine.tryEndStop s).BarStill := by
  unfold Machine.tryEndStop
  split
  · split
    · exact h
    · exact h.endStop _
  · exact h

theorem deliverReport (h : s.BarStill) (r : StoppedReport) : (Machine.deliverReport r s).BarStill := by
  have hcancel : (cancelPulses s).BarStill := ⟨h.change, h.down, h.rest⟩
  unfold Machine.deliverReport
  dsimp only
  split
  · exact (hcancel.modRun _).tryEndStop
  · refine hcancel.of_eq ?_ (by simp)
    unfold endNeedleUp
    split
    · split <;> simp
    · rfl

/-- The shaft being at rest, its stopped report is given without a new look at the flag (R34). -/
theorem brakeOrder (h : s.BarStill) (k : BrakeOrder) : (Machine.brakeOrder k s).BarStill := by
  have hrest : (dropLine s).shaft.motion = .stopped := h.rest
  have hbrake : (assertBrake (dropLine s)).BarStill := by
    refine ⟨h.change, ?_, ?_⟩
    all_goals
      rw [assertBrake_dropLine]
    · exact h.down
    · exact h.rest
  unfold Machine.brakeOrder
  dsimp only
  rw [if_pos hrest]
  exact hbrake.deliverReport _

theorem endStart (h : s.BarStill) : (Machine.endStart s).BarStill := by
  have hzero := h.zeroDemand
  unfold Machine.endStart
  refine BarStill.brakeOrder ?_ _
  split
  · exact ⟨hzero.change, hzero.down, hzero.rest⟩
  · have hnone : endChange .aborted (some .stopped) (Machine.zeroDemand s) = Machine.zeroDemand s := by
      unfold endChange
      rw [hzero.change]
    rw [hnone]
    exact hzero
  · exact hzero

theorem actOnRun (h : s.BarStill) (c : Cause) (first : Bool) : (Machine.actOnRun c first s).BarStill := by
  unfold Machine.actOnRun
  split
  · split
    · exact h.endStart
    · exact h
  · split
    · exact h.of_eq rfl (by simp)
    · exact (h.modRun _).discardInject.zeroDemand.brakeOrder _
  · exact h

/-- A cause without an emergency leaves the bar still. -/
theorem takeCause (h : s.BarStill) {c : Cause} (hc : c.isEmergency = false) (i : Nat) : (Machine.takeCause c i s).BarStill := by
  have hrecord : (recordPrimary c i s).BarStill := (h.modRun _).setRunState _
  have halone : (recordAlone c i s).BarStill := ⟨h.change, h.down, h.rest⟩
  unfold Machine.takeCause
  simp only [hc, Bool.false_eq_true, if_false]
  split
  · exact hrecord.actOnRun _ _
  · exact ((h.appendCause c i).convertKind c).actOnRun _ _
  · exact h.causeInHalted _ _
  · exact h.appendCause _ _
  all_goals
    split
    · exact (halone.clearResume.modRun _).setRunState _
    · exact halone

end State.BarStill

/-! ### The fall of the flag (R32) -/

theorem needleDownAtBar_of_none {s : State} (h : s.needle.change = none) : needleDownAtBar s = s := by
  unfold needleDownAtBar
  rw [h]

theorem needleDownAtFrame_of_still {s : State} (hmove : s.frame.ownMove = none) (hdwell : s.frame.dwell = none) :
    needleDownAtFrame s = s := by
  simp [needleDownAtFrame, hmove, hdwell]

/-- The change in progress ends at the place its purpose names (R132). -/
theorem endChange_of_some {s : State} {c : NeedleChange} (h : s.needle.change = some c) (r : OpResult) (w : Option DetailWord) :
    endChange r w s = match c.purpose with
      | .colour => endColourChange r c.target (s.changeMs c w) w (releaseChange s)
      | .select => endOperation r (changeDetail (releaseChange s) c.target (s.changeMs c w) w) (releaseChange s)
      | .landing => endOperation r (landingDetail (releaseChange s) (some (c.target, s.changeMs c w)) w) (releaseChange s)
      | .start => (releaseChange s).modRun fun x => { x with work := none } := by
  obtain ⟨p, _⟩ := c
  cases p <;> simp only [endChange, h]

/-- The detail of a change that needle-down ends (R204). -/
theorem changeDetail_needleDown (s : State) (n ms : Nat) (head : List Byte) : head ++ changeDetail s n ms (some .needleDown) =
    head ++ u8 s.store.cursorColour ++ u8 n ++ byteOrNone s.needle.settled ++ u32 ms ++ [1, 3] := by
  have hword : detailWordBytes (some .needleDown) = [1, 3] := by decide
  simp only [changeDetail, hword, needleBytes, List.append_assoc]

theorem landingDetail_needleDown (s : State) (n ms : Nat) (head : List Byte) :
    head ++ landingDetail s (some (n, ms)) (some .needleDown) =
    head ++ [1] ++ u8 n ++ byteOrNone s.needle.settled ++ u32 ms ++ [1, 3] := by
  have hword : detailWordBytes (some .needleDown) = [1, 3] := by decide
  have hflag : flagByte true = [1] := by decide
  simp only [landingDetail, Option.map_some, whenBytes, hword, hflag, needleBytes, List.append_assoc]

/-- What the fall of the flag ends at the frame and at the needle bar (R66, R74, R80, R133 to R137). -/
theorem flagFalls_needleDown {b : State} (hdown : b.shaft.needleUp = false) (hrest : b.shaft.motion = .stopped) {leaves : State → Prop}
    (h : leaves (needleDownAtBar (needleDownAtFrame b))) : b.FlagFalls leaves := by
  have hmoves {m : Move} (hmove : b.frame.move = some m) (hpurpose : m.purpose ≠ .turnMove) : b.frame.ownMove = some m :=
    Frame.ownMove_eq_some.mpr ⟨hmove, hpurpose⟩
  have hbar (hmove : b.frame.ownMove = none) (hdwell : b.frame.dwell = none) {t : State} (ht : needleDownAtBar b = t) : leaves t := by
    rw [← ht]
    rwa [needleDownAtFrame_of_still hmove hdwell] at h
  have hends {ch : NeedleChange} (hchange : b.needle.change = some ch) (hpurpose : ch.purpose ≠ .start) :
      needleDownAtBar b = endChange .aborted (some .needleDown) b := by
    unfold needleDownAtBar
    rw [hchange]
    exact if_neg hpurpose
  refine ⟨fun m hmove hturn hfirst hnone => ?_, fun m i hmove hfirst hi hnone => ?_, fun d op hmove hdwell hnone hslot => ?_,
    fun ch op hmove hdwell hchange hpurpose hslot => hbar hmove hdwell ?_,
    fun ch op hmove hdwell hchange hpurpose hslot => hbar hmove hdwell ?_,
    fun ch op hmove hdwell hchange hpurpose hslot => hbar hmove hdwell ?_,
    fun ch hmove hdwell hchange hpurpose hstate => hbar hmove hdwell ?_⟩
  · have hmark : needleDownAtFrame b = { b with frame := { b.frame with move := some { m with abort := m.abort.or (some .needleDown) } } } := by
      have hmarks : needleDownAtFrame b = markAbort .needleDown b := by
        unfold needleDownAtFrame
        rw [hmoves hmove hturn]
        dsimp only
        split
        · next h => exact absurd h hfirst
        · rfl
      rw [hmarks, markAbort, State.modFrame, hmove]
      rfl
    rw [hmark] at h
    rwa [needleDownAtBar_of_none (by exact hnone)] at h
  · have htake : needleDownAtFrame b = takeCause .moveLate i b := by
      unfold needleDownAtFrame
      rw [hmoves hmove (by rw [hfirst]; decide)]
      simp only [hfirst, hi, Option.getD_some]
    have hstill := State.BarStill.takeCause ⟨hnone, hdown, hrest⟩ (c := .moveLate) rfl i
    rwa [htake, needleDownAtBar_of_none hstill.change] at h
  · have hends : needleDownAtFrame b = endStepwise .aborted none b := by
      simp [needleDownAtFrame, hmove, hdwell]
    have hslot' : (b.modFrame fun f => { f with dwell := none }).run.slot = some op := hslot
    rw [hends, needleDownAtBar_of_none (by simpa [endStepwise] using hnone), endStepwise, endOperation_of_slot hslot'] at h
    exact h
  · rw [hends hchange (by rw [hpurpose]; decide), endChange_of_some hchange, hpurpose]
    exact (endOperation_of_slot (s := releaseChange b) hslot _ _).trans (by rw [changeDetail_needleDown]; rfl)
  · rw [hends hchange (by rw [hpurpose]; decide), endChange_of_some hchange, hpurpose]
    simp only [endColourChange, reduceCtorEq, Option.some.injEq, false_and, if_false]
    rw [endOperation_of_slot (s := releaseChange b) hslot, changeDetail_needleDown]
    rfl
  · rw [hends hchange (by rw [hpurpose]; decide), endChange_of_some hchange, hpurpose]
    exact (endOperation_of_slot (s := releaseChange b) hslot _ _).trans (by rw [landingDetail_needleDown]; rfl)
  · unfold needleDownAtBar
    rw [hchange]
    dsimp only
    rw [if_pos hpurpose, endChange_of_some hchange, hpurpose]
    unfold failStartChange
    dsimp only
    by_cases hrun : b.run.state = .running
    · rw [if_pos (by exact hrun), if_pos hrun]
      rfl
    · rw [if_neg (by exact hrun), if_neg hrun]
      unfold tryEndStop
      split
      · next hstop _ => exact absurd hstop hstate
      · rfl

end Sys2Proof.Machine
end

section
/-! PROOFS. TheShaftCounts: counts, the index and the marks they reach, on a turning and on a stopped shaft (R24 to R38). -/

namespace Sys2Proof.Machine

/-! ### A turning shaft -/

section
variable {s : State} (tension : List (BitVec 10)) (order : List Taker)

/-- A count that reaches no mark moves the counter, and the needle flag follows (R24, R32). -/
theorem exec_count_follows {d : Dir} (hs : s.awake) (hrange : s.CountsTo (s.shaft.count + Dir.step d))
    (hnone : d = .reverse ∨ s.shaft.synced = false ∨
      ∀ t, s.takesAt (angleOfCount (s.nat .encCounts) (s.shaft.count + Dir.step d)) t = false) :
    exec (.encoderCount d tension order) s = .next (settle (followFlag s.shaft.needleUp ((setTension tension s).counts d))) := by
  have hno : d = .reverse ∨ (setTension tension s).shaft.synced = false ∨ ∀ t, (setTension tension s).takesAt
      (angleOfCount ((setTension tension s).nat .encCounts) ((setTension tension s).shaft.count + Dir.step d)) t = false :=
    hnone.imp_right (Or.imp_right fun h t => Eq.trans (by cases t <;> rfl) (h t))
  rw [exec_encoderCount hs, countShaft_unmarked (s := setTension tension s) order hrange hno]
  rfl

/-- On a turning shaft the flag stays as it is. -/
theorem exec_count_unmarked {d : Dir} (hs : s.awake) (hmotion : s.shaft.motion = .turning)
    (hrange : s.CountsTo (s.shaft.count + Dir.step d))
    (hnone : d = .reverse ∨ s.shaft.synced = false ∨
      ∀ t, s.takesAt (angleOfCount (s.nat .encCounts) (s.shaft.count + Dir.step d)) t = false) :
    exec (.encoderCount d tension order) s = .next (settle { setTension tension s with
      shaft := { s.shaft.noted with
        count := s.shaft.count + Dir.step d, timedRev := s.shaft.timedRev && decide (d = .forward) } }) := by
  rw [exec_count_follows tension order hs hrange hnone, counts_of_turning (s := setTension tension s) hmotion,
    followFlag_of_turning (by exact hmotion)]
  rfl

/-- The gate marks change the newest gathering of every monitor (R144). -/
theorem exec_count_gate (h : s.Reaches) {x : Taker} {f : Gathering → Gathering} {g : Monitor → Monitor}
    (hone : ∀ t, s.takesAt s.nextAngle t = true ↔ t = x)
    (htaken : ∀ (a : Nat) (w : State), (takeOne a [] x (w, none)).1 = w.modMonitors fun _ => g)
    (hg : ∀ m : Monitor, g m = { m with gatherings := m.gatherings.dropLast ++ m.gatherings.getLast?.toList.map f }) :
    exec (.encoderCount .forward tension order) s = .next (settle { s.counted tension with
      thread := { s.thread with monitors := s.thread.monitors.map fun m => { m with
        gatherings := m.gatherings.dropLast ++ m.gatherings.getLast?.toList.map f } } }) := by
  have hmonitors : mapTwelve (fun _ => g) s.thread.monitors = s.thread.monitors.map fun m => { m with
      gatherings := m.gatherings.dropLast ++ m.gatherings.getLast?.toList.map f } := by
    rw [mapTwelve_const, funext hg]
  rw [exec_reaches_one h tension order hone, htaken, ← hmonitors]
  rfl

/-- The sample mark gives the newest gathering its reading, once (R145). -/
theorem exec_count_sample (h : s.Reaches) (hone : ∀ t, s.takesAt s.nextAngle t = true ↔ t = .sample)
    (hnone : ∀ i : Head, tension[i.val]? = none) :
    ∃ t, exec (.encoderCount .forward tension order) s = .next (settle t) ∧ t.shaft = (s.counted tension).shaft ∧
      ∀ i : Head, t.monitor i = { s.monitor i with
        gatherings := (s.monitor i).gatherings.dropLast ++ (s.monitor i).gatherings.getLast?.toList.map fun g =>
          { g with reading := g.reading.or (some s.pins.tension[i]) } } := by
  refine ⟨_, exec_reaches_one h tension order hone, rfl, fun i => ?_⟩
  change ((s.counted tension).modMonitors fun i m => m.sample (s.counted tension).pins.tension[i]).monitor i = _
  have hlevel : (s.counted tension).pins.tension[i] = s.pins.tension[i] := setTension_tension (hnone i) s
  rw [State.modMonitors_monitor, sample_eq, hlevel]
  rfl

/-- The brake mark carries out the order that waits for it (R34, R37). -/
theorem exec_count_brake (h : s.Reaches) (hone : ∀ t, s.takesAt s.nextAngle t = true ↔ t = .brake)
    (hwaiting : s.shaft.waiting = some .atBrakeMark) (hbrake : s.shaft.brake = false) :
    exec (.encoderCount .forward tension order) s = .next (settle { s.counted tension with
      shaft := { (s.counted tension).shaft with brake := true, waiting := none, counting := true, overrun := 0 } }) := by
  rw [exec_reaches_one h tension order hone]
  have hmark : (takeOne s.nextAngle [] .brake (s.counted tension, none)).1 = { s.counted tension with
      shaft := { (s.counted tension).shaft with brake := true, waiting := none, counting := true, overrun := 0 } } :=
    (brakeMark_of_waiting (s := s.counted tension) hwaiting).trans (assertBrake_of_turning (s := s.counted tension) h.turning hbrake)
  rw [hmark]

/-- The rest mark brakes the shaft that a NEEDLE UP turns (R38). -/
theorem exec_count_rest (h : s.Reaches) (hone : ∀ t, s.takesAt s.nextAngle t = true ↔ t = .rest) {op : Op}
    (hslot : s.run.slot = some op) (hkind : op.kind = .needleUp) (hline : 0 < s.shaft.line) (hbrake : s.shaft.brake = false) :
    exec (.encoderCount .forward tension order) s = .next (settle { s.counted tension with
      shaft := { (s.counted tension).shaft with
        line := 0, stall := none, brake := true, waiting := none, counting := true, overrun := 0 } }) := by
  have hmark : (takeOne s.nextAngle [] .rest (s.counted tension, none)).1 = { s.counted tension with
      shaft := { (s.counted tension).shaft with
        line := 0, stall := none, brake := true, waiting := none, counting := true, overrun := 0 } } :=
    (restMark_of_needleUp (s := s.counted tension) hslot hkind hline).trans
      (assertBrake_of_turning (s := dropLine (s.counted tension)) h.turning hbrake)
  rw [exec_reaches_one h tension order hone, hmark]

/-- A channel's mark is an arrival at that channel (R29, R118). -/
theorem exec_count_channel (h : s.Reaches) {k : Chan} (hone : ∀ t, s.takesAt s.nextAngle t = true ↔ t = .channel k) {c : Channel}
    (hc : Channel.arrive s.nextAngle s.func.channels[k] = c) :
    exec (.encoderCount .forward tension order) s = .next (settle { s.counted tension with
      func := { s.func with channels := s.func.channels.set k c } }) := by
  rw [exec_reaches_one h tension order hone, ← hc]
  rfl

/-- The marks against which a move is watched (R65). -/
theorem exec_count_late (h : s.Reaches) {w : LateWatch} {x : Taker} (hx : (w, x) ∈ [(LateWatch.windowEnd, Taker.windowEnd), (.jumpEnd, .jumpEnd)])
    (hone : ∀ t, s.takesAt s.nextAngle t = true ↔ t = x) :
    exec (.encoderCount .forward tension order) s = .next (settle (lateMark w (s.counted tension))) := by
  rw [exec_reaches_one h tension order hone]
  simp only [List.mem_cons, List.not_mem_nil, or_false, Prod.mk.injEq] at hx
  rcases hx with ⟨rfl, rfl⟩ | ⟨rfl, rfl⟩ <;> rfl

/-- Window start with no turn to complete and no call to make is an overrun arrival (R37, R89). -/
theorem exec_count_overrun (h : s.Reaches)
    (hfour : ∀ t, s.takesAt s.nextAngle t = true ↔ t ∈ [Taker.overrun, .completion, .retention, .call])
    (hs : s.TurnsNone) (hnone : (overrunArrival (s.counted tension)).TurnsNone) :
    exec (.encoderCount .forward tension order) s = .next (settle (overrunArrival (s.counted tension))) := by
  rw [exec_reaches h, arrive_overrun (s := s.counted tension) (fun t => by rw [counted_takesAt, hfour]) hs hnone]

/-- The third overrun revolution in a run that brakes raises STOP_FAIL, as a secondary cause (R37, R94, R95). -/
theorem exec_count_stopFail (h : s.Reaches)
    (hfour : ∀ t, s.takesAt s.nextAngle t = true ↔ t ∈ [Taker.overrun, .completion, .retention, .call])
    (hcounting : s.shaft.counting = true) (hturns : s.TurnsNone) (hover : s.shaft.overrun = 2) (hstate : s.run.state = .stopping)
    (hphase : s.run.phase = some .braking) (hbrake : s.shaft.brake = true) (hquiet : 0 < s.nat .stopQuiet) :
    ∃ t, exec (.encoderCount .forward tension order) s = .next (settle t) ∧ t.run.state = .stopping ∧
      t.run.phase = some .braking ∧ t.run.kind = some .emergency ∧ t.run.report.primary = s.run.report.primary ∧
      t.run.report.secondary = s.run.report.secondary ++
        (if s.run.report.secondary.length < 8 then [⟨.stopFail, s.store.cursor, s.clock⟩] else []) ∧
      t.shaft = { (s.counted tension).shaft with overrun := 3, line := 0, stall := none, waiting := none } ∧
      t.planner.demand = 0 ∧ t.frame.move = none ∧ t.table.engage = 0 ∧
      (∀ k : Chan, t.func.channels[k] = { s.func.channels[k] with latch := none, pulse := none }) := by
  let w : State := { s.counted tension with shaft := { (s.counted tension).shaft with overrun := 3 } }
  have hthird : overrunArrival (s.counted tension) = takeCause .stopFail s.store.cursor w :=
    overrunArrival_third (s := s.counted tension) hcounting hover
  obtain ⟨hshaft, hstills⟩ := takeCause_emergency_turning (c := .stopFail) rfl s.store.cursor (s := w) h.turning hquiet
  obtain ⟨hrecords, hbraking, hout⟩ := takeCause_emergency_run (c := .stopFail) rfl s.store.cursor (s := w) h.turning hquiet (.inr hstate)
  have hnone : (overrunArrival (s.counted tension)).TurnsNone := by
    rw [hthird]
    rcases hturns with hphase' | ⟨-, hout'⟩
    · rw [hphase] at hphase'; cases hphase'
    · exact .inr ⟨hbraking, hout.trans hout'⟩
  obtain ⟨hprimary, hsecondary⟩ := hrecords.stopping hstate
  refine ⟨_, (exec_count_overrun tension order h hfour hturns hnone).trans (by rw [hthird]), hrecords.state, hbraking, hstills.kind, hprimary,
    hsecondary, ?_, hstills.demand, hstills.move, hstills.engage, hstills.channels⟩
  rw [hshaft]
  have hbrake' : w.shaft.brake = true := hbrake
  simp only [Shaft.braked, hbrake', if_true]
  rw [← hbrake']

end

end Sys2Proof.Machine
end

section
/-! PROOFS. TheShaftCounts, settled: a stopped shaft, the angle, and the statement's clauses (R24 to R38). -/

namespace Sys2Proof.Machine

/-! ### A stopped shaft (R31, R32) -/

/-- The needle flag brought to what the angle gives. -/
def State.flagFollows (s : State) : State := { s with shaft := { s.shaft with needleUp := s.flagNow } }

theorem followFlag_of_stopped {s : State} (h : s.shaft.motion = .stopped) (old : Bool) : followFlag old s =
    if (old && !s.flagNow) = true then needleDownAtBar (needleDownAtFrame s.flagFollows) else s.flagFollows :=
  if_pos h

/-- A flag that does not fall, or whose fall finds no move, no dwell and no change, follows alone. -/
theorem followFlag_follows {s : State} (hrest : s.shaft.motion = .stopped) {old : Bool}
    (h : old = false ∨ s.flagNow = true ∨ s.frame.move = none ∧ s.frame.dwell = none ∧ s.needle.change = none) :
    followFlag old s = s.flagFollows := by
  rw [followFlag_of_stopped hrest]
  rcases h with h | h | ⟨hmove, hdwell, hchange⟩
  · simp [h]
  · simp [h]
  · have hown : s.flagFollows.frame.ownMove = none := ownMove_of_none hmove
    rw [needleDownAtFrame_of_still hown hdwell, needleDownAtBar_of_none (by exact hchange), ite_self]

/-- A flag that falls ends what needs the needle up. -/
theorem followFlag_falls {s : State} (hrest : s.shaft.motion = .stopped) (hflag : s.flagNow = false) {leaves : State → Prop}
    (h : leaves (followFlag true s)) : s.flagFollows.FlagFalls leaves := by
  rw [followFlag_of_stopped hrest, if_pos (by rw [hflag]; rfl)] at h
  exact flagFalls_needleDown (b := s.flagFollows) hflag hrest h

/-- The shaft that stood is TURNING under a demand (R31). -/
theorem noteCount_under_demand {s : State} (hline : 0 < s.shaft.line) :
    noteCount s = { s with shaft := { s.shaft.noted with motion := .turning } } := by
  unfold noteCount State.modShaft
  dsimp only
  rw [if_pos hline]
  rfl

theorem noteCount_without_demand {s : State} (hline : s.shaft.line = 0) : noteCount s = { s with shaft := s.shaft.noted } := by
  have hmotion : (if 0 < s.shaft.line then Motion.turning else s.shaft.motion) = s.shaft.motion := if_neg (by rw [hline]; decide)
  unfold noteCount State.modShaft Shaft.noted
  dsimp only
  rw [hmotion]

theorem counts_under_demand {s : State} (hline : 0 < s.shaft.line) (d : Dir) : s.counts d = { s with
    shaft := { s.shaft.noted with
      count := s.shaft.count + Dir.step d, timedRev := s.shaft.timedRev && decide (d = .forward), motion := .turning } } := by
  rw [State.counts, noteCount_under_demand hline]
  rfl

theorem counts_without_demand {s : State} (hline : s.shaft.line = 0) (d : Dir) : s.counts d = { s with
    shaft := { s.shaft.noted with
      count := s.shaft.count + Dir.step d, timedRev := s.shaft.timedRev && decide (d = .forward) } } := by
  rw [State.counts, noteCount_without_demand hline]
  rfl

/-! ### The angle (R26, R30) -/

theorem angleOfCount_le (e : Nat) (c : Int) : angleOfCount e c ≤ 359 := by
  unfold angleOfCount
  split
  · exact Nat.zero_le _
  · split
    · exact Nat.le_refl _
    · have hless : c.toNat * 360 < e * 360 := by omega
      exact Nat.le_of_lt_succ (Nat.div_lt_of_lt_mul hless)

theorem flagNow_eq (s : State) : s.flagNow = s.angle.any fun a =>
    decide (((a : Int) - s.par .winStart) % 360 ≤ (s.par .winEnd - s.par .winStart) % 360) := by
  unfold State.flagNow
  cases s.angle with
  | none => rfl
  | some a =>
    refine decide_eq_decide.mpr ?_
    unfold State.windowWidth mod360
    omega

/-! ### The clauses -/

/-- The speed of a revolution of this length (R27). -/
theorem speedOf_word (us : Word) : speedOf us.toNat = if us = 0 then 65535 else min 65535 (60000000 / us.toNat) := by
  have hzero : us.toNat = 0 ↔ us = 0 := ⟨fun h => BitVec.eq_of_toNat_eq h, fun h => by rw [h]; rfl⟩
  simp only [speedOf, hzero]

/-- Settles O57, clause by clause: each count is brought to its one taker, and what that taker does is a lemma of its own. -/
theorem theShaftCounts : Obligations.TheShaftCounts := by
  unfold Obligations.TheShaftCounts
  refine ⟨fun dir tension order s hs hmotion => ?_, fun dir tension order s hs hrest => ?_, flagNow_eq, fun _ => rfl,
    fun e c _ => angleOfCount_le e c⟩
  · intro c noted u passes anew newest
    have hreach : anew → dir = .forward ∧ s.Reaches := by
      rintro ⟨rfl, hsynced, hrange, hne⟩
      exact ⟨rfl, hs, hmotion, hsynced, hrange, hne⟩
    refine ⟨?_, ?_, ?_, ?_, ?_, ?_, ?_, ?_, ?_, ?_, ?_, ?_, ?_, ?_, ?_⟩
    · intro hlow hhigh hnone
      exact exec_count_unmarked tension order hs hmotion ⟨hlow, hhigh⟩ hnone
    · intro hout hquiet
      have hmiss : ¬ (setTension tension s).CountsTo ((setTension tension s).shaft.count + Dir.step dir) := fun ⟨hlow, hhigh⟩ =>
        hout.elim (fun h => absurd hhigh (not_le.mpr h)) (fun h => absurd hlow (not_le.mpr h))
      rw [exec_encoderCount hs, countShaft_misses_turning order (by exact hmotion) (by exact hquiet) hmiss]
      rfl
    · rintro us rfl hsynced hcount hquiet
      rw [exec_encoderIndex hs,
        indexShaft_reverse_failed (s := setTension tension s) us.toNat order hsynced hmotion hquiet hcount]
      rfl
    · rintro us rfl hsynced hcount hchan hquiet
      have hchan' : ∀ t, (setTension tension s).takesAt 0 t = true → ∃ k, t = .channel k := fun t ht =>
        hchan t (Eq.trans (by cases t <;> rfl) ht)
      rw [exec_encoderIndex hs,
        indexShaft_forward_failed (s := setTension tension s) us.toNat order hsynced hmotion hquiet hcount hchan',
        speedOf_word]
      rfl
    · intro hanew hone
      obtain ⟨rfl, h⟩ := hreach hanew
      exact exec_count_gate tension order h hone (fun _ _ => rfl) gateStart_eq
    · intro hanew hone
      obtain ⟨rfl, h⟩ := hreach hanew
      exact exec_count_gate tension order h hone (fun _ _ => rfl) gateEnd_eq
    · intro hanew hone hnone
      obtain ⟨rfl, h⟩ := hreach hanew
      exact exec_count_sample tension order h hone hnone
    · intro us hsynced
      rw [exec_encoderIndex hs, indexShaft_unsynced_turning (s := setTension tension s) dir us.toNat order hsynced hmotion]
      cases dir <;> rfl
    · rintro us rfl hsynced hlow hhigh
      rw [exec_encoderIndex hs, indexShaft_reverse (s := setTension tension s) us.toNat order hsynced hmotion hlow hhigh]
      rfl
    · rintro us rfl hsynced hat hlow hhigh hnone
      have hnone' : ∀ t, (setTension tension s).takesAt 0 t = false := fun t => Eq.trans (by cases t <;> rfl) (hnone t)
      rw [exec_encoderIndex hs,
        indexShaft_forward (s := setTension tension s) us.toNat order hsynced hmotion hat hlow hhigh hnone', speedOf_word]
      rfl
    · intro hdir hsynced hhigh hlow hne hone hwaiting hbrake
      obtain ⟨rfl, h⟩ := hreach ⟨hdir, hsynced, ⟨by rw [if_pos hsynced]; exact hlow, hhigh⟩, hne⟩
      exact exec_count_brake tension order h hone hwaiting hbrake
    · intro k p hanew hone hp a off leaves
      obtain ⟨rfl, h⟩ := hreach hanew
      exact ⟨fun d hstop hat hlast _ => exec_count_channel tension order h hone (arrive_ends _ hp hstop hat hlast),
        fun b hstart hat hlast hstop => exec_count_channel tension order h hone (arrive_begins _ hp hstart hat hlast hstop),
        fun hmore => exec_count_channel tension order h hone (arrive_counts _ hp hmore)⟩
    · intro w taker hw hanew hone
      obtain ⟨rfl, h⟩ := hreach hanew
      have hexec := exec_count_late tension order h hw hone
      refine ⟨fun hother => ?_, fun m i hlate hmove hturn hstate hphase hquiet => ?_⟩
      · rw [hexec, lateMark_of_other (by exact hother)]
        rfl
      · rw [hexec, lateMark_of_watched (s := s.counted tension) hlate hmove hturn]
        obtain ⟨t, rfl, hfacts⟩ := takeCause_moveLate_sewing
          (s := { s.counted tension with frame := { s.frame with late := none } }) hstate hphase hmotion hquiet i
        exact ⟨_, rfl, hfacts⟩
    · intro op hanew hone hslot hkind hline hbrake
      obtain ⟨rfl, h⟩ := hreach hanew
      exact exec_count_rest tension order h hone hslot hkind hline hbrake
    · intro hanew hfour hcounting hturns
      obtain ⟨rfl, h⟩ := hreach hanew
      refine ⟨fun hover => ?_, fun hover hstate hphase _ _ hbrake hquiet =>
        exec_count_stopFail tension order h hfour hcounting hturns hover hstate hphase hbrake hquiet⟩
      have hcounts := overrunArrival_counts (s := s.counted tension) hcounting hover
      rw [exec_count_overrun tension order h hfour hturns (by rw [hcounts]; exact hturns), hcounts]
      rfl
  · intro c at' turning follows still q
    refine ⟨fun us hsynced => ⟨fun hline => ?_, fun hline hdown => ?_⟩,
      fun hlow hhigh hnone => ⟨fun hline => ?_, fun hline hflag => ?_, fun hline hup hflag => ?_⟩⟩
    · rw [exec_encoderIndex hs, indexShaft_of_unsynced (s := setTension tension s) _ _ _ hsynced, noteCount_under_demand (by exact hline),
        followFlag_of_turning (by rfl)]
      cases dir <;> rfl
    · rw [exec_encoderIndex hs, indexShaft_of_unsynced (s := setTension tension s) _ _ _ hsynced,
        noteCount_without_demand (by exact hline), followFlag_follows (old := (setTension tension s).shaft.needleUp) (by exact hrest) (.inl hdown)]
      cases dir <;> rfl
    · rw [exec_count_follows tension order hs ⟨hlow, hhigh⟩ hnone, counts_under_demand (by exact hline), followFlag_of_turning (by rfl)]
      cases dir <;> rfl
    · rw [exec_count_follows tension order hs ⟨hlow, hhigh⟩ hnone, counts_without_demand (by exact hline)]
      have hfollows : followFlag s.shaft.needleUp q = follows q := followFlag_follows (s := q) hrest hflag
      rw [← hfollows]
      cases dir <;> rfl
    · refine followFlag_falls (s := q) hrest hflag ?_
      rw [exec_count_follows tension order hs ⟨hlow, hhigh⟩ hnone, counts_without_demand (by exact hline), ← hup]
      cases dir <;> rfl

end Sys2Proof.Machine
end

section
/-! PROOFS. The end of a stop: the sewing side at rest, and the stop reported (R52, R54, R92, R96, R121, R143, R164, R167, R168). -/

namespace Sys2Proof.Machine

/-! ### Closings carried out (R166, R168) -/

/-- A gap's closing is no matter of a head's state and marks. -/
theorem closeHeadGap_head (h : Head) (c : Nat) (s : State) (k : Head) :
    ((closeHeadGap h c s).head k).state = (s.head k).state ∧ ((closeHeadGap h c s).head k).faultHeld = (s.head k).faultHeld ∧
    ((closeHeadGap h c s).head k).closing = (s.head k).closing := by
  have hmod (g : List Gap) : let e := (s.modHead h fun e => { e with gaps := g }).head k
      e.state = (s.head k).state ∧ e.faultHeld = (s.head k).faultHeld ∧ e.closing = (s.head k).closing := by
    intro e
    have he : e = if k = h then { s.head h with gaps := g } else s.head k := State.modHead_head k h _ s
    by_cases hk : k = h
    · subst hk; rw [he, if_pos rfl]; exact ⟨rfl, rfl, rfl⟩
    · rw [he, if_neg hk]; exact ⟨rfl, rfl, rfl⟩
  unfold closeHeadGap retainIf
  dsimp only
  split
  · exact hmod _
  · exact hmod _

/-- Its own closing is no longer pending; the other heads' are as they were. -/
theorem closePending_head (c : Nat) (h : Head) (s : State) (k : Head) :
    ((closePending c h s).head k).state = (s.head k).state ∧ ((closePending c h s).head k).faultHeld = (s.head k).faultHeld ∧
    ((closePending c h s).head k).closing = if k = h then false else (s.head k).closing := by
  unfold closePending
  split
  · obtain ⟨hstate, hheld, hclosing⟩ := closeHeadGap_head h c s k
    rw [State.modHead_head]
    by_cases hk : k = h
    · subst hk
      rw [if_pos rfl, if_pos rfl]
      exact ⟨hstate, hheld, rfl⟩
    · rw [if_neg hk, if_neg hk]
      exact ⟨hstate, hheld, hclosing⟩
  · next hclosed =>
    refine ⟨rfl, rfl, ?_⟩
    by_cases hk : k = h
    · subst hk; simpa using hclosed
    · rw [if_neg hk]

theorem closeAllPending_head (c : Nat) : ∀ (l : List Head) (s : State) (k : Head),
    ((closeAllPending c l s).head k).state = (s.head k).state ∧ ((closeAllPending c l s).head k).faultHeld = (s.head k).faultHeld ∧
    (k ∈ l ∨ (s.head k).closing = false → ((closeAllPending c l s).head k).closing = false)
  | [], _, _ => ⟨rfl, rfl, fun h => h.resolve_left List.not_mem_nil⟩
  | h :: l, s, k => by
    obtain ⟨hstate, hheld, hclosing⟩ := closePending_head c h s k
    obtain ⟨hstate', hheld', hclosing'⟩ := closeAllPending_head c l (closePending c h s) k
    refine ⟨hstate'.trans hstate, hheld'.trans hheld, fun hk => hclosing' ?_⟩
    by_cases hkh : k = h
    · exact .inr (by rw [hclosing, if_pos hkh])
    · rcases hk with hk | hk
      · exact .inl ((List.mem_cons.mp hk).resolve_left hkh)
      · exact .inr (by rw [hclosing, if_neg hkh, hk])

/-! ### The sewing side at rest (R52, R54, R143, R164, R167, R168) -/

/-- From s to t the sewing side has come to rest. -/
structure State.SewsNoMore (s t : State) : Prop where
  lowSide : t.lowSide = s.lowSide
  demand : t.planner.demand = 0
  stopPoint : t.planner.stopPoint = none
  engage : t.table.engage = 0
  gatherings : ∀ h : Head, (t.monitor h).gatherings = []
  heads : ∀ h : Head, (t.head h).faultHeld = false ∧ (t.head h).closing = false ∧
    ((s.head h).faultHeld = true → (t.head h).state = .faulted)

/-- What is neither the store, the planner, the threads nor the heads stays as it is. -/
theorem blocksAtRest_eq (s : State) : blocksAtRest s = { s with
    store := (blocksAtRest s).store, planner := (blocksAtRest s).planner, thread := (blocksAtRest s).thread
    table := (blocksAtRest s).table } := by
  let u := faultHeldHeads ((s.modMonitors fun _ m => { m with gatherings := [] }).modTable fun t => { t with engage := 0 })
  obtain ⟨heads, r, hclosed, -, -⟩ := closesGaps_closeAllPending s.store.cursor allHeads u
  have hrest : blocksAtRest s = plannerAtRest (closeAllPending s.store.cursor allHeads u) := rfl
  rw [hrest, hclosed]
  rfl

theorem sewsNoMore_blocksAtRest (s : State) : s.SewsNoMore (blocksAtRest s) := by
  let v := (s.modMonitors fun _ m => { m with gatherings := [] }).modTable fun t => { t with engage := 0 }
  let u := faultHeldHeads v
  have hrest : blocksAtRest s = plannerAtRest (closeAllPending s.store.cursor allHeads u) := rfl
  obtain ⟨heads, r, hclosed, -, -⟩ := closesGaps_closeAllPending s.store.cursor allHeads u
  have hmonitor (h : Head) : (u.monitor h).gatherings = [] := by
    have hm : u.monitor h = { s.monitor h with gatherings := [] } := State.modMonitors_monitor _ s h
    rw [hm]
  have hu (h : Head) : u.head h = if (s.head h).faultHeld then { s.head h with state := .faulted, faultHeld := false } else s.head h :=
    State.modHeads_head _ v h
  refine ⟨?_, ?_, ?_, ?_, fun h => ?_, fun h => ?_⟩
  · rw [lowSide_blocksAtRest]
  · rw [hrest]; rfl
  · rw [hrest]; rfl
  · rw [hrest, hclosed]; rfl
  · rw [hrest, hclosed]; exact hmonitor h
  · have hhead : (blocksAtRest s).head h = (closeAllPending s.store.cursor allHeads u).head h := by
      have hplanner (w : State) : (plannerAtRest w).head h = w.head h := rfl
      rw [hrest, hplanner]
    obtain ⟨hstate, hheld, hclosing⟩ := closeAllPending_head s.store.cursor allHeads u h
    rw [hhead]
    refine ⟨?_, hclosing (.inl (mem_allHeads h)), fun hfault => ?_⟩
    · rw [hheld, hu]
      split
      · rfl
      · next hno => simpa using hno
    · rw [hstate, hu, if_pos hfault]

/-! ### The stop reported (R92, R96) -/

/-- The state in which a stop has been reported, and the run has entered the state l. -/
def State.stopReportedIn (l : RunState) (x : StoppedReport) (s : State) : State :=
  let v := setRunState l (blocksAtRest (s.stopFilled x))
  raiseNotice srcStop ((v.run.report.primary.map Recorded.index).getD 0) (reportBytes v.run.report) v

/-- A stop of kind EMERGENCY ends LOCKED, with no colour stop; any other ends HALTED (R96). -/
theorem endStop_eq (x : StoppedReport) (s : State) : endStop x s =
    if s.run.kind = some .emergency then s.stopReportedIn .locked x else afterHalt (s.stopReportedIn .halted x) := by
  have hkind : (blocksAtRest (s.stopFilled x)).run.kind = s.run.kind := by
    obtain ⟨-, -, hrun, -⟩ := blocksAtRest_leaves (s.stopFilled x)
    rw [hrun, stopFilled_eq]
  by_cases h : s.run.kind = some .emergency
  · have hemergency : (blocksAtRest (s.stopFilled x)).run.kind = some .emergency := hkind.trans h
    rw [if_pos h]
    simp only [State.stopFilled] at hemergency
    simp only [endStop, hemergency, decide_true, if_true, State.stopReportedIn, State.stopFilled]
  · rw [if_neg h]
    exact endStop_of_halting x h

/-- From s to t a stop has been reported, and the run has entered the state l (R92, R96). -/
structure State.ReportsStop (l : RunState) (x : StoppedReport) (s t : State) : Prop where
  rests : s.SewsNoMore t
  run : t.run = { (s.stopFilled x).run with state := l }
  side : t.machineSide = s.machineSide
  needle : t.needle = { s.needle with watch := none }
  pending : t.notices.sources[srcStop].pending = true
  notices : ∀ src : Source, src ≠ srcStop → src ≠ srcState → t.notices.sources[src] = s.notices.sources[src]

/-- Entering HALTED or LOCKED disarms the lost watch and raises STATE (R84, R138). -/
theorem setRunState_stopped {l : RunState} (hl : l = .halted ∨ l = .locked) {s : State} (h : s.run.state ≠ l) :
    setRunState l s = raiseNotice srcState s.store.cursor (stateDetail s.run.state l s.store.cursor none)
      { s with run := { s.run with state := l }, needle := { s.needle with watch := none } } := by
  unfold setRunState
  rw [if_neg h]
  rcases hl with rfl | rfl <;> rfl

theorem reportsStop_of_filled {l : RunState} (hl : l = .halted ∨ l = .locked) {x : StoppedReport} {s w : State}
    (hw : w = { s with run := w.run }) (hwstate : w.run.state = .stopping) (hwrun : w.run = (s.stopFilled x).run) :
    s.ReportsStop l x (raiseNotice srcStop (((setRunState l (blocksAtRest w)).run.report.primary.map Recorded.index).getD 0)
      (reportBytes (setRunState l (blocksAtRest w)).run.report) (setRunState l (blocksAtRest w))) := by
  have hb := blocksAtRest_eq w
  have hrest := sewsNoMore_blocksAtRest w
  have hside := machineSide_blocksAtRest w
  revert hb hrest hside
  generalize blocksAtRest w = b
  intro hb hrest hside
  have hbrun : b.run = w.run := by rw [hb]
  have hset := setRunState_stopped (s := b) hl (by rw [hbrun, hwstate]; rcases hl with rfl | rfl <;> decide)
  rw [hset]
  have hneedle : b.needle = s.needle := by rw [hb, hw]
  have hnotices : b.notices = s.notices := by rw [hb, hw]
  have hhead (k : Head) : w.head k = s.head k := by rw [hw]; rfl
  have hlow : w.lowSide = s.lowSide := by rw [hw]; rfl
  refine ⟨⟨?_, hrest.demand, hrest.stopPoint, hrest.engage, hrest.gatherings, fun k => ?_⟩, ?_, ?_, ?_, ?_, fun src h1 h2 => ?_⟩
  · rw [lowSide_raiseNotice _ (by decide), lowSide_raiseNotice _ (by decide)]
    exact hrest.lowSide.trans hlow
  · rw [← hhead k]
    exact hrest.heads k
  · exact congrArg (fun r : Run => { r with state := l }) (hbrun.trans hwrun)
  · simp only [machineSide_raiseNotice]
    exact hside.trans (by rw [hw]; rfl)
  · exact congrArg (fun n : NeedleBar => { n with watch := none }) hneedle
  · rw [raiseNotice_self]
    exact occurrence_pending _ _ _ _
  · rw [raiseNotice_other _ _ _ _ _ h1, raiseNotice_other _ _ _ _ _ h2]
    exact congrArg (fun n : NoticeUnit => n.sources[src]) hnotices

theorem reportsStop_stopReportedIn {l : RunState} (hl : l = .halted ∨ l = .locked) (x : StoppedReport) {s : State}
    (h : s.run.state = .stopping) : s.ReportsStop l x (s.stopReportedIn l x) := by
  refine reportsStop_of_filled hl ?_ ?_ rfl
  · rw [stopFilled_eq]
  · rw [stopFilled_eq]
    exact h

end Sys2Proof.Machine
end

section
/-! PROOFS. Stopped detection, and what follows a stop that ends HALTED: the wait and the colour stop (R31, R99, R101, R134). -/

namespace Sys2Proof.Machine

/-! ### Stopped detection (R27, R31) -/

/-- The shaft at rest. -/
def State.restedShaft (s : State) : Shaft := { s.shaft with
  motion := .stopped, speed := 0, timedRev := false, needleUp := s.flagNow, counting := false, waiting := none
  brake := s.shaft.brake || s.shaft.waiting.isSome
  overrun := if s.shaft.counting then s.shaft.overrun else 0
  quiet := max s.shaft.quiet (s.nat .stopQuiet) }

/-- The stopped report that it gives. -/
def State.restedReport (s : State) : StoppedReport := ⟨s.angle, s.verdictAt s.angle, s.flagNow, s.restedShaft.overrun⟩

theorem stoppedEvent_of_turning {s : State} (hmotion : s.shaft.motion = .turning) (hline : s.shaft.line = 0) :
    stoppedEvent s = deliverReport s.restedReport { s with shaft := s.restedShaft } :=
  if_pos ⟨hmotion, hline⟩

theorem stoppedEvent_of_resting {s : State} (h : s.shaft.motion = .stopped ∨ 0 < s.shaft.line) : stoppedEvent s = s := by
  refine if_neg fun ⟨hmotion, hline⟩ => ?_
  rcases h with h | h
  · rw [h] at hmotion; cases hmotion
  · exact absurd hline h.ne'

/-- Outside STOPPING the report goes to a NEEDLE UP alone (R38, R96). -/
theorem deliverReport_outside {s : State} (h : s.run.state ≠ .stopping) (r : StoppedReport) :
    deliverReport r s = endNeedleUp r (cancelPulses s) :=
  if_neg h

/-- The report ends a stop that brakes (R96). -/
theorem deliverReport_braking {s : State} (h : s.run.state = .stopping) (hphase : s.run.phase = some .braking) (r : StoppedReport) :
    deliverReport r s = endStop r ((cancelPulses s).modRun fun x => { x with rested := some r }) := by
  have hstop : ((cancelPulses s).modRun fun x => { x with rested := some r }).run.state = .stopping := h
  unfold deliverReport
  dsimp only
  rw [if_pos (by exact h)]
  unfold tryEndStop
  rw [hstop]
  refine if_neg ?_
  rintro ⟨hstarting, -⟩
  exact absurd (hphase.symm.trans hstarting) (by decide)

theorem endNeedleUp_of_empty {s : State} (h : s.run.slot = none) (r : StoppedReport) : endNeedleUp r s = s := by
  unfold endNeedleUp
  rw [h]

theorem endNeedleUp_of_needleUp {s : State} {op : Op} (h : s.run.slot = some op) (hkind : op.kind = .needleUp) (r : StoppedReport) :
    endNeedleUp r s =
      endOperation (if op.aborted then .aborted else if r.needleUp then .ok else .failed) (needleUpDetail r false) s := by
  unfold endNeedleUp
  rw [h]
  exact if_pos hkind

/-- The detail of its OP_DONE, whole (R38, R204). -/
theorem needleUp_opDone (op : Op) (hkind : op.kind = .needleUp) (r : StoppedReport) :
    u8 op.kind.value ++ u8 op.starter.value ++ u8 (if op.aborted then OpResult.aborted else if r.needleUp then .ok else .failed).value
      ++ needleUpDetail r false =
    [0] ++ u8 op.starter.value ++ [if op.aborted then 2 else if r.needleUp then 0 else 1] ++ halfOrNone r.angle ++ u8 r.verdict.value
      ++ u32 r.overrun ++ [0] := by
  have hresult : u8 (if op.aborted then OpResult.aborted else if r.needleUp then .ok else .failed).value =
      [if op.aborted then 2 else if r.needleUp then 0 else 1] := by
    cases op.aborted <;> cases r.needleUp <;> decide
  have hop : u8 op.kind.value = [0] := by rw [hkind]; decide
  have hflag : flagByte false = [0] := by decide
  simp only [hresult, hop, hflag, needleUpDetail, List.append_assoc]

/-! ### The wait that a stop sets (R99, R101) -/

theorem waitAfterStop_of_other {s : State} (h : s.run.report.primary.map Recorded.cause ≠ some .colour) : s.waitAfterStop =
    if s.run.report.primary.map Recorded.cause = some .data ∧ s.run.report.secondary = [] ∧ s.nat .autoResume = 1 then some .data
    else none := by
  unfold State.waitAfterStop
  by_cases hsecondary : s.run.report.secondary = []
  · rw [if_neg (not_not.mpr hsecondary)]
    by_cases hdata : s.run.report.primary.map Recorded.cause = some .data
    · rw [hdata]
      simp [hsecondary]
    · split
      · next h' => exact absurd h' hdata
      · next h' => exact absurd h' h
      · simp [hdata]
  · rw [if_pos hsecondary]
    simp [hsecondary]

theorem waitAfterStop_of_colour {s : State} (h : s.run.report.primary.map Recorded.cause = some .colour) : s.waitAfterStop =
    if s.run.report.secondary = [] ∧ s.nat .colourRestart = 1 then some .colour else none := by
  unfold State.waitAfterStop
  rw [h]
  by_cases hsecondary : s.run.report.secondary = [] <;> simp [hsecondary]

theorem afterHalt_of_other {s : State} (h : s.run.report.primary.map Recorded.cause ≠ some .colour) :
    afterHalt s = s.modRun fun r => { r with resume := s.waitAfterStop } :=
  if_neg h

theorem afterHalt_of_colour {s : State} (h : s.run.report.primary.map Recorded.cause = some .colour) :
    afterHalt s = colourStop (s.modRun fun r => { r with resume := s.waitAfterStop }) :=
  if_pos h

/-! ### The colour stop (R134) -/

section
variable (s : State)

/-- The colour step, the needle planned, the needle in place and no time, as an OP_DONE of the change gives them (R204). -/
def State.colourDone (n : Nat) : List Byte := u8 s.store.cursorColour ++ u8 n ++ byteOrNone s.needle.settled ++ u32 0

/-- The change that the colour stop placed in the slot ends (R102, R204). -/
theorem endOperation_of_colour {s : State} {stamp : Word} (hslot : s.run.slot = some ⟨.colourChange, .part, stamp, none, false⟩)
    (n : Nat) (r : OpResult) (w : Option DetailWord) : endOperation r (changeDetail s n 0 w) s =
    raiseNotice srcOpDone s.store.cursor ([5, 1] ++ u8 r.value ++ s.colourDone n ++ detailWordBytes w)
      (s.modRun fun x => { x with slot := none }) := by
  have hhead : u8 OpKind.colourChange.value ++ u8 Starter.part.value = [5, 1] := by decide
  rw [endOperation_of_slot hslot, hhead]
  simp only [changeDetail, needleBytes, State.colourDone, List.append_assoc]

/-- The COLOUR notice raised. -/
def State.colourRaised : State := raiseNotice srcColour s.store.cursor (colourDetail s s.planNeedle) s

/-- No needle stands in the plan. -/
theorem colourStop_unplanned (h : s.planNeedle = none) : colourStop s = { s.colourRaised with
    run := { s.run with
      resume := none, colourTimer := .stopped
      report := { s.run.report with secondary := s.run.report.noted ⟨.needlePlan, s.store.cursor, s.clock⟩ } } } := by
  have hplan : s.colourRaised.planNeedle = none := h
  have happend : appendCause .needlePlan s.store.cursor s.colourRaised = { s.colourRaised with
      run := { s.run with report := { s.run.report with secondary := s.run.report.noted ⟨.needlePlan, s.store.cursor, s.clock⟩ } } } := by
    refine Eq.trans ?_ (congrArg (fun r => { s.colourRaised with run := r }) (appendCause_run .needlePlan s.store.cursor s.colourRaised))
    unfold appendCause
    split <;> rfl
  have hstop : colourStop s = causeInHalted .needlePlan s.store.cursor s.colourRaised := by
    unfold colourStop
    simp only [← State.colourRaised.eq_def, hplan]
    rfl
  rw [hstop, causeInHalted, happend]
  rfl

variable {s} {n : Nat} (hplan : s.planNeedle = some n)
include hplan

theorem colourStop_full (h : s.run.slot ≠ none) : colourStop s = { s.colourRaised with
    run := { s.run with resume := none, colourTimer := .stopped } } := by
  have hfull : ¬ s.colourRaised.slotEmpty = true := by
    intro hempty
    exact h (Option.isNone_iff_eq_none.mp hempty)
  unfold colourStop
  simp only [← State.colourRaised.eq_def, show s.colourRaised.planNeedle = some n from hplan, hfull]
  rfl

variable (hslot : s.run.slot = none)
include hslot

/-- The change takes the slot, and begins or ends at once. -/
theorem colourStop_planned : colourStop s =
    let c := fillSlot .colourChange .part none s.colourRaised
    if ¬ c.restsUp then endColourChange .aborted n 0 (some .needleDown) c
    else if (beginChange .colour n .part c).2 then endColourChange .ok n 0 none (beginChange .colour n .part c).1
    else (beginChange .colour n .part c).1 := by
  have hempty : s.colourRaised.slotEmpty = true := Option.isNone_iff_eq_none.mpr hslot
  unfold colourStop
  simp only [← State.colourRaised.eq_def, show s.colourRaised.planNeedle = some n from hplan, hempty, not_true_eq_false, if_false]

/-- With the needle down the change ends before it begins. -/
theorem colourStop_down (h : s.restsUp = false) : colourStop s = raiseNotice srcOpDone s.store.cursor
    ([5, 1, 2] ++ s.colourDone n ++ [1, 3]) { s.colourRaised with
      run := { s.run with slot := none, resume := none, colourTimer := .stopped } } := by
  have hdown : ¬ (fillSlot .colourChange .part none s.colourRaised).restsUp = true := fun hup => by
    rw [show (fillSlot .colourChange .part none s.colourRaised).restsUp = s.restsUp from rfl, h] at hup
    cases hup
  rw [colourStop_planned hplan hslot]
  simp only [hdown, not_false_eq_true, if_true, endColourChange, reduceCtorEq, Option.some.injEq, false_and, if_false]
  rw [endOperation_of_colour (s := fillSlot .colourChange .part none s.colourRaised) rfl]
  rfl

/-- On the needle already settled the change ends at once. -/
theorem colourStop_settled (h : s.restsUp = true) (hsettled : s.needle.settled = some n) : colourStop s =
    raiseNotice srcOpDone s.store.cursor ([5, 1, 0] ++ s.colourDone n ++ [0, 0]) { s.colourRaised with
      run := { s.run with
        slot := none
        colourTimer := if s.run.resume = some .colour then
            (if s.nat .colourDelay = 0 then .expired else .running (s.nat .colourDelay))
          else s.run.colourTimer }
      needle := { s.needle with target := n, watch := none } } := by
  have hup : (fillSlot .colourChange .part none s.colourRaised).restsUp = true := h
  have hsame : (fillSlot .colourChange .part none s.colourRaised).needle.settled = some n := hsettled
  rw [colourStop_planned hplan hslot]
  simp only [hup, not_true_eq_false, if_false, beginChange, hsame, if_true, endColourChange, reduceCtorEq, false_and]
  rw [endOperation_of_colour (s := (fillSlot .colourChange .part none s.colourRaised).modNeedle
    fun x => { x with target := n, watch := none }) rfl]
  unfold startColourTimer
  split
  · next hwait =>
    rw [if_pos (by exact hwait)]
    rfl
  · next hwait =>
    rw [if_neg (by exact hwait)]
    rfl

/-- On any other the change begins. -/
theorem colourStop_begins (h : s.restsUp = true) (hsettled : s.needle.settled ≠ some n) : colourStop s = { s.colourRaised with
    run := { s.run with slot := some ⟨.colourChange, .part, s.clock, none, false⟩ }
    needle := { s.needle with
      target := n, request := true, watch := none
      change := some ⟨.colour, n, .part, s.nat .needleTimeout, s.nat .needleTimeout, s.clock⟩ } } := by
  have hup : (fillSlot .colourChange .part none s.colourRaised).restsUp = true := h
  have hnot : (fillSlot .colourChange .part none s.colourRaised).needle.settled ≠ some n := hsettled
  rw [colourStop_planned hplan hslot]
  simp only [hup, not_true_eq_false, if_false, beginChange, hnot, Bool.false_eq_true]
  rfl

end

end Sys2Proof.Machine
end

section
/-! PROOFS. The clauses of TheShaftComesToRest on stopped detection (R31, R38, R96, R99, R134). -/

namespace Sys2Proof.Machine

theorem exec_stoppedDetection {s : State} (hs : s.awake) : exec .stoppedDetection s = .next (settle (stoppedEvent s)) :=
  congrArg _ (event_of_awake hs)

/-! ### Outside a stop (R31, R38, R121) -/

section
variable {s : State} (hs : s.awake) (hmotion : s.shaft.motion = .turning) (hline : s.shaft.line = 0) (hstate : s.run.state ≠ .stopping)
include hs hmotion hline hstate

theorem exec_stoppedDetection_outside : exec .stoppedDetection s =
    .next (settle (endNeedleUp s.restedReport (cancelPulses { s with shaft := s.restedShaft }))) := by
  rw [exec_stoppedDetection hs, stoppedEvent_of_turning hmotion hline, deliverReport_outside (by exact hstate)]

/-- With the slot empty the shaft rests and the pulses have ended, and that is all. -/
theorem stoppedDetection_idle (hslot : s.run.slot = none) : ∃ t, exec .stoppedDetection s = .next (settle t) ∧
    t.shaft = s.restedShaft ∧ (∀ c : Chan, t.func.channels[c] = { s.func.channels[c] with pulse := none }) ∧
    t.run = s.run ∧ t.store = s.store ∧ t.frame = s.frame ∧ t.planner = s.planner ∧ t.thread = s.thread ∧
    t.table = s.table ∧ t.notices = s.notices := by
  refine ⟨cancelPulses { s with shaft := s.restedShaft }, ?_, rfl, cancelPulses_channel _, rfl, rfl, rfl, rfl, rfl, rfl, rfl⟩
  rw [exec_stoppedDetection_outside hs hmotion hline hstate, endNeedleUp_of_empty (by exact hslot)]

/-- A NEEDLE UP in the slot ends with what was found. -/
theorem stoppedDetection_needleUp {op : Op} (hslot : s.run.slot = some op) (hkind : op.kind = .needleUp) :
    ∃ t, exec .stoppedDetection s = .next (settle t) ∧ t.shaft = s.restedShaft ∧ t.run = { s.run with slot := none } ∧
      (∀ c : Chan, t.func.channels[c] = { s.func.channels[c] with pulse := none }) ∧
      t.notices = (raiseNotice srcOpDone s.store.cursor
        ([0] ++ u8 op.starter.value ++ [if op.aborted then 2 else if s.flagNow then 0 else 1]
          ++ halfOrNone s.angle ++ u8 (s.verdictAt s.angle).value ++ u32 s.restedShaft.overrun ++ [0]) s).notices ∧
      t.store = s.store ∧ t.frame = s.frame ∧ t.planner = s.planner ∧ t.thread = s.thread ∧ t.table = s.table := by
  have hdone := needleUp_opDone op hkind s.restedReport
  refine ⟨raiseNotice srcOpDone s.store.cursor _ ((cancelPulses { s with shaft := s.restedShaft }).modRun fun r => { r with slot := none }),
    ?_, rfl, rfl, cancelPulses_channel _, rfl, rfl, rfl, rfl, rfl, rfl⟩
  rw [exec_stoppedDetection_outside hs hmotion hline hstate, endNeedleUp_of_needleUp (by exact hslot) hkind,
    endOperation_of_slot (by exact hslot), hdone]
  rfl

end

/-! ### The end of a stop (R92, R96) -/

/-- The run when a stop has been reported (R92, R96). -/
theorem State.ReportsStop.run_eq {l : RunState} {x : StoppedReport} {s t : State} (h : s.ReportsStop l x t) : t.run = { s.run with
    state := l, phase := none, outstanding := none, work := none, rested := none, inject := none
    report := { s.run.report with
      kind := s.run.kind, angle := x.angle, verdict := some x.verdict, overrun := x.overrun
      incomplete := s.run.outstanding.map Turn.index, discarded := s.run.inject.or s.run.report.discarded } } := by
  rw [h.run, stopFilled_eq]

theorem State.ReportsStop.nat_eq {l : RunState} {x : StoppedReport} {s t : State} (h : s.ReportsStop l x t) (p : Param) :
    t.nat p = s.nat p := by
  obtain ⟨hparams, -⟩ := machineSide_eq_iff.mp h.side
  simp only [State.nat, State.par, hparams]

/-- The wait that a stop without a colour stop leaves (R99). -/
def State.dataWait (s : State) : Option Resume :=
  if s.run.kind = some .emergency then s.run.resume
  else if s.run.report.primary.map Recorded.cause = some .data ∧ s.run.report.secondary = [] ∧ s.nat .autoResume = 1 then some .data
  else none

/-- The wait that a colour stop begins with (R101). -/
def State.colourWait (s : State) : Option Resume :=
  if s.run.report.secondary = [] ∧ s.nat .colourRestart = 1 then some .colour else none

/-- Without a colour stop the end of a stop sets the wait for DATA at most (R99). -/
theorem endStop_without_colour {s : State} (x : StoppedReport) (hstate : s.run.state = .stopping)
    (h : s.run.kind = some .emergency ∨ s.run.report.primary.map Recorded.cause ≠ some .colour) :
    ∃ u, s.ReportsStop (if s.run.kind = some .emergency then .locked else .halted) x u ∧
      endStop x s = { u with run := { u.run with resume := s.dataWait } } := by
  rw [endStop_eq]
  by_cases hkind : s.run.kind = some .emergency
  · have hreports := reportsStop_stopReportedIn (.inr rfl) x hstate
    simp only [State.dataWait, hkind, if_true]
    refine ⟨_, hreports, ?_⟩
    have hresume : (s.stopReportedIn .locked x).run.resume = s.run.resume := by rw [hreports.run_eq]
    rw [← hresume]
  · have hreports := reportsStop_stopReportedIn (.inl rfl) x hstate
    simp only [State.dataWait, hkind, if_false]
    refine ⟨_, hreports, ?_⟩
    have hprimary : (s.stopReportedIn .halted x).run.report.primary = s.run.report.primary := by rw [hreports.run_eq]
    have hsecondary : (s.stopReportedIn .halted x).run.report.secondary = s.run.report.secondary := by rw [hreports.run_eq]
    have hcause : (s.stopReportedIn .halted x).run.report.primary.map Recorded.cause ≠ some .colour := by
      rw [hprimary]
      exact h.resolve_left hkind
    rw [afterHalt_of_other hcause, waitAfterStop_of_other hcause, hprimary, hsecondary, hreports.nat_eq]
    rfl

/-- A COLOUR stop is completed at the Needle Bar Control, with the wait set (R101, R134). -/
theorem endStop_with_colour {s : State} (x : StoppedReport) (hstate : s.run.state = .stopping)
    (hkind : s.run.kind ≠ some .emergency) (hprimary : s.run.report.primary.map Recorded.cause = some .colour) :
    ∃ u, s.ReportsStop .halted x u ∧ endStop x s = colourStop { u with run := { u.run with resume := s.colourWait } } := by
  rw [endStop_eq, if_neg hkind]
  have hreports := reportsStop_stopReportedIn (.inl rfl) x hstate
  refine ⟨_, hreports, ?_⟩
  have hsame : (s.stopReportedIn .halted x).run.report.primary = s.run.report.primary := by rw [hreports.run_eq]
  have hsecondary : (s.stopReportedIn .halted x).run.report.secondary = s.run.report.secondary := by rw [hreports.run_eq]
  have hcause : (s.stopReportedIn .halted x).run.report.primary.map Recorded.cause = some .colour := by rw [hsame, hprimary]
  rw [afterHalt_of_colour hcause, waitAfterStop_of_colour hcause, hsecondary, hreports.nat_eq]
  rfl

/-! ### Stopped detection in a run that brakes (R31, R96) -/

/-- The state that the stopped report meets: the shaft at rest and the pulses ended (R31, R121). -/
def State.foundStopped (s : State) : State :=
  (cancelPulses { s with shaft := s.restedShaft }).modRun fun x => { x with rested := some s.restedReport }

theorem exec_stoppedDetection_braking {s : State} (hs : s.awake) (hmotion : s.shaft.motion = .turning) (hline : s.shaft.line = 0)
    (hstate : s.run.state = .stopping) (hphase : s.run.phase = some .braking) :
    exec .stoppedDetection s = .next (settle (endStop s.restedReport s.foundStopped)) := by
  rw [exec_stoppedDetection hs, stoppedEvent_of_turning hmotion hline, deliverReport_braking (by exact hstate) (by exact hphase)]
  rfl

/-- What the report of a stop leaves behind. -/
theorem State.ReportsStop.leaves {l : RunState} {s u : State} (h : s.foundStopped.ReportsStop l s.restedReport u) :
    u.run.state = l ∧ u.run.slot = s.run.slot ∧ u.run.report.secondary = s.run.report.secondary ∧ u.run.phase = none ∧
    u.run.outstanding = none ∧ u.run.report.primary = s.run.report.primary ∧ u.run.report.kind = s.run.kind ∧
    u.run.report.angle = s.angle ∧ u.run.report.verdict = some (s.verdictAt s.angle) ∧
    u.run.report.incomplete = s.run.outstanding.map Turn.index ∧ u.shaft = s.restedShaft ∧ u.store.cursor = s.store.cursor ∧
    u.store.cursorColour = s.store.cursorColour ∧ u.clock = s.clock := by
  obtain ⟨-, -, hshaft, -, -, hclock⟩ := machineSide_eq_iff.mp h.side
  have hstore := congrArg LowSide.store h.rests.lowSide
  have hcursor := congrArg Store.cursor hstore
  have hcolour := congrArg Store.cursorColour hstore
  rw [h.run_eq]
  exact ⟨rfl, rfl, rfl, rfl, rfl, rfl, rfl, rfl, rfl, rfl, hshaft, hcursor, hcolour, hclock⟩

end Sys2Proof.Machine
end

section
/-! PROOFS. The clauses on the end of a stop, without and with a colour stop (R96, R99, R101, R134, R138). -/

namespace Sys2Proof.Machine

/-- Whatever becomes of the change, the stop has been reported and the COLOUR notice raised (R134). -/
theorem colourStop_common (s : State) : (colourStop s).run.state = s.run.state ∧ (colourStop s).run.phase = s.run.phase ∧
    (colourStop s).run.report.primary = s.run.report.primary ∧ (colourStop s).notices.sources[srcColour].pending = true := by
  have hraised : s.colourRaised.notices.sources[srcColour].pending = true := by
    rw [State.colourRaised, raiseNotice_self]
    exact occurrence_pending _ _ _ _
  have hdone (i : Nat) (d : List Byte) (t : State) (ht : t.notices = s.colourRaised.notices) :
      (raiseNotice srcOpDone i d t).notices.sources[srcColour].pending = true := by
    rw [raiseNotice_other srcOpDone srcColour i d t (by decide), ht]
    exact hraised
  cases hplan : s.planNeedle with
  | none => rw [colourStop_unplanned s hplan]; exact ⟨rfl, rfl, rfl, hraised⟩
  | some n =>
    cases hslot : s.run.slot with
    | some op => rw [colourStop_full hplan (by rw [hslot]; simp)]; exact ⟨rfl, rfl, rfl, hraised⟩
    | none =>
      cases hup : s.restsUp with
      | false => rw [colourStop_down hplan hslot hup]; exact ⟨rfl, rfl, rfl, hdone _ _ _ rfl⟩
      | true =>
        by_cases hsettled : s.needle.settled = some n
        · rw [colourStop_settled hplan hslot hup hsettled]; exact ⟨rfl, rfl, rfl, hdone _ _ _ rfl⟩
        · rw [colourStop_begins hplan hslot hup hsettled]; exact ⟨rfl, rfl, rfl, hraised⟩

/-- The part as the colour stop that ends the stop s brakes for meets it: HALTED, the shaft at rest, the lost watch disarmed (R96, R101,
R138). -/
structure State.ToColourStop (s y : State) : Prop where
  state : y.run.state = .halted
  phase : y.run.phase = none
  slot : y.run.slot = s.run.slot
  resume : y.run.resume = s.colourWait
  primary : y.run.report.primary = s.run.report.primary
  secondary : y.run.report.secondary = s.run.report.secondary
  shaft : y.shaft = s.restedShaft
  needle : y.needle = { s.needle with watch := none }
  cursor : y.store.cursor = s.store.cursor
  cursorColour : y.store.cursorColour = s.store.cursorColour
  clock : y.clock = s.clock
  params : y.params = s.params

section
variable {s : State} (hs : s.awake) (hmotion : s.shaft.motion = .turning) (hline : s.shaft.line = 0)
  (hstate : s.run.state = .stopping) (hphase : s.run.phase = some .braking)
include hs hmotion hline hstate hphase

/-- The end of a stop without a colour stop. -/
theorem stoppedDetection_ends (h : s.run.kind = some .emergency ∨ s.run.report.primary.map Recorded.cause ≠ some .colour) :
    ∃ u, s.foundStopped.ReportsStop (if s.run.kind = some .emergency then .locked else .halted) s.restedReport u ∧
      exec .stoppedDetection s = .next (settle { u with run := { u.run with resume := s.dataWait } }) := by
  obtain ⟨u, hreports, hend⟩ := endStop_without_colour (s := s.foundStopped) s.restedReport hstate h
  refine ⟨u, hreports, ?_⟩
  rw [exec_stoppedDetection_braking hs hmotion hline hstate hphase, hend]
  rfl

/-- The colour stop meets the part so. -/
theorem stoppedDetection_colour (hkind : s.run.kind ≠ some .emergency)
    (hprimary : s.run.report.primary.map Recorded.cause = some .colour) :
    ∃ y : State, exec .stoppedDetection s = .next (settle (colourStop y)) ∧ s.ToColourStop y := by
  obtain ⟨u, hreports, hend⟩ := endStop_with_colour (s := s.foundStopped) s.restedReport hstate hkind hprimary
  obtain ⟨hhalted, hslot, hsecondary, hnone, -, hsame, -, -, -, -, hshaft, hcursor, hcolour, hclock⟩ := hreports.leaves
  obtain ⟨hparams, -⟩ := machineSide_eq_iff.mp hreports.side
  refine ⟨{ u with run := { u.run with resume := s.foundStopped.colourWait } }, ?_, hhalted, hnone, hslot, rfl, hsame, hsecondary,
    hshaft, hreports.needle, hcursor, hcolour, hclock, hparams⟩
  rw [exec_stoppedDetection_braking hs hmotion hline hstate hphase, hend]

end

/-! ### What the colour stop leaves (R101, R134) -/

section
variable {s y : State} (h : s.ToColourStop y)
include h

theorem State.ToColourStop.planNeedle : y.planNeedle = s.planNeedle := by
  simp only [State.planNeedle, h.needle, h.cursorColour]
  rfl

theorem State.ToColourStop.restsUp : y.restsUp = s.flagNow := by
  simp only [State.restsUp, h.shaft]
  rfl

theorem State.ToColourStop.nat_eq (p : Param) : y.nat p = s.nat p := by simp only [State.nat, State.par, h.params]

theorem State.ToColourStop.done (n : Nat) : y.colourDone n = s.colourDone n := by
  simp only [State.colourDone, h.needle, h.cursorColour]

/-- With no needle in the plan there is no change (R134). -/
theorem State.ToColourStop.unplanned (hplan : s.planNeedle = none) : (colourStop y).run.slot = s.run.slot ∧
    (colourStop y).needle = { s.needle with watch := none } ∧ (colourStop y).run.resume = none ∧
    (colourStop y).run.report.secondary = s.run.report.noted ⟨.needlePlan, s.store.cursor, s.clock⟩ := by
  have hnoted : y.run.report.noted ⟨.needlePlan, y.store.cursor, y.clock⟩ = s.run.report.noted ⟨.needlePlan, y.store.cursor, y.clock⟩ := by
    simp only [StopReport.noted, h.secondary]
  rw [colourStop_unplanned y (h.planNeedle.trans hplan)]
  refine ⟨h.slot, h.needle, rfl, ?_⟩
  rw [← h.cursor, ← h.clock]
  exact hnoted

variable {n : Nat} (hplan : s.planNeedle = some n)
include hplan

theorem State.ToColourStop.full (hslot : s.run.slot ≠ none) : (colourStop y).run.slot = s.run.slot ∧
    (colourStop y).needle = { s.needle with watch := none } ∧ (colourStop y).run.resume = none ∧
    (colourStop y).run.report.secondary = s.run.report.secondary := by
  rw [colourStop_full (h.planNeedle.trans hplan) (by rw [h.slot]; exact hslot)]
  exact ⟨h.slot, h.needle, rfl, h.secondary⟩

variable (hslot : s.run.slot = none)
include hslot

theorem State.ToColourStop.down (hflag : s.flagNow = false) : (colourStop y).run.slot = none ∧
    (colourStop y).needle = { s.needle with watch := none } ∧ (colourStop y).run.resume = none ∧
    (colourStop y).run.report.secondary = s.run.report.secondary ∧ (colourStop y).notices.sources[srcOpDone].pending = true ∧
    (colourStop y).notices.sources[srcOpDone].detail = [5, 1, 2] ++ s.colourDone n ++ [1, 3] := by
  rw [colourStop_down (h.planNeedle.trans hplan) (h.slot.trans hslot) (h.restsUp.trans hflag), raiseNotice_self, h.done]
  exact ⟨rfl, h.needle, rfl, h.secondary, occurrence_pending _ _ _ _, occurrence_detail _ _ _ _⟩

theorem State.ToColourStop.settled (hflag : s.flagNow = true) (hsettled : s.needle.settled = some n) :
    (colourStop y).run.slot = none ∧ (colourStop y).run.report.secondary = s.run.report.secondary ∧
    (colourStop y).needle = { s.needle with target := n, watch := none } ∧ (colourStop y).run.resume = s.colourWait ∧
    (s.colourWait = some .colour → (colourStop y).run.colourTimer =
      if s.nat .colourDelay = 0 then .expired else .running (s.nat .colourDelay)) ∧
    (colourStop y).notices.sources[srcOpDone].pending = true ∧
    (colourStop y).notices.sources[srcOpDone].detail = [5, 1, 0] ++ s.colourDone n ++ [0, 0] := by
  have hsame : y.needle.settled = some n := by rw [h.needle]; exact hsettled
  rw [colourStop_settled (h.planNeedle.trans hplan) (h.slot.trans hslot) (h.restsUp.trans hflag) hsame, raiseNotice_self, h.done]
  refine ⟨rfl, h.secondary, ?_, h.resume, fun hwait => ?_, occurrence_pending _ _ _ _, occurrence_detail _ _ _ _⟩
  · exact congrArg (fun x : NeedleBar => { x with target := n, watch := none }) h.needle
  · rw [← h.nat_eq]
    exact if_pos (h.resume.trans hwait)

theorem State.ToColourStop.begins (hflag : s.flagNow = true) (hsettled : s.needle.settled ≠ some n) :
    (colourStop y).run.report.secondary = s.run.report.secondary ∧
    (colourStop y).run.slot = some ⟨.colourChange, .part, s.clock, none, false⟩ ∧ (colourStop y).run.resume = s.colourWait ∧
    (colourStop y).needle = { s.needle with
      target := n, request := true, watch := none
      change := some ⟨.colour, n, .part, s.nat .needleTimeout, s.nat .needleTimeout, s.clock⟩ } := by
  have hother : y.needle.settled ≠ some n := by rw [h.needle]; exact hsettled
  rw [colourStop_begins (h.planNeedle.trans hplan) (h.slot.trans hslot) (h.restsUp.trans hflag) hother, h.nat_eq, h.clock, h.needle]
  exact ⟨h.secondary, rfl, h.resume, rfl⟩

end

end Sys2Proof.Machine
end

section
/-! PROOFS. An EMERGENCY cause in every run state: what it leaves of the machine, of a run and of an operation (R35, R67, R93 to R95, R103). -/

namespace Sys2Proof.Machine

/-! ### The stopped report of an EMERGENCY (R31, R88, R96) -/

theorem State.Stills.side {s t u : State} (h : s.Stills t) (hu : u.machineSide = t.machineSide) (hrun : u.run.kind = t.run.kind ∧
    u.run.inject = none ∧ u.run.resume = t.run.resume ∧ u.run.colourTimer = t.run.colourTimer ∧ u.run.work = none ∧
    u.run.armed = t.run.armed ∧ u.run.repair = t.run.repair) (hdemand : u.planner.demand = 0) (hengage : u.table.engage = 0)
    (hcursor : u.store.cursor = t.store.cursor) : s.Stills u := by
  obtain ⟨hparams, hpins, -, hframe, hfunc, hclock⟩ := machineSide_eq_iff.mp hu
  obtain ⟨hkind, hinject, hresume, htimer, hwork, harmed, hrepair⟩ := hrun
  exact ⟨hparams.trans h.params, hpins.trans h.pins, hclock.trans h.clock, hkind.trans h.kind, hinject, hresume.trans h.resume,
    htimer.trans h.colourTimer, hwork, harmed.trans h.armed, hrepair.trans h.repair, hdemand, by rw [hframe]; exact h.move,
    by rw [hframe]; exact h.stepX, by rw [hframe]; exact h.stepY, by rw [hframe]; exact h.ref, by rw [hfunc]; exact h.channels,
    hengage, hcursor.trans h.cursor⟩

theorem State.Stills.cancelPulses {s t : State} (h : s.Stills t) : s.Stills (Machine.cancelPulses t) := by
  refine ⟨h.params, h.pins, h.clock, h.kind, h.inject, h.resume, h.colourTimer, h.work, h.armed, h.repair, h.demand, h.move, h.stepX,
    h.stepY, h.ref, fun k => ?_, h.engage, h.cursor⟩
  rw [cancelPulses_channel, h.channels k]
  rfl

theorem State.Stills.rested {s t : State} (h : s.Stills t) (r : Option StoppedReport) : s.Stills (t.modRun fun x => { x with rested := r }) :=
  ⟨h.params, h.pins, h.clock, h.kind, h.inject, h.resume, h.colourTimer, h.work, h.armed, h.repair, h.demand, h.move, h.stepX,
    h.stepY, h.ref, h.channels, h.engage, h.cursor⟩

/-- The end of an EMERGENCY stop leaves what the cause left. -/
theorem State.Stills.endStop {s t : State} (h : s.Stills t) (hstate : t.run.state = .stopping) (r : StoppedReport) :
    s.Stills (Machine.endStop r t) ∧ t.ReportsStop .locked r (Machine.endStop r t) := by
  have hreports := reportsStop_stopReportedIn (.inr rfl) r hstate
  rw [endStop_eq, if_pos h.kind]
  generalize t.stopReportedIn .locked r = u at hreports ⊢
  refine ⟨h.side hreports.side ?_ hreports.rests.demand hreports.rests.engage ?_, hreports⟩
  · rw [hreports.run_eq]
    exact ⟨rfl, rfl, rfl, rfl, rfl, rfl, rfl⟩
  · have hcursor := congrArg Store.cursor (congrArg LowSide.store hreports.rests.lowSide)
    exact hcursor

/-! ### What an EMERGENCY cause leaves of the machine (R95) -/

/-- The verdict is by the angle and the parameters (R36). -/
theorem verdictAt_congr {s t : State} (h : t.params = s.params) (a : Option Nat) : t.verdictAt a = s.verdictAt a := by
  cases s
  cases t
  cases h
  rfl

/-- The shaft has come to rest, or its quiet time has passed (R31, R34). -/
def State.CauseRests (s : State) : Prop := s.shaft.motion = .stopped ∨ s.nat .stopQuiet ≤ s.shaft.quiet

section
variable (c : Cause) (i : Nat) (s : State)

theorem caused_angle : (s.caused c i).angle = s.angle := by
  simp only [State.angle, caused_shaft, caused_nat]

theorem caused_verdict (a : Option Nat) : (s.caused c i).verdictAt a = s.verdictAt a :=
  verdictAt_congr (stills_caused c i s).params a

variable {c} {s}

/-- Outside a run the state is LOCKED before the report is taken (R94). -/
theorem caused_locked (hrun : ¬ (s.run.state = .running ∨ s.run.state = .stopping)) :
    (s.recorded c i).run.state = s.run.state ∧ (s.caused c i).run.state = .locked ∧ (s.caused c i).run.phase = s.run.phase := by
  have hsame : (s.recorded c i).run.state = s.run.state := by
    unfold State.recorded
    split
    · next h => exact absurd (.inl h) hrun
    · next h => exact absurd (.inr h) hrun
    · rw [appendCause_run]
    · rw [appendCause_run]
    · rfl
    · rfl
  obtain ⟨-, -, -, -, -, -, hout⟩ := emergencyMade_leaves (s.recorded c i)
  obtain ⟨hlocked, hphase⟩ := hout (by rw [hsame]; exact hrun)
  exact ⟨hsame, hlocked, hphase.trans (by rw [recorded_eq])⟩

variable (hc : c.isEmergency = true)
include hc

/-- The shaft turns on with BRAKE asserted (R34). -/
theorem takeCause_turns_on (h : ¬ s.CauseRests) : takeCause c i s = { s.caused c i with shaft := s.shaft.braked } := by
  have hmotion : s.shaft.motion = .turning := by
    cases hm : s.shaft.motion with
    | stopped => exact absurd (.inl hm) h
    | turning => rfl
  exact takeCause_turning_eq hc i hmotion (Nat.lt_of_not_le fun hq => h (.inr hq))

/-- The shaft's stopped report follows at once (R31, R34). -/
theorem takeCause_rests (h : s.CauseRests) : ∃ x r, takeCause c i s = deliverReport r { s.caused c i with shaft := x } ∧
    x.line = 0 ∧ x.brake = true ∧ x.stall = none ∧ x.motion = .stopped ∧ r.angle = s.angle ∧ r.verdict = s.verdictAt s.angle := by
  have hrests : (s.caused c i).shaft.motion = .stopped ∨ (s.caused c i).nat .stopQuiet ≤ (s.caused c i).shaft.quiet := by
    rw [caused_shaft, caused_nat]
    exact h
  obtain ⟨x, r, horder, hline, hbrake, hstall, hmotion, -, -, hangle, hverdict⟩ := brakeOrder_rests hrests
  rw [caused_angle] at hangle hverdict
  rw [caused_verdict] at hverdict
  exact ⟨x, r, by rw [takeCause_emergency hc, emergency_eq]; exact horder, hline, hbrake, hstall, hmotion, hangle, hverdict⟩

/-- At rest the stop of a run ends at once, LOCKED (R88, R96). -/
theorem takeCause_ends_run (h : s.CauseRests) (hrun : s.run.state = .running ∨ s.run.state = .stopping) :
    ∃ x r z, (s.Stills z ∧ z.shaft = x ∧ z.run.outstanding = s.run.outstanding ∧ s.RecordsRun z ⟨c, i, s.clock⟩) ∧
      takeCause c i s = endStop r z ∧ x.line = 0 ∧ x.brake = true ∧ x.stall = none ∧ x.motion = .stopped ∧
      r.angle = s.angle ∧ r.verdict = s.verdictAt s.angle := by
  obtain ⟨x, r, htake, hline, hbrake, hstall, hmotion, hangle, hverdict⟩ := takeCause_rests i hc h
  obtain ⟨hrecords, hphase, hout⟩ := caused_run i hrun (s := s) (c := c)
  refine ⟨x, r, (cancelPulses { s.caused c i with shaft := x }).modRun fun y => { y with rested := some r },
    ⟨(((stills_caused c i s).modShaft x).cancelPulses).rested _, rfl, hout, hrecords.state, hrecords.running, hrecords.stopping⟩, ?_,
    hline, hbrake, hstall, hmotion, hangle, hverdict⟩
  rw [htake, deliverReport_braking (by exact hrecords.state) (by exact hphase)]

/-- At rest a NEEDLE UP in the slot has its report (R39). -/
theorem takeCause_ends_locked (h : s.CauseRests) (hrun : ¬ (s.run.state = .running ∨ s.run.state = .stopping)) :
    ∃ x r, takeCause c i s = endNeedleUp r (cancelPulses { s.caused c i with shaft := x }) ∧
      x.line = 0 ∧ x.brake = true ∧ x.stall = none ∧ x.motion = .stopped := by
  obtain ⟨x, r, htake, hline, hbrake, hstall, hmotion, -, -⟩ := takeCause_rests i hc h
  obtain ⟨-, hlocked, -⟩ := caused_locked i hrun (c := c)
  refine ⟨x, r, ?_, hline, hbrake, hstall, hmotion⟩
  rw [htake, deliverReport_outside]
  exact fun hstop => absurd (hlocked.symm.trans hstop) (by decide)

/-- What the cause leaves of the machine in every run state (R34, R35, R67, R95, R104, R122, R164). -/
theorem takeCause_leaves : s.Stills (takeCause c i s) ∧ (takeCause c i s).shaft.line = 0 ∧ (takeCause c i s).shaft.brake = true ∧
    (takeCause c i s).shaft.stall = none ∧ (s.CauseRests → (takeCause c i s).shaft.motion = .stopped) ∧
    (¬ s.CauseRests → (takeCause c i s).shaft.motion = s.shaft.motion) := by
  by_cases h : s.CauseRests
  · by_cases hrun : s.run.state = .running ∨ s.run.state = .stopping
    · obtain ⟨x, r, z, ⟨hstills, hx, -, hrecords⟩, htake, hline, hbrake, hstall, hmotion, -, -⟩ := takeCause_ends_run i hc h hrun
      obtain ⟨hall, hreports⟩ := hstills.endStop hrecords.state r
      obtain ⟨-, -, hshaft, -⟩ := machineSide_eq_iff.mp hreports.side
      rw [htake, hshaft, hx]
      exact ⟨hall, hline, hbrake, hstall, fun _ => hmotion, fun h' => absurd h h'⟩
    · obtain ⟨x, r, htake, hline, hbrake, hstall, hmotion⟩ := takeCause_ends_locked i hc h hrun
      have hends := endsWork_endNeedleUp (cancelPulses { s.caused c i with shaft := x }) r
      have hshaft : (takeCause c i s).shaft = x := by rw [htake, hends.eq]; rfl
      rw [hshaft]
      refine ⟨?_, hline, hbrake, hstall, fun _ => hmotion, fun h' => absurd h h'⟩
      rw [htake]
      exact (((stills_caused c i s).modShaft x).cancelPulses).endsWork hends
  · rw [takeCause_turns_on i hc h]
    exact ⟨(stills_caused c i s).modShaft _, rfl, rfl, rfl, fun h' => absurd h' h, fun _ => rfl⟩

end

end Sys2Proof.Machine
end

section
/-! PROOFS. An EMERGENCY cause outside a run: LOCKED at once, and an operation in the slot ABORTED (R39, R94, R103). -/

namespace Sys2Proof.Machine

/-! ### An operation that an EMERGENCY cause ends (R103) -/

/-- The operation has ended ABORTED. -/
structure State.OpAborted (op : Op) (t : State) : Prop where
  slot : t.run.slot = none
  pending : t.notices.sources[srcOpDone].pending = true
  detail : t.notices.sources[srcOpDone].detail.take 3 = u8 op.kind.value ++ u8 op.starter.value ++ [2]

theorem opAborted_endOperation {s : State} {op : Op} (hslot : s.run.slot = some op) (d : List Byte) :
    (endOperation .aborted d s).OpAborted op := by
  rw [endOperation_of_slot hslot]
  refine ⟨rfl, ?_, ?_⟩ <;> rw [raiseNotice_self]
  · exact occurrence_pending _ _ _ _
  · rw [occurrence_detail]
    rfl

/-- The change that an EMERGENCY cause ends (R133). -/
theorem endChange_emergency {s : State} {op : Op} {c : NeedleChange} (hslot : s.run.slot = some op) (hchange : s.needle.change = some c)
    (hpurpose : c.purpose ≠ .start) : (endChange .aborted (some .emergency) s).OpAborted op ∧
    (endChange .aborted (some .emergency) s).needle = { s.needle with request := false, change := none } := by
  rw [endChange_of_some hchange]
  cases hp : c.purpose with
  | colour =>
    have hended := opAborted_endOperation (s := releaseChange s) hslot
      (changeDetail (releaseChange s) c.target (s.changeMs c (some .emergency)) (some .emergency))
    simp only [endColourChange, reduceCtorEq, Option.some.injEq, false_and, if_false]
    exact ⟨⟨hended.slot, hended.pending, hended.detail⟩, endOperation_needle ..⟩
  | select => exact ⟨opAborted_endOperation (s := releaseChange s) hslot _, endOperation_needle ..⟩
  | landing => exact ⟨opAborted_endOperation (s := releaseChange s) hslot _, endOperation_needle ..⟩
  | start => exact absurd hp hpurpose

/-- What the end of an operation of each kind leaves (R103, R124, R154). -/
structure State.LeavesOp (op : Op) (b t : State) : Prop where
  change : op.kind = .needleSelect ∨ op.kind = .colourChange → t.needle.change = none ∧ t.needle.request = false
  home : op.kind = .home → t.frame.homing = none
  sensorTest : op.kind = .sensorTest → t.thread.test = none ∧ (b.thread.test ≠ none → t.thread.testLoad = 0)
  channelTest : op.kind = .channelTest → t.func.test = none
  stepwise : op.kind = .backtrack ∨ op.kind = .repair ∨ op.kind = .repairAbandon →
    (b.needle.change = none → t.frame.dwell = none) ∧ t.needle.change = none

section
variable {b : State} {op : Op} (hslot : b.run.slot = some op) (hmove : b.frame.move = none)
  (hstart : ∀ e, b.needle.change = some e → e.purpose ≠ .start)
  (hchange : op.kind = .needleSelect ∨ op.kind = .colourChange → b.needle.change ≠ none)
include hslot

theorem abort_sensorTest : (abortSensorTest b).OpAborted op ∧ (abortSensorTest b).thread.test = none ∧
    (b.thread.test ≠ none → (abortSensorTest b).thread.testLoad = 0) := by
  unfold abortSensorTest
  split
  · next h => exact ⟨opAborted_endOperation hslot _, by rw [endOperation_thread, h], fun h' => absurd h h'⟩
  · exact ⟨opAborted_endOperation (s := releaseSensorTest b) hslot _, by rw [endOperation_thread]; rfl,
      fun _ => by rw [endOperation_thread]; rfl⟩

theorem abort_channelTest : (finishChannelTest .aborted b).OpAborted op ∧ (finishChannelTest .aborted b).func.test = none := by
  unfold finishChannelTest
  split
  · next h => exact ⟨opAborted_endOperation hslot _, by rw [endOperation_func, h]⟩
  · next x h =>
    have hended : endChannelTest b = (b.modChannel x.chan Channel.endPulse).modFunc fun u => { u with test := none } := by
      unfold endChannelTest
      rw [h]
    rw [hended]
    exact ⟨opAborted_endOperation (s := (b.modChannel x.chan Channel.endPulse).modFunc fun u => { u with test := none }) hslot _,
      by rw [endOperation_func]; rfl⟩

include hmove hstart hchange

/-- With no move in progress the operation ends at once, unless it is a NEEDLE UP. -/
theorem abortOperation_emergency (hkind : op.kind ≠ .needleUp) :
    (abortOperation .emergency b).OpAborted op ∧ b.LeavesOp op (abortOperation .emergency b) := by
  have hvacuous {t : State} (h1 : op.kind = .frameOut ∨ op.kind = .frameReturn) : b.LeavesOp op t := by
    rcases h1 with h1 | h1 <;> exact ⟨by simp [h1], by simp [h1], by simp [h1], by simp [h1], by simp [h1]⟩
  have hchanges (hk : op.kind = .needleSelect ∨ op.kind = .colourChange) :
      (abortOperation .emergency b).OpAborted op ∧ b.LeavesOp op (abortOperation .emergency b) := by
    obtain ⟨c, hsome⟩ := Option.ne_none_iff_exists'.mp (hchange hk)
    obtain ⟨hended, hneedle⟩ := endChange_emergency hslot hsome (hstart c hsome)
    rw [abortOperation_change hslot _ hk]
    refine ⟨hended, fun _ => by rw [hneedle]; exact ⟨rfl, rfl⟩, ?_, ?_, ?_, ?_⟩ <;> rcases hk with hk | hk <;> simp [hk]
  have hsteps (hk : op.kind = .backtrack ∨ op.kind = .repair ∨ op.kind = .repairAbandon) :
      (abortOperation .emergency b).OpAborted op ∧ b.LeavesOp op (abortOperation .emergency b) := by
    have hleaves {t : State} (ht : (b.needle.change = none → t.frame.dwell = none) ∧ t.needle.change = none) : b.LeavesOp op t := by
      rcases hk with hk | hk | hk <;> exact ⟨by simp [hk], by simp [hk], by simp [hk], by simp [hk], fun _ => ht⟩
    rw [abortOperation_stepwise hslot _ hmove hk]
    cases hsome : b.needle.change with
    | some c =>
      obtain ⟨hended, hneedle⟩ := endChange_emergency hslot hsome (hstart c hsome)
      refine ⟨hended, hleaves ⟨fun h => ?_, by simp [hneedle]⟩⟩
      rw [hsome] at h
      cases h
    | none =>
      exact ⟨opAborted_endOperation (s := b.modFrame fun f => { f with dwell := none }) hslot _,
        hleaves ⟨fun _ => congrArg Frame.dwell (endOperation_frame ..), (congrArg NeedleBar.change (endOperation_needle ..)).trans hsome⟩⟩
  cases hk : op.kind
  case needleUp => exact absurd hk hkind
  case home =>
    rw [abortOperation_home hslot _ hmove hk]
    refine ⟨opAborted_endOperation (s := b.modFrame fun f => { f with homing := none }) hslot _, by simp [hk], fun _ => ?_, by simp [hk],
      by simp [hk], by simp [hk]⟩
    exact congrArg Frame.homing (endOperation_frame ..)
  case frameOut =>
    rw [abortOperation_offset hslot _ hmove (.inl hk)]
    exact ⟨opAborted_endOperation hslot _, hvacuous (.inl hk)⟩
  case frameReturn =>
    rw [abortOperation_offset hslot _ hmove (.inr hk)]
    exact ⟨opAborted_endOperation hslot _, hvacuous (.inr hk)⟩
  case sensorTest =>
    rw [abortOperation_sensorTest hslot _ hk]
    obtain ⟨hended, htest, hload⟩ := abort_sensorTest hslot
    exact ⟨hended, by simp [hk], by simp [hk], fun _ => ⟨htest, hload⟩, by simp [hk], by simp [hk]⟩
  case channelTest =>
    rw [abortOperation_channelTest hslot _ hk]
    obtain ⟨hended, htest⟩ := abort_channelTest hslot
    exact ⟨hended, by simp [hk], by simp [hk], by simp [hk], fun _ => htest, by simp [hk]⟩
  case needleSelect => exact hchanges (.inl hk)
  case colourChange => exact hchanges (.inr hk)
  all_goals exact hsteps (by simp [hk])

end

/-! ### The state that is LOCKED when the operation is ended (R94) -/

/-- The state LOCKED, the machine stilled, before the operation in the slot is ended. -/
def State.silenced (c : Cause) (i : Nat) (s : State) : State := setRunState .locked (s.recorded c i).stilled

theorem ceaseWork_of_none {s : State} (h : s.run.work = none) : ceaseWork s = s := by
  have hrun : { s.run with work := none } = s.run := by rw [← h]
  simp only [ceaseWork, h, State.modRun, hrun]

section
variable {c : Cause} {i : Nat} {s : State} (hrun : ¬ (s.run.state = .running ∨ s.run.state = .stopping)) (hwork : s.run.work = none)
include hrun hwork

theorem caused_eq_abort : s.caused c i = abortOperation .emergency (s.silenced c i) := by
  obtain ⟨hsame, -⟩ := caused_locked i hrun (c := c)
  have hnone : (s.recorded c i).stilled.run.work = none := by
    change (s.recorded c i).run.work = none
    rw [recorded_eq]
    exact hwork
  have hout : ¬ ((s.recorded c i).stilled.run.state = .running ∨ (s.recorded c i).stilled.run.state = .stopping) := by
    change ¬ ((s.recorded c i).run.state = .running ∨ (s.recorded c i).run.state = .stopping)
    rw [hsame]
    exact hrun
  rw [State.caused, State.emergencyMade, ceaseWork_of_none hnone, State.braced, if_neg hout, State.silenced]

omit hwork in
/-- The recording of the cause raises no notice (R94). -/
theorem recorded_notices : (s.recorded c i).notices = s.notices := by
  unfold State.recorded
  split
  · next h => exact absurd (.inl h) hrun
  · next h => exact absurd (.inr h) hrun
  · unfold appendCause; split <;> rfl
  · unfold appendCause; split <;> rfl
  · rfl
  · rfl

omit hwork in
/-- It is s, but for what an EMERGENCY cause stills and its report, with the change of state raised. -/
theorem silenced_leaves : (s.silenced c i).run.slot = s.run.slot ∧ (s.silenced c i).frame.move = none ∧
    (s.silenced c i).needle.change = s.needle.change ∧ (s.silenced c i).thread = s.thread ∧
    (s.silenced c i).notices.sources[srcOpDone] = s.notices.sources[srcOpDone] ∧
    (s.run.state ≠ .locked → (s.silenced c i).notices.sources[srcState].pending = true ∧
      (s.silenced c i).notices.sources[srcState].detail = stateDetail s.run.state .locked s.store.cursor none) := by
  obtain ⟨hsame, -⟩ := caused_locked i hrun (c := c)
  have hnotices := recorded_notices (c := c) (i := i) hrun
  have heq := recorded_eq c i s
  revert hsame hnotices heq
  unfold State.silenced
  generalize s.recorded c i = v
  intro hsame hnotices heq
  have hslot : v.run.slot = s.run.slot := by rw [heq]
  have hchange : v.needle.change = s.needle.change := by rw [heq]
  have hthread : v.thread = s.thread := by rw [heq]
  have hstore : v.store = s.store := by rw [heq]
  obtain ⟨hmove, -⟩ := haltFrame_frame v
  by_cases hlocked : s.run.state = .locked
  · have hstay : setRunState .locked v.stilled = v.stilled := if_pos (hsame.trans hlocked)
    rw [hstay]
    exact ⟨hslot, hmove, hchange, hthread, congrArg (fun n : NoticeUnit => n.sources[srcOpDone]) hnotices,
      fun h => absurd hlocked h⟩
  · have hset := setRunState_stopped (s := v.stilled) (.inr rfl) (fun h => hlocked (hsame.symm.trans h))
    rw [hset]
    refine ⟨hslot, hmove, hchange, hthread, ?_, fun _ => ⟨?_, ?_⟩⟩
    · rw [raiseNotice_other _ _ _ _ _ (by decide)]
      exact congrArg (fun n : NoticeUnit => n.sources[srcOpDone]) hnotices
    · rw [raiseNotice_self]
      exact occurrence_pending _ _ _ _
    · rw [raiseNotice_self, occurrence_detail, ← hsame, ← hstore]
      rfl

/-- The operation in the slot, ended by the cause. -/
theorem caused_aborts {op : Op} (hslot : s.run.slot = some op) (hkind : op.kind ≠ .needleUp)
    (hstart : ∀ e, s.needle.change = some e → e.purpose ≠ .start)
    (hchange : op.kind = .needleSelect ∨ op.kind = .colourChange → s.needle.change ≠ none) :
    (s.caused c i).OpAborted op ∧ s.LeavesOp op (s.caused c i) := by
  obtain ⟨hslot', hmove, hsame, hthread, -⟩ := silenced_leaves (c := c) (i := i) hrun
  rw [caused_eq_abort hrun hwork]
  obtain ⟨hended, hleaves⟩ := abortOperation_emergency (hslot'.trans hslot) hmove (by rw [hsame]; exact hstart) (by rw [hsame]; exact hchange)
    hkind
  refine ⟨hended, hleaves.change, hleaves.home, ?_, hleaves.channelTest, ?_⟩
  · rw [← hthread]; exact hleaves.sensorTest
  · rw [← hsame]; exact hleaves.stepwise

/-- A NEEDLE UP is marked, to end with the stopped report (R39). -/
theorem caused_needleUp {op : Op} (hslot : s.run.slot = some op) (hkind : op.kind = .needleUp) :
    (s.caused c i).run.slot = some { op with aborted := true } := by
  obtain ⟨hslot', -⟩ := silenced_leaves (c := c) (i := i) hrun
  rw [caused_eq_abort hrun hwork, abortOperation_needleUp (hslot'.trans hslot) _ hkind]
  rfl

/-- What else the cause leaves of a state that is LOCKED at once (R92, R94). -/
theorem caused_keeps : (s.caused c i).store = s.store ∧ (s.caused c i).table = { s.table with engage := 0 } ∧
    (s.run.state = .idle ∨ s.run.state = .ready →
      (s.caused c i).run.report.primary = some ⟨c, i, s.clock⟩ ∧ (s.caused c i).run.report.secondary = []) ∧
    (s.run.state = .halted ∨ s.run.state = .locked →
      (s.caused c i).run.report.primary = s.run.report.primary ∧
      (s.caused c i).run.report.secondary = s.run.report.noted ⟨c, i, s.clock⟩) ∧
    (s.run.state ≠ .locked → (s.caused c i).notices.sources[srcState].pending = true ∧
      (s.caused c i).notices.sources[srcState].detail = stateDetail s.run.state .locked s.store.cursor none) ∧
    (s.run.slot = none → (s.caused c i).run.slot = none ∧
      (s.caused c i).notices.sources[srcOpDone] = s.notices.sources[srcOpDone]) := by
  obtain ⟨-, hstore, htable, hreport, -⟩ := emergencyMade_leaves (s.recorded c i)
  obtain ⟨hslot, hmove, -, -, hdone, hraised⟩ := silenced_leaves (c := c) (i := i) hrun
  have hends := endsWork_abortOperation (s.silenced c i) hmove (w := .emergency) (by decide)
  rw [← caused_eq_abort hrun hwork] at hends
  refine ⟨hstore.trans (by rw [recorded_eq]), htable.trans (by rw [recorded_eq]), fun hidle => ?_, fun hhalted => ?_, fun hstate => ?_,
    fun hnone => ?_⟩
  · have hprimary : (s.recorded c i).run.report = { StopReport.empty with primary := some ⟨c, i, s.clock⟩ } := by
      rw [recorded_of_idle hidle]
      rfl
    unfold State.caused
    rw [hreport, hprimary]
    exact ⟨rfl, rfl⟩
  · have hsecondary : (s.recorded c i).run.report = { s.run.report with secondary := s.run.report.noted ⟨c, i, s.clock⟩ } := by
      rw [recorded_of_halted hhalted, appendCause_run]
    unfold State.caused
    rw [hreport, hsecondary]
    exact ⟨rfl, rfl⟩
  · rw [hends.notices srcState (by decide)]
    exact hraised hstate
  · obtain ⟨hempty, hsame⟩ := hends.idle (hslot.trans hnone)
    exact ⟨hempty, by rw [hsame]; exact hdone⟩

end

/-! ### The report that a NEEDLE UP waits for (R39) -/

theorem endNeedleUp_keeps (r : StoppedReport) (s : State) : (endNeedleUp r s).needle = s.needle ∧ (endNeedleUp r s).frame = s.frame ∧
    (endNeedleUp r s).thread = s.thread ∧ (endNeedleUp r s).func = s.func := by
  unfold endNeedleUp
  split
  · split
    · simp
    · exact ⟨rfl, rfl, rfl, rfl⟩
  · exact ⟨rfl, rfl, rfl, rfl⟩

/-- From e to t the shaft has come to rest or turns on, and at most a NEEDLE UP has ended. -/
structure State.Settles (e t : State) : Prop where
  ends : EndsWork { e with shaft := t.shaft } t
  needle : t.needle = e.needle
  frame : t.frame = e.frame
  thread : t.thread = e.thread
  test : t.func.test = e.func.test

/-- A state that the cause leaves LOCKED, and the NEEDLE UP in its slot (R39, R94). -/
theorem takeCause_locked {c : Cause} (hc : c.isEmergency = true) (i : Nat) {s : State}
    (hrun : ¬ (s.run.state = .running ∨ s.run.state = .stopping)) : (s.caused c i).Settles (takeCause c i s) ∧
    (¬ s.CauseRests → (takeCause c i s).run.slot = (s.caused c i).run.slot) ∧
    (∀ op, s.CauseRests → (s.caused c i).run.slot = some { op with aborted := true } → op.kind = .needleUp →
      (takeCause c i s).OpAborted op) := by
  by_cases h : s.CauseRests
  · obtain ⟨x, r, htake, -⟩ := takeCause_ends_locked i hc h hrun
    have hpulses := endsWork_cancelPulses { s.caused c i with shaft := x }
    have hends := hpulses.trans (endsWork_endNeedleUp (cancelPulses { s.caused c i with shaft := x }) r)
    obtain ⟨hneedle, hframe, hthread, hfunc⟩ := endNeedleUp_keeps r (cancelPulses { s.caused c i with shaft := x })
    have htest := congrArg FuncUnit.test hfunc
    rw [htake]
    have hshaft : (endNeedleUp r (cancelPulses { s.caused c i with shaft := x })).shaft = x := by rw [hends.eq]
    refine ⟨⟨by rw [hshaft]; exact hends, hneedle, hframe, hthread, htest⟩, fun h' => absurd h h', fun op _ hslot hkind => ?_⟩
    rw [endNeedleUp_of_needleUp (by exact hslot) (by exact hkind)]
    have hended := opAborted_endOperation (s := cancelPulses { s.caused c i with shaft := x }) hslot (needleUpDetail r false)
    exact ⟨hended.slot, hended.pending, hended.detail⟩
  · rw [takeCause_turns_on i hc h]
    exact ⟨⟨.refl _, rfl, rfl, rfl, rfl⟩, fun _ => rfl, fun _ h' => absurd h' h⟩

/-- The run's state, phase and report, the store and the heads are no part of an operation's end. -/
theorem EndsWork.keeps {s t : State} (h : EndsWork s t) : t.run.state = s.run.state ∧ t.run.phase = s.run.phase ∧
    t.run.report = s.run.report ∧ t.store = s.store ∧ t.table = s.table := by
  rw [h.eq]
  exact ⟨rfl, rfl, rfl, rfl, rfl⟩

/-- What holds of the operation that has ended holds after the report. -/
theorem State.Settles.opAborted {e t : State} (h : e.Settles t) {op : Op} (ho : e.OpAborted op) : t.OpAborted op := by
  obtain ⟨hslot, hnotices⟩ := h.ends.idle ho.slot
  exact ⟨hslot, by rw [hnotices]; exact ho.pending, by rw [hnotices]; exact ho.detail⟩

theorem State.Settles.leavesOp {b e t : State} (h : e.Settles t) {op : Op} (hl : b.LeavesOp op e) : b.LeavesOp op t :=
  ⟨by rw [h.needle]; exact hl.change, by rw [h.frame]; exact hl.home, by rw [h.thread]; exact hl.sensorTest,
    by rw [h.test]; exact hl.channelTest, by rw [h.frame, h.needle]; exact hl.stepwise⟩

end Sys2Proof.Machine
end

section
/-! PROOFS. TheShaftComesToRest, settled: stopped detection, the ends of a stop, the EMERGENCY causes and the colour delay (R31 to R104). -/

namespace Sys2Proof.Machine

/-! ### What brings the cause (R35, R91) -/

/-- The inputs at these levels, and the quiet time of a stall brought up to STALL_TIME (R35). -/
def State.met (cause : Cause) (pins : Pins) (s : State) : State :=
  { s with
    pins := pins
    shaft := { s.shaft with quiet := if cause = .stall then max s.shaft.quiet (s.nat .stallTime) else s.shaft.quiet } }

theorem exec_meetsEmergency {s : State} (hs : s.awake) {c : Instr} {cause : Cause} {pins : Pins} (h : s.MeetsEmergency c cause pins) :
    cause.isEmergency = true ∧ exec c s = .next (settle (takeCause cause s.store.cursor (s.met cause pins))) := by
  rcases h with ⟨rfl, rfl, rfl⟩ | ⟨rfl, rfl, rfl, hstall⟩ | ⟨ready, fault, rfl, rfl, rfl, hdrive⟩
  · exact ⟨rfl, congrArg _ (event_of_awake hs)⟩
  · have hruns : stallEvent s = takeCause .stall s.store.cursor (s.met .stall s.pins) := if_pos (Option.isSome_iff_ne_none.mpr hstall)
    refine ⟨rfl, ?_⟩
    rw [← hruns]
    exact congrArg _ (event_of_awake hs)
  · have hruns : driveEvent s.pins.driveReady s.pins.driveFault (setDrive ready fault s) =
        takeCause .drive s.store.cursor (s.met .drive { s.pins with driveReady := ready, driveFault := fault }) := by
      refine if_pos ?_
      rcases hdrive with ⟨rfl, hwas⟩ | ⟨rfl, hwas, hline⟩
      · simp [setDrive, hwas]
      · simp [setDrive, hwas, hline]
    refine ⟨rfl, ?_⟩
    rw [← hruns]
    exact congrArg _ (event_of_awake hs)

/-- A change of the drive inputs that brings no fault changes them alone (R35). -/
theorem driveEvent_of_none {s : State} {ready fault : Bool} (hfault : fault = true → s.pins.driveFault = true)
    (hready : ready = false → s.pins.driveReady = false ∨ s.shaft.line = 0) :
    driveEvent s.pins.driveReady s.pins.driveFault (setDrive ready fault s) = setDrive ready fault s := by
  refine if_neg fun h => ?_
  change ((fault && !s.pins.driveFault) || (s.pins.driveReady && !ready && decide (0 < s.shaft.line))) = true at h
  simp only [Bool.or_eq_true, Bool.and_eq_true, Bool.not_eq_true', decide_eq_true_eq] at h
  rcases h with ⟨hnow, hwas⟩ | ⟨⟨hwas, hnow⟩, hline⟩
  · rw [hfault hnow] at hwas
    cases hwas
  · rcases hready hnow with hnever | hzero
    · rw [hnever] at hwas
      cases hwas
    · exact absurd hzero hline.ne'

/-- The end of a run by the cause (R88, R93, R94, R96). -/
theorem takeCause_leaves_run {c : Cause} (hc : c.isEmergency = true) (i : Nat) {s : State}
    (hrun : s.run.state = .running ∨ s.run.state = .stopping) : let t := takeCause c i s
    (s.run.state = .running → t.run.report.secondary = s.run.report.secondary ∧ t.run.report.primary = some ⟨c, i, s.clock⟩) ∧
    (s.run.state = .stopping → t.run.report.primary = s.run.report.primary ∧
      t.run.report.secondary = s.run.report.noted ⟨c, i, s.clock⟩) ∧
    (¬ s.CauseRests → t.run.state = .stopping ∧ t.run.phase = some .braking) ∧
    (s.CauseRests → t.run.state = .locked ∧ t.run.phase = none ∧ t.run.report.kind = some .emergency ∧ t.run.report.angle = s.angle ∧
      t.run.report.verdict = some (s.verdictAt s.angle) ∧ t.run.report.incomplete = s.run.outstanding.map Turn.index ∧
      t.notices.sources[srcStop].pending = true) := by
  intro t
  by_cases h : s.CauseRests
  · obtain ⟨x, r, z, ⟨hstills, -, hout, hrecords⟩, htake, -, -, -, -, hangle, hverdict⟩ := takeCause_ends_run i hc h hrun
    obtain ⟨-, hreports⟩ := hstills.endStop hrecords.state r
    have ht : t = endStop r z := htake
    rw [ht]
    revert hreports
    generalize endStop r z = u
    intro hreports
    have hpending := hreports.pending
    rw [hreports.run_eq]
    refine ⟨fun h' => (hrecords.running h').symm, hrecords.stopping, fun h' => absurd h h',
      fun _ => ⟨rfl, rfl, hstills.kind, hangle, ?_, ?_, hpending⟩⟩
    · exact congrArg some hverdict
    · exact congrArg (Option.map Turn.index) hout
  · obtain ⟨hrecords, hphase, -⟩ := caused_run i hrun (c := c)
    have ht : t = { s.caused c i with shaft := s.shaft.braked } := takeCause_turns_on i hc h
    rw [ht]
    exact ⟨fun h' => (hrecords.running h').symm, hrecords.stopping, fun _ => ⟨hrecords.state, hphase⟩, fun h' => absurd h' h⟩

/-- A state that is LOCKED at once by the cause, and the operation in its slot (R39, R94, R103). -/
theorem takeCause_leaves_locked {c : Cause} (hc : c.isEmergency = true) (i : Nat) {s : State}
    (hrun : ¬ (s.run.state = .running ∨ s.run.state = .stopping)) (hwork : s.run.work = none) : let t := takeCause c i s
    t.run.state = .locked ∧ t.run.phase = s.run.phase ∧ t.store = s.store ∧ t.table = { s.table with engage := 0 } ∧
    (s.run.state = .idle ∨ s.run.state = .ready →
      t.run.report.primary = some ⟨c, i, s.clock⟩ ∧ t.run.report.secondary = []) ∧
    (s.run.state = .halted ∨ s.run.state = .locked →
      t.run.report.primary = s.run.report.primary ∧ t.run.report.secondary = s.run.report.noted ⟨c, i, s.clock⟩) ∧
    (s.run.state ≠ .locked → t.notices.sources[srcState].pending = true ∧
      t.notices.sources[srcState].detail = stateDetail s.run.state .locked s.store.cursor none) ∧
    (s.run.slot = none → t.run.slot = none ∧ t.notices.sources[srcOpDone] = s.notices.sources[srcOpDone]) ∧
    (∀ op : Op, s.run.slot = some op → (∀ e, s.needle.change = some e → e.purpose ≠ .start) →
      (op.kind = .needleSelect ∨ op.kind = .colourChange → s.needle.change ≠ none) →
      (op.kind ≠ .needleUp ∨ s.CauseRests → t.OpAborted op) ∧
      (op.kind = .needleUp → ¬ s.CauseRests → t.run.slot = some { op with aborted := true }) ∧
      s.LeavesOp op t) := by
  intro t
  obtain ⟨hsettles, hslot, hup⟩ := takeCause_locked hc i hrun
  obtain ⟨-, hlocked, hphase⟩ := caused_locked i hrun (c := c)
  obtain ⟨hstore, htable, hidle, hhalted, hraised, hempty⟩ := caused_keeps (c := c) (i := i) hrun hwork
  obtain ⟨hstate', hphase', hreport', hstore', htable'⟩ := hsettles.ends.keeps
  refine ⟨hstate'.trans hlocked, hphase'.trans hphase, hstore'.trans hstore, htable'.trans htable, ?_, ?_, fun hstate => ?_, fun hnone => ?_,
    fun op hop hstart hchange => ?_⟩
  · rw [show t.run.report = _ from hreport']
    exact hidle
  · rw [show t.run.report = _ from hreport']
    exact hhalted
  · rw [show t.notices.sources[srcState] = _ from hsettles.ends.notices srcState (by decide)]
    exact hraised hstate
  · obtain ⟨hnone', hdone⟩ := hempty hnone
    obtain ⟨hslot', hnotices⟩ := hsettles.ends.idle hnone'
    exact ⟨hslot', (congrArg (fun n : NoticeUnit => n.sources[srcOpDone]) hnotices).trans hdone⟩
  · by_cases hkind : op.kind = .needleUp
    · have hmarked := caused_needleUp (c := c) (i := i) hrun hwork hop hkind
      refine ⟨fun h => hup op (h.resolve_left (not_not.mpr hkind)) hmarked hkind, fun _ h => (hslot h).trans hmarked, ?_⟩
      exact ⟨by simp [hkind], by simp [hkind], by simp [hkind], by simp [hkind], by simp [hkind]⟩
    · obtain ⟨hended, hleaves⟩ := caused_aborts (c := c) (i := i) hrun hwork hop hkind hstart hchange
      exact ⟨fun _ => hsettles.opAborted hended, fun h => absurd h hkind, hsettles.leavesOp hleaves⟩

/-- The colour delay timer expires, and no start is possible yet (R101). -/
theorem colourDelayExpires_of_running {s : State} {ms : Nat} (htimer : s.run.colourTimer = .running ms)
    (hwait : s.run.resume ≠ some .colour ∨ s.run.slot ≠ none) :
    colourDelayExpires s = { s with run := { s.run with colourTimer := .expired } } := by
  unfold colourDelayExpires
  rw [htimer]
  refine if_neg ?_
  rintro ⟨hcolour, hempty⟩
  exact hwait.elim (fun h => h hcolour) (fun h => h (Option.isNone_iff_eq_none.mp hempty))

theorem colourDelayExpires_of_other {s : State} (htimer : ∀ ms, s.run.colourTimer ≠ .running ms) : colourDelayExpires s = s := by
  unfold colourDelayExpires
  split
  · next ms hms => exact absurd hms (htimer ms)
  · rfl

/-- Settles O58, clause by clause, from what stopped detection, the end of a stop and an EMERGENCY cause leave. -/
theorem theShaftComesToRest : Obligations.TheShaftComesToRest := by
  unfold Obligations.TheShaftComesToRest
  intro s hs rested
  refine ⟨fun hmotion hline hstate hslot => stoppedDetection_idle hs hmotion hline hstate hslot,
    fun op hmotion hline hstate hslot hkind => stoppedDetection_needleUp hs hmotion hline hstate hslot hkind,
    fun h => ?_, fun hmotion hline hstate hphase h => ?_, fun hmotion hline hstate hphase hkind hprimary => ?_,
    fun c cause pins hmeets => ?_, fun hstall => ?_, ?_, fun ready fault hfault hready => ?_, fun ms htimer hwait => ?_, fun htimer => ?_⟩
  · rw [exec_stoppedDetection hs, stoppedEvent_of_resting h]
  · obtain ⟨u, hreports, hexec⟩ := stoppedDetection_ends hs hmotion hline hstate hphase h
    obtain ⟨hended, hslot, hsecondary, hnone, hout, hprimary, hkind, hangle, hverdict, hincomplete, hshaft, hcursor, -, -⟩ := hreports.leaves
    refine ⟨_, hexec, hshaft, hended, rfl, hslot, hsecondary, ?_, hnone, hout, hprimary, hkind, hangle, hverdict, hincomplete,
      hreports.rests.demand, hreports.rests.stopPoint, hreports.rests.engage, fun i => ⟨hreports.rests.gatherings i, hreports.rests.heads i⟩,
      hreports.pending, hcursor⟩
    exact hreports.notices srcColour (by decide) (by decide)
  · obtain ⟨y, hexec, hmet⟩ := stoppedDetection_colour hs hmotion hline hstate hphase hkind hprimary
    obtain ⟨hhalted, hnone, hsame, hraised⟩ := colourStop_common y
    obtain ⟨-, -, hshaft, -⟩ := machineSide_eq_iff.mp (machineSide_colourStop y)
    have hcursor := congrArg (fun x : LowSide => x.store.cursor) (lowSide_colourStop y)
    refine ⟨_, hexec, hshaft.trans hmet.shaft, hhalted.trans hmet.state, hnone.trans hmet.phase, hsame.trans hmet.primary, hraised,
      ⟨hmet.unplanned, fun hplan hslot => ?_, fun n hplan hslot => ?_⟩, hcursor.trans hmet.cursor⟩
    · obtain ⟨n, hn⟩ := Option.ne_none_iff_exists'.mp hplan
      exact hmet.full hn hslot
    · rw [hplan]
      refine ⟨hmet.down hplan hslot, fun hflag hsettled => ?_, fun hflag hsettled => ?_⟩
      · obtain ⟨hempty, hsecondary, hneedle, hwait, htimer, hdone⟩ := hmet.settled hplan hslot hflag hsettled
        exact ⟨hempty, hsecondary, hneedle, hwait, fun hwaits => htimer (if_pos hwaits), hdone⟩
      · obtain ⟨hsecondary, hbegun, hwait, hneedle⟩ := hmet.begins hplan hslot hflag hsettled
        exact ⟨hsecondary, hbegun, hwait, hneedle⟩
  · obtain ⟨hc, hexec⟩ := exec_meetsEmergency hs hmeets
    let w := s.met cause pins
    obtain ⟨hstills, hline, hbrake, hstall, hrests, hturns⟩ := takeCause_leaves s.store.cursor (s := w) hc
    refine ⟨_, hexec, hstills.pins, fun _ => ⟨hstills.kind, hstills.inject, hstills.resume, hstills.colourTimer, hstills.work, hstills.armed,
      hstills.repair, hstills.demand, hline, hbrake, hstall, hrests, hturns, hstills.move, hstills.stepX, hstills.stepY, hstills.ref,
      hstills.channels, hstills.engage, hstills.cursor, hstills.params⟩, fun hrun _ => takeCause_leaves_run hc s.store.cursor (s := w) hrun,
      fun hnot hnot' hwork => ?_⟩
    obtain ⟨hlocked, hphase, hstore, htable, hidle, hhalted, hraised, hempty, hops⟩ :=
      takeCause_leaves_locked hc s.store.cursor (s := w) (not_or.mpr ⟨hnot, hnot'⟩) hwork
    refine ⟨hlocked, hphase, hstore, htable, hidle, hhalted, hraised, hempty, fun op hop hstart hchange => ?_⟩
    obtain ⟨hended, hmarked, hleaves⟩ := hops op hop hstart hchange
    exact ⟨fun h => ⟨(hended h).slot, (hended h).pending, (hended h).detail⟩, hmarked, hleaves.change, hleaves.home, hleaves.sensorTest,
      hleaves.channelTest, hleaves.stepwise⟩
  · have hnone : stallEvent s = s := if_neg (by rw [hstall]; decide)
    exact congrArg _ ((event_of_awake hs).trans (by rw [hnone]))
  · exact congrArg _ (event_of_awake hs)
  · have hnone := driveEvent_of_none hfault hready
    exact congrArg _ ((event_of_awake hs).trans (by rw [hnone]; rfl))
  · exact congrArg _ ((event_of_awake hs).trans (by rw [colourDelayExpires_of_running htimer hwait]))
  · exact congrArg _ ((event_of_awake hs).trans (by rw [colourDelayExpires_of_other htimer]))

end Sys2Proof.Machine
end

section
/-! PROOFS. What the laws of the run and of the parameters speak of, and the operations that leave all of it as it is (R51, R57, R83,
R96, R163, R164). -/

namespace Sys2Proof.Machine

/-- What the laws of the run and of the parameters speak of: the parameters, the run state, the phase, the outstanding turn, the
planner's demand, the needle-engage outputs and the sew set. -/
structure RunSide where
  params : Vector Int 50
  state : RunState
  phase : Option Phase
  outstanding : Option Turn
  demand : Nat
  engage : HeadSet
  sewSet : HeadSet

def State.runSide (s : State) : RunSide :=
  ⟨s.params, s.run.state, s.run.phase, s.run.outstanding, s.planner.demand, s.table.engage, s.table.sewSet⟩

section
variable {s : State}

/-! ### Changes of one block

The parentheses of `(rfl)` keep `simp` from taking these lemmas as definitional: the conditional lemmas of this layer are then applied to
what they leave. -/

@[simp] theorem runSide_modStore (f : Store → Store) : (s.modStore f).runSide = s.runSide := (rfl)
@[simp] theorem runSide_modPins (f : Pins → Pins) : (s.modPins f).runSide = s.runSide := (rfl)
@[simp] theorem runSide_modShaft (f : Shaft → Shaft) : (s.modShaft f).runSide = s.runSide := (rfl)
@[simp] theorem runSide_modFrame (f : Frame → Frame) : (s.modFrame f).runSide = s.runSide := (rfl)
@[simp] theorem runSide_modFunc (f : FuncUnit → FuncUnit) : (s.modFunc f).runSide = s.runSide := (rfl)
@[simp] theorem runSide_modNeedle (f : NeedleBar → NeedleBar) : (s.modNeedle f).runSide = s.runSide := (rfl)
@[simp] theorem runSide_modThread (f : ThreadUnit → ThreadUnit) : (s.modThread f).runSide = s.runSide := (rfl)
@[simp] theorem runSide_modNotices (f : NoticeUnit → NoticeUnit) : (s.modNotices f).runSide = s.runSide := (rfl)
@[simp] theorem runSide_modLink (f : Link → Link) : (s.modLink f).runSide = s.runSide := (rfl)
@[simp] theorem runSide_modHead (h : Head) (f : HeadEntry → HeadEntry) : (s.modHead h f).runSide = s.runSide := (rfl)
@[simp] theorem runSide_modHeads (f : Head → HeadEntry → HeadEntry) : (s.modHeads f).runSide = s.runSide := (rfl)
@[simp] theorem runSide_modMonitor (h : Head) (f : Monitor → Monitor) : (s.modMonitor h f).runSide = s.runSide := (rfl)
@[simp] theorem runSide_modMonitors (f : Head → Monitor → Monitor) : (s.modMonitors f).runSide = s.runSide := (rfl)
@[simp] theorem runSide_modChannel (c : Chan) (f : Channel → Channel) : (s.modChannel c f).runSide = s.runSide := (rfl)
@[simp] theorem runSide_modChannels (f : Chan → Channel → Channel) : (s.modChannels f).runSide = s.runSide := (rfl)

/-- A change of the Run Controller that leaves the run state, the phase and the outstanding turn. -/
@[simp] theorem runSide_modRun {f : Run → Run} (hstate : (f s.run).state = s.run.state) (hphase : (f s.run).phase = s.run.phase)
    (hturn : (f s.run).outstanding = s.run.outstanding) : (s.modRun f).runSide = s.runSide := by
  simp [State.runSide, hstate, hphase, hturn]

/-- A change of the planner that leaves the demand. -/
@[simp] theorem runSide_modPlanner {f : Planner → Planner} (hdemand : (f s.planner).demand = s.planner.demand) :
    (s.modPlanner f).runSide = s.runSide := by
  simp [State.runSide, hdemand]

@[simp] theorem runSide_ite (c : Prop) {_ : Decidable c} (t : State) :
    (if c then s else t).runSide = if c then s.runSide else t.runSide := apply_ite ..

@[simp] theorem runSide_rebuild : (rebuild s).runSide = s.runSide := (rfl)
@[simp] theorem runSide_raiseNotice (src : Source) (i : Nat) (d : List Byte) : (raiseNotice src i d s).runSide = s.runSide := (rfl)
@[simp] theorem runSide_endOperation (r : OpResult) (d : List Byte) : (endOperation r d s).runSide = s.runSide := by
  unfold endOperation; split <;> rfl
@[simp] theorem runSide_fillSlot (k : OpKind) (w : Starter) (g : Option Goal) : (fillSlot k w g s).runSide = s.runSide := (rfl)
@[simp] theorem runSide_clearResume : (clearResume s).runSide = s.runSide := (rfl)
@[simp] theorem runSide_discardInject : (discardInject s).runSide = s.runSide := by rw [discardInject_eq]; rfl
@[simp] theorem runSide_setTension (l : List (BitVec 10)) : (setTension l s).runSide = s.runSide := (rfl)
@[simp] theorem runSide_setSwitches (l : Option (Bool × Bool)) : (setSwitches l s).runSide = s.runSide := by
  unfold setSwitches; split <;> rfl
@[simp] theorem runSide_setPosition (v : BitVec 4) : (setPosition v s).runSide = s.runSide := (rfl)
@[simp] theorem runSide_setDrive (ready fault : Bool) : (setDrive ready fault s).runSide = s.runSide := (rfl)
@[simp] theorem runSide_setEstop (b : Bool) : (setEstop b s).runSide = s.runSide := (rfl)
@[simp] theorem runSide_tick : (tick s).runSide = s.runSide := (rfl)

/-! ### The planner, the functions and the channels (chapters 3 and 6) -/

@[simp] theorem runSide_enterAll (l : List Code) : (enterAll l s).runSide = s.runSide := by rw [enterAll_eq]; rfl
@[simp] theorem runSide_requestStopPoint (c : Cause) : (requestStopPoint c s).runSide = s.runSide := by
  rw [requestStopPoint, runSide_rebuild]
  exact runSide_modPlanner ((apply_ite Planner.demand _ _ _).trans (ite_self _))
@[simp] theorem runSide_clearStopPoint : (clearStopPoint s).runSide = s.runSide := (rfl)
@[simp] theorem runSide_rebuildAtLoad : (rebuildAtLoad s).runSide = s.runSide := by
  refine runSide_modPlanner ?_
  split <;> rfl
@[simp] theorem runSide_restartHoldoff (hs : HeadSet) (f : Nat) : (restartHoldoff hs f s).runSide = s.runSide := (rfl)
@[simp] theorem runSide_carryItems (angle : Nat) (owed : Owed) (hs : HeadSet) (common : Bool) (l : List Action) :
    (carryItems angle owed hs common l s).runSide = s.runSide := by
  induction l generalizing s with
  | nil => rfl
  | cons x l ih => simp [carryItems, ih]
@[simp] theorem runSide_carryOut (owed : Owed) (hs : HeadSet) (f : Nat) (c : Code) : (carryOut owed hs f c s).runSide = s.runSide := by
  simp [carryOut]
@[simp] theorem runSide_carryAll (owed : Owed) (hs : HeadSet) (f : Nat) (l : List Code) :
    (carryAll owed hs f l s).runSide = s.runSide := by
  induction l generalizing s with
  | nil => rfl
  | cons c l ih => simp [carryAll, ih]
@[simp] theorem runSide_carryTrim (owed : Owed) (hs : HeadSet) (f : Nat) (c : Cause) : (carryTrim owed hs f c s).runSide = s.runSide := by
  unfold carryTrim
  split
  · split <;> simp
  · rfl
@[simp] theorem runSide_cancelPulses : (cancelPulses s).runSide = s.runSide := (rfl)
@[simp] theorem runSide_idleChannels : (idleChannels s).runSide = s.runSide := (rfl)

/-! ### The store and its low mark (chapter 1) -/

@[simp] theorem runSide_runRetention : (runRetention s).runSide = s.runSide := (rfl)
@[simp] theorem runSide_rearmLowMark : (rearmLowMark s).runSide = s.runSide := by simp [rearmLowMark]
@[simp] theorem runSide_lowMarkTest : (lowMarkTest s).runSide = s.runSide := by rw [lowMarkTest_eq]; rfl
@[simp] theorem runSide_afterStep (back : Bool) : (afterStep back s).runSide = s.runSide := by cases back <;> simp [afterStep]
@[simp] theorem runSide_intake (data : List Byte) (n : Nat) : (intake data n s).1.runSide = s.runSide := by
  induction data, n, s using intake.induct with
  | case1 k c1 c2 rest n s st hc => simp [intake, hc]
  | case2 k c1 c2 rest n s hc hr => rw [hr] at hc; simp [intake, hc, hr]
  | case3 k c1 c2 rest n s hc r hr ih => rw [hr] at hc; simpa [intake, hc, hr] using ih
  | case4 data n s hd => simp [intake]
@[simp] theorem runSide_dropDesign (st : Store) : (dropDesign st s).runSide = s.runSide := (rfl)

/-! ### The needle bar and the frame (chapters 4 and 7) -/

@[simp] theorem runSide_beginChange (p : ChangePurpose) (n : Nat) (w : Starter) : (beginChange p n w s).1.runSide = s.runSide := by
  unfold beginChange; split <;> rfl
@[simp] theorem runSide_releaseChange : (releaseChange s).runSide = s.runSide := (rfl)
@[simp] theorem runSide_movePosition (v : BitVec 4) : (movePosition v s).runSide = s.runSide := by simp [movePosition]
@[simp] theorem runSide_startSettle : (startSettle s).runSide = s.runSide := (rfl)
@[simp] theorem runSide_takeSettled : (takeSettled s).runSide = s.runSide := (rfl)
@[simp] theorem runSide_lowerNeedles (n : Nat) : (lowerNeedles n s).runSide = s.runSide := (rfl)
@[simp] theorem runSide_watchAfterCheck : (watchAfterCheck s).runSide = s.runSide := by rw [watchAfterCheck_eq]; rfl
@[simp] theorem runSide_arriveAt (c : Pt) (m : Move) : (arriveAt c m s).runSide = s.runSide := (rfl)
@[simp] theorem runSide_turnMoveEnds : (turnMoveEnds s).runSide = s.runSide := by rw [turnMoveEnds_eq]; rfl
@[simp] theorem runSide_beginChunked (p : Purpose) (target : Pt) (turn : Option Nat) :
    (beginChunked p target turn s).1.runSide = s.runSide := by
  rw [beginChunked_eq]; split <;> simp
@[simp] theorem runSide_beginTurnMove (t : Nat) (j : Bool) (target : Pt) : (beginTurnMove t j target s).runSide = s.runSide := by
  rw [beginTurnMove_eq]; rfl
@[simp] theorem runSide_offsetToFrame : (offsetToFrame s).runSide = s.runSide := (rfl)
@[simp] theorem runSide_markAbort (w : AbortBy) : (markAbort w s).runSide = s.runSide := (rfl)
@[simp] theorem runSide_haltFrame : (haltFrame s).runSide = s.runSide := (rfl)
@[simp] theorem runSide_emitStep (ax : Axis) : (emitStep ax s).runSide = s.runSide := (rfl)
@[simp] theorem runSide_homingMove (h : Homing) : (homingMove h s).runSide = s.runSide := by simp [homingMove]
@[simp] theorem runSide_beginAxis (h : Homing) (ax : Axis) : (beginAxis h ax s).runSide = s.runSide := by simp [beginAxis]
@[simp] theorem runSide_applyReference : (applyReference s).runSide = s.runSide := (rfl)

/-! ### The threads and the heads (chapters 8 and 9) -/

@[simp] theorem runSide_beginSensorTest (hs : HeadSet) : (beginSensorTest hs s).runSide = s.runSide := (rfl)
@[simp] theorem runSide_releaseSensorTest : (releaseSensorTest s).runSide = s.runSide := (rfl)
@[simp] theorem runSide_giveVerdicts (x : SensorTest) : (giveVerdicts x s).runSide = s.runSide := (rfl)
@[simp] theorem runSide_leaveSelection (h : Head) : (leaveSelection h s).runSide = s.runSide := (rfl)
@[simp] theorem runSide_clearFault (h : Head) : (clearFault h s).runSide = s.runSide := (rfl)
@[simp] theorem runSide_raiseHeadFault (h : Head) (f : FaultRecord) (o : FaultOutcome) (g : Option Nat) :
    (raiseHeadFault h f o g s).runSide = s.runSide := (rfl)
@[simp] theorem runSide_latchStartFaults (l : List (Head × FaultRecord)) : (latchStartFaults l s).runSide = s.runSide := by
  induction l generalizing s with
  | nil => rfl
  | cons x l ih => simp [latchStartFaults, ih]
@[simp] theorem runSide_faultHeldHeads : (faultHeldHeads s).runSide = s.runSide := (rfl)
theorem runSide_of_openHeadGap {h : Head} {i : Nat} {t : State} (ho : openHeadGap h i s = some t) : t.runSide = s.runSide := by
  simp only [openHeadGap, Option.map_eq_some_iff] at ho
  obtain ⟨gaps, -, rfl⟩ := ho
  rfl
@[simp] theorem runSide_openHeadGap_getD (h : Head) (i : Nat) : ((openHeadGap h i s).getD s).runSide = s.runSide := by
  cases ho : openHeadGap h i s with
  | none => rfl
  | some t => exact runSide_of_openHeadGap ho
@[simp] theorem runSide_openAtStart (l : List Head) : (openAtStart l s).runSide = s.runSide := by
  induction l generalizing s with
  | nil => rfl
  | cons h l ih => simp [openAtStart, ih]
@[simp] theorem runSide_endRepair : (endRepair s).1.runSide = s.runSide := by
  obtain ⟨heads, h⟩ := endRepair_frame s
  rw [h]; rfl
@[simp] theorem runSide_judgeRepair (l : List (Nat × Rec)) : (judgeRepair l s).1.runSide = s.runSide := by
  unfold judgeRepair; split <;> simp
@[simp] theorem runSide_closeHeadGap (h : Head) (c : Nat) : (closeHeadGap h c s).runSide = s.runSide := by
  simp [closeHeadGap, retainIf]
@[simp] theorem runSide_closePending (c : Nat) (h : Head) : (closePending c h s).runSide = s.runSide := by simp [closePending]
@[simp] theorem runSide_closeAllPending (c : Nat) (l : List Head) : (closeAllPending c l s).runSide = s.runSide := by
  induction l generalizing s with
  | nil => rfl
  | cons h l ih => simp [closeAllPending, ih]
@[simp] theorem runSide_advanceHead (t : Nat) (h : Head) : (advanceHead t h s).runSide = s.runSide := by simp [advanceHead]
@[simp] theorem runSide_enlist (l : List Head) : (enlist l s).runSide = s.runSide := by
  induction l generalizing s with
  | nil => rfl
  | cons h l ih => simp [enlist, ih]

/-! ### The shaft's line and the causes' records (chapters 2 and 5) -/

@[simp] theorem runSide_restShaft : (restShaft s).runSide = s.runSide := (rfl)
@[simp] theorem runSide_dropLine : (dropLine s).runSide = s.runSide := (rfl)
@[simp] theorem runSide_assertBrake : (assertBrake s).runSide = s.runSide := (rfl)
@[simp] theorem runSide_placeLine (v : Nat) : (placeLine v s).runSide = s.runSide := by rw [placeLine_eq]; rfl
@[simp] theorem runSide_noteCount : (noteCount s).runSide = s.runSide := (rfl)
@[simp] theorem runSide_endRevolution (us : Nat) : (endRevolution us s).runSide = s.runSide := (rfl)
@[simp] theorem runSide_indexReverse : (indexReverse s).runSide = s.runSide := (rfl)
@[simp] theorem runSide_restMark : (restMark s).runSide = s.runSide := by simp [restMark]
@[simp] theorem runSide_brakeMark : (brakeMark s).runSide = s.runSide := by simp [brakeMark]
@[simp] theorem runSide_appendCause (c : Cause) (i : Nat) : (appendCause c i s).runSide = s.runSide := by simp [appendCause]
@[simp] theorem runSide_causeInHalted (c : Cause) (i : Nat) : (causeInHalted c i s).runSide = s.runSide := by simp [causeInHalted]
@[simp] theorem runSide_convertKind (c : Cause) : (convertKind c s).runSide = s.runSide := by simp [convertKind]
@[simp] theorem runSide_recordAlone (c : Cause) (i : Nat) : (recordAlone c i s).runSide = s.runSide := by simp [recordAlone]
@[simp] theorem runSide_startColourTimer : (startColourTimer s).runSide = s.runSide := by simp [startColourTimer]

/-! ### Ends of operations (chapter 5) -/

@[simp] theorem runSide_endHome (r : OpResult) : (endHome r s).runSide = s.runSide := by simp [endHome]
@[simp] theorem runSide_endOffsetMove (r : OpResult) : (endOffsetMove r s).runSide = s.runSide := by simp [endOffsetMove]
@[simp] theorem runSide_endStepwise (r : OpResult) (w : Option DetailWord) : (endStepwise r w s).runSide = s.runSide := by
  simp [endStepwise]
@[simp] theorem runSide_abortSensorTest : (abortSensorTest s).runSide = s.runSide := by
  unfold abortSensorTest; split <;> simp
@[simp] theorem runSide_finishSensorTest (x : SensorTest) : (finishSensorTest x s).runSide = s.runSide := by simp [finishSensorTest]
@[simp] theorem runSide_finishChannelTest (r : OpResult) : (finishChannelTest r s).runSide = s.runSide := by
  simp only [finishChannelTest, endChannelTest]
  split <;> simp [*]
@[simp] theorem runSide_endColourChange (r : OpResult) (n ms : Nat) (w : Option DetailWord) :
    (endColourChange r n ms w s).runSide = s.runSide := by
  cases r <;> simp [endColourChange]
@[simp] theorem runSide_endChange (r : OpResult) (w : Option DetailWord) : (endChange r w s).runSide = s.runSide := by
  unfold endChange
  split
  · rfl
  · next c _ => cases c.purpose <;> simp
@[simp] theorem runSide_abortOperation (w : DetailWord) : (abortOperation w s).runSide = s.runSide := by
  unfold abortOperation
  split
  · rfl
  · next op _ => cases op.kind <;> simp
@[simp] theorem runSide_endNeedleUp (r : StoppedReport) : (endNeedleUp r s).runSide = s.runSide := by
  unfold endNeedleUp; split <;> simp
@[simp] theorem runSide_ceaseWork : (ceaseWork s).runSide = s.runSide := by
  unfold ceaseWork
  rw [runSide_modRun rfl rfl rfl]
  split <;> simp
@[simp] theorem runSide_colourStop : (colourStop s).runSide = s.runSide := by
  simp only [colourStop]; split <;> simp
@[simp] theorem runSide_afterHalt : (afterHalt s).runSide = s.runSide := by simp [afterHalt]
@[simp] theorem runSide_landingCheck : (landingCheck s).runSide = s.runSide := by
  unfold landingCheck; split <;> simp
@[simp] theorem runSide_homeFound (h : Homing) : (homeFound h s).runSide = s.runSide := by simp [homeFound]
@[simp] theorem runSide_afterHomingMove (h : Homing) : (afterHomingMove h s).runSide = s.runSide := by
  unfold afterHomingMove
  split
  · simp
  · simp
  · split <;> simp
  · simp
@[simp] theorem runSide_homingStepEnds : (homingStepEnds s).runSide = s.runSide := by
  unfold homingStepEnds; split <;> simp
@[simp] theorem runSide_moveOffset (p : Purpose) (target : Pt) : (moveOffset p target s).runSide = s.runSide := by
  simp [moveOffset]
@[simp] theorem runSide_setGoal (g : Goal) : (setGoal g s).runSide = s.runSide := (rfl)
theorem runSide_of_goalStep {g g' : Goal} {t : State} {turn : Bool} (ho : goalStep g s = some (t, g', turn)) :
    t.runSide = s.runSide := by
  unfold goalStep at ho
  split at ho <;> dsimp only at ho <;> split at ho <;> cases ho <;> simp [storeBack, storeForward]

end

end Sys2Proof.Machine
end

section
/-! PROOFS. Every step keeps the law of the run and the law of the parameters (R51, R57, R83, R96, R163, R164, R195, R205, R206): the
relation that says so, and the few changes that touch what the laws speak of. -/

namespace Sys2Proof.Machine

/-! ### What the laws say of a side -/

/-- A state with this side, and the rest of it as after reset. -/
def RunSide.bare (x : RunSide) : State :=
  { State.reset with
    params := x.params
    run := { Run.reset with state := x.state, phase := x.phase, outstanding := x.outstanding }
    planner := { Planner.reset with demand := x.demand }
    table := { HeadTable.reset with engage := x.engage, sewSet := x.sewSet } }

/-- What the laws of the run and of the parameters said of state a, they say of a state with side x. -/
def State.Upholds (a : State) (x : RunSide) : Prop := (a.ParamLaw → x.bare.ParamLaw) ∧ (a.RunLaw → x.bare.RunLaw)

/-- The two laws read the side of a state and nothing else of it. -/
theorem upholds_iff {a s : State} : a.Upholds s.runSide ↔ (a.ParamLaw → s.ParamLaw) ∧ (a.RunLaw → s.RunLaw) := Iff.rfl

/-- The same, and by the law of the run the state is RUNNING or STOPPING. -/
def State.UpholdsInRun (a s : State) : Prop := a.Upholds s.runSide ∧ (a.RunLaw → s.inRun = true)

variable {a s t : State}

theorem State.Upholds.refl (s : State) : s.Upholds s.runSide := ⟨id, id⟩

/-- A law upheld by both ways of a choice. -/
@[simp] theorem upholds_ite (c : Prop) {_ : Decidable c} (x y : RunSide) :
    a.Upholds (if c then x else y) ↔ if c then a.Upholds x else a.Upholds y := by split <;> rfl

theorem inRun_iff : s.inRun = true ↔ s.run.state = .running ∨ s.run.state = .stopping := by simp [State.inRun]

theorem inRun_congr (h : t.runSide = s.runSide) : t.inRun = s.inRun := congrArg (fun x : RunSide => x.bare.inRun) h

/-- The parameters are read from the side. -/
theorem paramLaw_congr (h : t.params = s.params) : t.ParamLaw ↔ s.ParamLaw := by simp only [State.ParamLaw, State.par, h]

theorem State.Upholds.inRun (h : a.Upholds s.runSide) (hstate : s.run.state = .running ∨ s.run.state = .stopping) : a.UpholdsInRun s :=
  ⟨h, fun _ => inRun_iff.mpr hstate⟩

/-- A state with a phase is in a run, by the law (R83). -/
theorem State.Upholds.inRun_of_phase (h : a.Upholds s.runSide) {p : Phase} (hphase : s.run.phase = some p) : a.UpholdsInRun s := by
  refine ⟨h, fun ha => ?_⟩
  by_contra hr
  have hnone := ((upholds_iff.mp h).2 ha).1 (by simpa using hr)
  rw [hphase] at hnone
  cases hnone.1

theorem State.UpholdsInRun.congr (h : a.UpholdsInRun s) (ht : t.runSide = s.runSide) : a.UpholdsInRun t :=
  ⟨by rw [ht]; exact h.1, by rw [inRun_congr ht]; exact h.2⟩

/-- A change in a run: the demand stays at or below SPEED_SET, and the engaged heads in the sew set (R51, R163). -/
theorem State.UpholdsInRun.of_run (h : a.UpholdsInRun s) (hparams : t.params = s.params) (hstate : t.run.state = s.run.state)
    (hdemand : s.planner.demand ≤ s.nat .speedSet → t.planner.demand ≤ s.nat .speedSet)
    (hengage : s.table.engage &&& ~~~s.table.sewSet = 0 → t.table.engage &&& ~~~t.table.sewSet = 0) : a.UpholdsInRun t := by
  obtain ⟨h, hr⟩ := h
  rw [upholds_iff] at h
  have hrun (ha : a.RunLaw) : t.inRun = true := by rw [State.inRun, hstate]; exact hr ha
  refine ⟨upholds_iff.mpr ⟨fun ha => (paramLaw_congr hparams).mpr (h.1 ha), fun ha => ?_⟩, hrun⟩
  obtain ⟨-, hspeeds, hd, he⟩ := h.2 ha
  refine ⟨fun hno => by simp [hrun ha] at hno, ?_, ?_, hengage he⟩
  · simpa only [State.par, hparams] using hspeeds
  · simpa only [State.nat, State.par, hparams] using hdemand hd

/-- A state with no phase, no turn outstanding, no demand and no head engaged, whatever its run state (R51, R83, R96, R164). -/
theorem State.Upholds.of_rest (h : a.Upholds s.runSide) (hparams : t.params = s.params) (hphase : t.run.phase = none)
    (hturn : t.run.outstanding = none) (hdemand : t.planner.demand = 0) (hengage : t.table.engage = 0) : a.Upholds t.runSide := by
  rw [upholds_iff] at h ⊢
  refine ⟨fun ha => (paramLaw_congr hparams).mpr (h.1 ha), fun ha => ?_⟩
  obtain ⟨-, hspeeds, -, -⟩ := h.2 ha
  refine ⟨fun _ => ⟨hphase, hturn, hdemand, hengage⟩, ?_, by simp [hdemand], by simp [hengage]⟩
  simpa only [State.par, hparams] using hspeeds

/-- The same, said of its side. -/
theorem State.Upholds.of_side_at_rest (h : a.Upholds s.runSide) {r : RunState} {w : HeadSet}
    (hside : t.runSide = ⟨s.params, r, none, none, 0, 0, w⟩) : a.Upholds t.runSide :=
  h.of_rest (congrArg RunSide.params hside) (congrArg RunSide.phase hside) (congrArg RunSide.outstanding hside)
    (congrArg RunSide.demand hside) (congrArg RunSide.engage hside)

/-! ### Changes that the law allows at any time -/

theorem State.Upholds.zeroDemand (h : a.Upholds s.runSide) : a.Upholds (zeroDemand s).runSide := by
  rw [upholds_iff] at h ⊢
  refine ⟨h.1, fun ha => ?_⟩
  obtain ⟨hrest, hspeeds, -, he⟩ := h.2 ha
  refine ⟨fun hno => ?_, hspeeds, Nat.zero_le _, he⟩
  obtain ⟨hphase, hturn, -, hengage⟩ := hrest hno
  exact ⟨hphase, hturn, rfl, hengage⟩

/-- The needle-engage outputs go inactive (R164). -/
theorem State.Upholds.disengage (h : a.Upholds s.runSide) : a.Upholds (s.modTable fun t => { t with engage := 0 }).runSide := by
  rw [upholds_iff] at h ⊢
  refine ⟨h.1, fun ha => ?_⟩
  obtain ⟨hrest, hspeeds, hd, -⟩ := h.2 ha
  refine ⟨fun hno => ?_, hspeeds, hd, by simp⟩
  obtain ⟨hphase, hturn, hdemand, -⟩ := hrest hno
  exact ⟨hphase, hturn, hdemand, rfl⟩

/-- The outstanding turn is completed (R89). -/
theorem State.Upholds.noTurn (h : a.Upholds s.runSide) : a.Upholds (s.modRun fun r => { r with outstanding := none }).runSide := by
  rw [upholds_iff] at h ⊢
  refine ⟨h.1, fun ha => ?_⟩
  obtain ⟨hrest, hothers⟩ := h.2 ha
  refine ⟨fun hno => ?_, hothers⟩
  obtain ⟨hphase, -, hdemand, hengage⟩ := hrest hno
  exact ⟨hphase, rfl, hdemand, hengage⟩

/-- The run state becomes RUNNING or STOPPING (R84). -/
theorem State.Upholds.enterRun (h : a.Upholds s.runSide) {r : RunState} (hr : r = .running ∨ r = .stopping) :
    a.UpholdsInRun (setRunState r s) := by
  have hrun : (setRunState r s).inRun = true := by simp [State.inRun, hr]
  refine ⟨?_, fun _ => hrun⟩
  rw [upholds_iff] at h ⊢
  refine ⟨fun ha => (paramLaw_congr (by simp)).mpr (h.1 ha), fun ha => ?_⟩
  obtain ⟨-, hspeeds, hd, he⟩ := h.2 ha
  exact ⟨fun hno => by simp [hrun] at hno, by simpa [State.par] using hspeeds, by simpa [State.nat, State.par] using hd, by simpa using he⟩

/-- The run state changes while no run is being made (R84). -/
theorem State.Upholds.leaveRest (h : a.Upholds s.runSide) (hs : s.inRun = false) (r : RunState) :
    a.Upholds (setRunState r s).runSide := by
  rw [upholds_iff] at h ⊢
  refine ⟨fun ha => (paramLaw_congr (by simp)).mpr (h.1 ha), fun ha => ?_⟩
  obtain ⟨hrest, hspeeds, hd, he⟩ := h.2 ha
  exact ⟨fun _ => by simpa using hrest hs, by simpa [State.par] using hspeeds, by simpa [State.nat, State.par] using hd, by simpa using he⟩

/-- In a run the phase and the outstanding turn are free (R83). -/
theorem State.UpholdsInRun.modRun (h : a.UpholdsInRun s) {f : Run → Run} (hf : (f s.run).state = s.run.state) :
    a.UpholdsInRun (s.modRun f) :=
  h.of_run rfl hf id id

theorem State.UpholdsInRun.planTurn (h : a.UpholdsInRun s) : a.UpholdsInRun (planTurn s) := by
  rw [planTurn_eq]
  exact h.of_run rfl rfl (fun _ => ((le_foldl_min_iff _).mp le_rfl).1) id

theorem State.UpholdsInRun.engageTurn (h : a.UpholdsInRun s) (t : Turn) : a.UpholdsInRun (engageTurn t s) := by
  obtain ⟨heads, r, monitors, heq, -, -⟩ := engageTurn_eq t s
  rw [heq]
  exact h.of_run rfl rfl id fun _ => by simp

/-! ### The end of a stop (R31, R34, R96) -/

theorem runSide_setRunState (r : RunState) (s : State) : (setRunState r s).runSide = { s.runSide with state := r } := by
  simp [State.runSide]

/-- The sewing side at rest has no demand and no head engaged (R52, R164). -/
theorem runSide_blocksAtRest (s : State) : (blocksAtRest s).runSide = { s.runSide with demand := 0, engage := 0 } := by
  have hrest (u : State) : (plannerAtRest u).runSide = { u.runSide with demand := 0 } := rfl
  rw [blocksAtRest, hrest, runSide_closeAllPending, runSide_faultHeldHeads]
  rfl

theorem runSide_stopReportedIn (l : RunState) (x : StoppedReport) (s : State) :
    (s.stopReportedIn l x).runSide = ⟨s.params, l, none, none, 0, 0, s.table.sewSet⟩ := by
  rw [State.stopReportedIn, runSide_raiseNotice, runSide_setRunState, runSide_blocksAtRest, stopFilled_eq]
  rfl

theorem endStop_upholds (h : a.Upholds s.runSide) (r : StoppedReport) : a.Upholds (endStop r s).runSide := by
  have hrest (l : RunState) : a.Upholds (s.stopReportedIn l r).runSide := h.of_side_at_rest (runSide_stopReportedIn l r s)
  rw [endStop_eq]
  split
  · exact hrest _
  · simpa using hrest _

theorem tryEndStop_upholds (h : a.Upholds s.runSide) : a.Upholds (tryEndStop s).runSide := by
  unfold tryEndStop
  split
  · simp [endStop_upholds, h]
  · exact h

theorem deliverReport_upholds (h : a.Upholds s.runSide) (r : StoppedReport) : a.Upholds (deliverReport r s).runSide := by
  simp [deliverReport, tryEndStop_upholds, h]

theorem detectStop_upholds (h : a.Upholds s.runSide) : a.Upholds (detectStop s).runSide := by
  simp [detectStop, deliverReport_upholds, h]

theorem brakeOrder_upholds (h : a.Upholds s.runSide) (k : BrakeOrder) : a.Upholds (brakeOrder k s).runSide := by
  simp [brakeOrder, deliverReport_upholds, detectStop_upholds, h]

/-! ### Causes (R88, R90 to R95) -/

/-- In a run an EMERGENCY brings the phase BRAKING; outside one it locks the part (R94, R95). -/
theorem emergency_upholds (h : a.Upholds s.runSide) : a.Upholds (emergency s).runSide := by
  unfold emergency
  extract_lets s1 s2 s3 s4 s5
  have h3 : a.Upholds s3.runSide := State.Upholds.disengage (s := idleChannels s2) (by simpa [s1, s2] using h)
  have h4 : a.Upholds s4.runSide := by simpa [s4] using State.Upholds.zeroDemand (s := haltFrame s3) (by simpa using h3)
  have h5 : a.Upholds s5.runSide := by
    simp only [s5]
    split
    · next hrun => exact ((h4.inRun hrun).modRun rfl).1
    · next hrun => exact h4.leaveRest (by simpa [State.inRun] using hrun) _
  exact brakeOrder_upholds (by simpa using h5) _

theorem goBraking_upholds (h : a.UpholdsInRun s) : a.Upholds (goBraking s).runSide := by
  have hphase : a.Upholds (s.modRun fun r => { r with phase := some .braking }).runSide := (h.modRun rfl).1
  exact brakeOrder_upholds (State.Upholds.zeroDemand (by simpa using hphase)) _

theorem endStart_upholds (h : a.Upholds s.runSide) : a.Upholds (endStart s).runSide := by
  refine brakeOrder_upholds ?_ _
  split <;> simpa using h.zeroDemand

theorem actOnRun_upholds (h : a.Upholds s.runSide) (c : Cause) (first : Bool) : a.Upholds (actOnRun c first s).runSide := by
  unfold actOnRun
  split
  · simp [endStart_upholds, h]
  · next hphase => simp [goBraking_upholds (h.inRun_of_phase hphase), h]
  · exact h

theorem recordPrimary_upholds (h : a.Upholds s.runSide) (c : Cause) (i : Nat) : a.UpholdsInRun (recordPrimary c i s) :=
  State.Upholds.enterRun (by simpa using h) (.inr rfl)

/-- A cause taken in whatever run state (R93, R94). -/
theorem takeCause_upholds (h : a.Upholds s.runSide) (c : Cause) (i : Nat) : a.Upholds (takeCause c i s).runSide := by
  have halone (hstate : s.run.state = .idle ∨ s.run.state = .ready) : a.Upholds (setRunState .locked
      ((clearResume (recordAlone c i s)).modRun fun r => { r with kind := some .emergency })).runSide := by
    refine State.Upholds.leaveRest (by simpa using h) ?_ _
    rcases hstate with hstate | hstate <;> simp [State.inRun, recordAlone, clearResume, hstate]
  unfold takeCause
  split
  · simp [emergency_upholds, actOnRun_upholds, (recordPrimary_upholds h c i).1]
  · simp [emergency_upholds, actOnRun_upholds, h]
  · simp [emergency_upholds, h]
  · simp [emergency_upholds, h]
  · next hstate => simp [emergency_upholds, halone (.inl hstate), h]
  · next hstate => simp [emergency_upholds, halone (.inr hstate), h]

theorem reachedAtIssue_upholds (h : a.Upholds s.runSide) (c : Cause) (i : Nat) (again : Bool) :
    a.Upholds (reachedAtIssue c i again s).runSide := by
  unfold reachedAtIssue
  split
  · next hstate =>
    refine goBraking_upholds ?_
    split
    · exact h.inRun (.inl hstate)
    · exact recordPrimary_upholds h c i
  · split
    · next hstate =>
      refine goBraking_upholds ((h.inRun (.inr hstate)).congr ?_)
      simp
    · simp [takeCause_upholds, h]

theorem failStartChange_upholds (h : a.Upholds s.runSide) : a.Upholds (failStartChange s).runSide := by
  simp only [failStartChange, runSide_ite, upholds_ite]
  simp [takeCause_upholds, tryEndStop_upholds, h]

theorem needleDownAtFrame_upholds (h : a.Upholds s.runSide) : a.Upholds (needleDownAtFrame s).runSide := by
  unfold needleDownAtFrame
  split
  · split <;> simp [takeCause_upholds, h]
  · simp [h]

theorem needleDownAtBar_upholds (h : a.Upholds s.runSide) : a.Upholds (needleDownAtBar s).runSide := by
  unfold needleDownAtBar
  split <;> simp [failStartChange_upholds, h]

theorem followFlag_upholds (h : a.Upholds s.runSide) (old : Bool) : a.Upholds (followFlag old s).runSide := by
  simp [followFlag, needleDownAtBar_upholds, needleDownAtFrame_upholds, h]

/-! ### The heads (chapter 9) -/

theorem checkAllIsolated_upholds (h : a.Upholds s.runSide) : a.Upholds (checkAllIsolated s).runSide := by
  simp [checkAllIsolated, takeCause_upholds, h]

theorem holdFault_upholds (h : a.Upholds s.runSide) (x : Head) (f : FaultRecord) (o : FaultOutcome) (g : Option Nat) :
    a.Upholds (holdFault x f o g s).runSide := by
  simp [holdFault, takeCause_upholds, h]

theorem takeRepairFault_upholds (h : a.Upholds s.runSide) (x : Head) (f : FaultRecord) : a.Upholds (takeRepairFault x f s).runSide := by
  simp only [takeRepairFault]
  split <;> simp [holdFault_upholds, h]

theorem takeFault_upholds (h : a.Upholds s.runSide) (x : Head) (f : FaultRecord) : a.Upholds (takeFault x f s).runSide := by
  unfold takeFault
  split
  · exact takeRepairFault_upholds h x f
  · split
    · exact holdFault_upholds h x f _ _
    · split
      · exact holdFault_upholds h x f _ _
      · next ho => simp [checkAllIsolated_upholds, runSide_of_openHeadGap ho, h]

theorem completeAtHead_upholds (h : a.Upholds s.runSide) (t : Nat) (x : Head) : a.Upholds (completeAtHead t x s).1.runSide := by
  unfold completeAtHead
  split
  · exact h
  · dsimp only
    split <;> simp [takeFault_upholds, h]

theorem completeAtHeads_upholds (h : a.Upholds s.runSide) (t : Turn) (sel : HeadSet) (l : List Head) :
    a.Upholds (completeAtHeads t sel l s).runSide := by
  induction l generalizing s with
  | nil => exact h
  | cons x l ih => exact ih (by simp [completeAtHead_upholds, h])

theorem causesOf_upholds (h : a.Upholds s.runSide) (i : Nat) (l : List Head) : a.Upholds (causesOf i l s).runSide := by
  induction l generalizing s with
  | nil => exact h
  | cons x l ih => exact ih (takeCause_upholds h _ i)

/-! ### Calls (R10 to R12, R49, R64, R66, R89, R90) -/

theorem firstMoveComplete_upholds (h : a.Upholds s.runSide) : a.Upholds (firstMoveComplete s).runSide := by
  unfold firstMoveComplete
  extract_lets s1
  have h1 : a.Upholds s1.runSide := by simpa [s1] using h
  split
  · next hstate =>
    have hsewing : a.Upholds (s1.modRun fun r => { r with phase := some .sewing }).runSide :=
      ((h1.inRun (.inl hstate)).modRun rfl).1
    simpa using hsewing
  · exact tryEndStop_upholds h1

theorem moveFrame_upholds (h : a.Upholds s.runSide) (t : Turn) : a.Upholds (moveFrame t s).runSide := by
  simp [moveFrame, takeCause_upholds, firstMoveComplete_upholds, h]

/-- A turn issued in a run: its demand, its engagement and the turn itself, and then the causes of the issue (R12). -/
theorem issueTurn_upholds (h : a.UpholdsInRun s) (come : StillToCome) (records : List (Nat × Rec)) (i : Nat) (r : Rec) :
    a.Upholds (issueTurn come records i r s).runSide := by
  have hplanned (codes : List Code) : a.UpholdsInRun (planTurn (enterAll codes (judgeRepair records s).1)) :=
    State.UpholdsInRun.planTurn (h.congr (by simp))
  have hengaged (codes : List Code) (t : Turn) : a.UpholdsInRun (engageTurn t
      (rebuild ((planTurn (enterAll codes (judgeRepair records s).1)).modStore (Store.advance records (i + 1))))) :=
    State.UpholdsInRun.engageTurn ((hplanned codes).congr (by simp)) t
  have hissued (codes : List Code) (t : Turn) (owed : Owed) (k : Nat) (l : List Head) :
      a.Upholds (causesOf k l (moveFrame t (lowMarkTest (carryAll owed t.sewSet i codes ((engageTurn t
        (rebuild ((planTurn (enterAll codes (judgeRepair records s).1)).modStore (Store.advance records (i + 1))))).modRun
          fun x => { x with outstanding := some t, inject := none }))))).runSide :=
    causesOf_upholds (moveFrame_upholds (by simpa using ((hengaged codes t).modRun rfl).1) t) k l
  simp only [issueTurn]
  split
  · exact takeCause_upholds (hissued ..) _ _
  · exact hissued ..

theorem answerStop_upholds (h : a.Upholds s.runSide) (come : StillToCome) (records : List (Nat × Rec)) (c : Cause) (i : Nat)
    (again : Bool) : a.Upholds (answerStop come records c i again s).runSide := by
  refine reachedAtIssue_upholds (causesOf_upholds ?_ _ _) _ _ _
  simp only [runSide_lowMarkTest, runSide_carryTrim, runSide_carryAll]
  refine State.Upholds.disengage ?_
  rw [runSide_rebuild, runSide_modPlanner (by split <;> rfl)]
  simpa using h

theorem call_upholds (h : a.UpholdsInRun s) (come : StillToCome) : a.Upholds (call come s).runSide := by
  have hw : a.UpholdsInRun (watchAfterCheck s) := h.congr (by simp)
  simp only [call]
  split
  · exact issueTurn_upholds hw ..
  · exact answerStop_upholds hw.1 ..

/-! ### Starts (R78, R87, R88, R99 to R101, R136, R155) -/

theorem needleStep_upholds (h : a.UpholdsInRun s) : a.Upholds (needleStep s).runSide := by
  unfold needleStep
  split <;> simp [firstCall, call_upholds h, failStartChange_upholds, h.1]

theorem sensorStep_upholds (h : a.UpholdsInRun s) : a.Upholds (sensorStep s).runSide := by
  simp [sensorStep, needleStep_upholds, h, h.1]

theorem returnStep_upholds (h : a.UpholdsInRun s) : a.Upholds (returnStep s).runSide := by
  have hmoved : a.UpholdsInRun (offsetToFrame (beginChunked .returnMove s.designPoint none s).1) := h.congr (by simp)
  simp [returnStep, sensorStep_upholds, h, h.1, hmoved]

/-- The sew set is emptied as a run begins: no needle is engaged outside a run (R87, R163, R164). -/
theorem State.Upholds.noSewSet (h : a.Upholds s.runSide) (hrest : s.inRun = false) :
    a.Upholds (s.modTable fun t => { t with sewSet := 0, sewTurn := none }).runSide := by
  rw [upholds_iff] at h ⊢
  refine ⟨h.1, fun ha => ?_⟩
  obtain ⟨hnone, hspeeds, hd, -⟩ := h.2 ha
  obtain ⟨-, -, -, hengage⟩ := hnone hrest
  exact ⟨hnone, hspeeds, hd, by simp [hengage]⟩

theorem startRun_upholds (h : a.Upholds s.runSide) (hrest : s.inRun = false) (who : Starter) : a.Upholds (startRun who s).runSide := by
  have hempty : a.Upholds (((clearStopPoint (clearResume s)).modMonitors fun _ m => { m with member := false }).modTable
      fun t => { t with sewSet := 0, sewTurn := none }).runSide :=
    State.Upholds.noSewSet (by simpa using h) hrest
  refine returnStep_upholds (State.UpholdsInRun.modRun (State.Upholds.enterRun ?_ (.inl rfl)) rfl)
  rw [runSide_modRun rfl rfl rfl]
  split
  · exact hempty
  · rw [runSide_openAtStart]
    exact hempty

/-- A start passes its checks in READY or HALTED alone (R86). -/
theorem inRun_of_startCheck (h : s.startCheck = none) : s.inRun = false := by
  unfold State.startCheck at h
  split at h
  · cases h
  · next hstate =>
    rw [not_and_or, not_ne_iff, not_ne_iff] at hstate
    rcases hstate with hstate | hstate <;> simp [State.inRun, hstate]

theorem startItself_upholds (h : a.Upholds s.runSide) : a.Upholds (startItself s).runSide := by
  unfold startItself
  split
  · split
    · next hcheck => exact startRun_upholds h (inRun_of_startCheck hcheck) .part
    · simpa using h
  · exact h

theorem colourDelayExpires_upholds (h : a.Upholds s.runSide) : a.Upholds (colourDelayExpires s).runSide := by
  unfold colourDelayExpires
  split
  · simp only [runSide_ite, upholds_ite]
    simp [startItself_upholds, h]
  · exact h

theorem returnEnds_upholds (h : a.Upholds s.runSide) (m : Move) : a.Upholds (returnEnds m s).runSide := by
  unfold returnEnds
  extract_lets s1
  have h1 : a.Upholds s1.runSide := by simpa [s1] using h
  split
  · next hstate => simp [sensorStep_upholds (h1.inRun (.inl hstate)), takeCause_upholds h1]
  · simp [tryEndStop_upholds, takeCause_upholds, h1]

theorem settleNeedle_upholds (h : a.Upholds s.runSide) : a.Upholds (settleNeedle s).runSide := by
  simp only [settleNeedle]
  split
  · simpa using h
  · next c _ =>
    have hended : a.Upholds (endChange .ok none (takeSettled s)).runSide := by simpa using h
    have hcalled (hstate : (endChange .ok none (takeSettled s)).run.state = .running) :
        a.Upholds (firstCall (endChange .ok none (takeSettled s))).runSide := call_upholds (hended.inRun (.inl hstate)) _
    split
    · split
      · exact hended
      · split
        · next hstate => exact hcalled hstate
        · exact tryEndStop_upholds hended
    · simpa using h

theorem needleTimesOut_upholds (h : a.Upholds s.runSide) : a.Upholds (needleTimesOut s).runSide := by
  unfold needleTimesOut
  split <;> simp [failStartChange_upholds, h]

theorem causeStartFaults_upholds (h : a.Upholds s.runSide) (l : List (Head × FaultRecord)) :
    a.Upholds (causeStartFaults l s).runSide := by
  induction l generalizing s with
  | nil => exact h
  | cons x l ih => exact ih (takeCause_upholds h _ _)

theorem startTestEnds_upholds (h : a.Upholds s.runSide) (x : SensorTest) : a.Upholds (startTestEnds x s).runSide := by
  unfold startTestEnds
  extract_lets faults s1 s2
  have h2 : a.Upholds s2.runSide := by simpa [s1, s2] using causeStartFaults_upholds (by simpa using h) faults
  split
  · next hstate => exact needleStep_upholds (h2.inRun (.inl hstate))
  · exact tryEndStop_upholds h2

theorem sensorTestExpires_upholds (h : a.Upholds s.runSide) : a.Upholds (sensorTestExpires s).runSide := by
  unfold sensorTestExpires
  split <;> simp [startTestEnds_upholds, h]

/-! ### Stepwise operations (R15, R16, R79, R170 to R177) -/

theorem stepwiseLands_upholds (h : a.Upholds s.runSide) (k : OpKind) : a.Upholds (stepwiseLands k s).runSide := by
  simp [stepwiseLands, causesOf_upholds, h]

theorem stepOn_upholds (h : a.Upholds s.runSide) (k : OpKind) (fuel : Nat) (g : Goal) : a.Upholds (stepOn k fuel g s).runSide := by
  induction fuel generalizing s g with
  | zero => simpa [stepOn] using h
  | succ fuel ih =>
    unfold stepOn
    split
    · exact stepwiseLands_upholds h k
    · next ho => simp [ih, runSide_of_goalStep ho, h]

theorem nextStep_upholds (h : a.Upholds s.runSide) : a.Upholds (nextStep s).runSide := by
  unfold nextStep
  split
  · split <;> simp [stepOn_upholds, h]
  · exact h

theorem dwellExpires_upholds (h : a.Upholds s.runSide) : a.Upholds (dwellExpires s).runSide := by simp [dwellExpires, nextStep_upholds, h]

theorem startDwell_upholds (h : a.Upholds s.runSide) : a.Upholds (startDwell s).runSide := by simp [startDwell, nextStep_upholds, h]

/-- An accepted REPAIR leaves READY for HALTED (R171). -/
theorem beginRepair_upholds (h : a.Upholds s.runSide) (hrest : s.inRun = false) (hs : HeadSet) : a.Upholds (beginRepair hs s).runSide := by
  refine stepOn_upholds (State.Upholds.leaveRest (by simpa using h) ?_ _) _ _ _
  rw [← hrest]
  exact inRun_congr (by simp)

theorem chunkedMoveEnds_upholds (h : a.Upholds s.runSide) (m : Move) : a.Upholds (chunkedMoveEnds m s).runSide := by
  unfold chunkedMoveEnds
  split <;> simp [firstMoveComplete_upholds, startDwell_upholds, returnEnds_upholds, h]

theorem chunkEnds_upholds (h : a.Upholds s.runSide) : a.Upholds (chunkEnds s).runSide := by
  unfold chunkEnds
  split
  · exact h
  · split <;> simp [chunkedMoveEnds_upholds, h]

/-! ### The shaft's events (chapter 2) -/

theorem overrunArrival_upholds (h : a.Upholds s.runSide) : a.Upholds (overrunArrival s).runSide := by
  simp only [overrunArrival, runSide_ite, upholds_ite]
  simp [takeCause_upholds, h]

theorem lateMark_upholds (h : a.Upholds s.runSide) (w : LateWatch) : a.Upholds (lateMark w s).runSide := by
  simp [lateMark, takeCause_upholds, h]

theorem completeTurn_upholds (h : a.Upholds s.runSide) (w : WindowStart) : a.Upholds (completeTurn w s).runSide := by
  unfold completeTurn
  split <;> simp [completeAtHeads_upholds, h]

theorem takeWindowStart_upholds (h : a.Upholds s.runSide) : a.Upholds (takeWindowStart s).1.runSide := by
  unfold takeWindowStart
  split
  · exact h.noTurn
  · exact h

theorem takeOne_upholds (h : a.Upholds s.runSide) (angle : Nat) (later : List Taker) (t : Taker) (w : Option WindowStart) :
    a.Upholds (takeOne angle later t (s, w)).1.runSide := by
  have hbegun := takeWindowStart_upholds h
  cases t with
  | overrun => exact overrunArrival_upholds h
  | completion => cases w with
    | some w => exact completeTurn_upholds h w
    | none => exact completeTurn_upholds hbegun _
  | retention => cases w with
    | some w => simp [takeOne, h]
    | none => simp [takeOne, hbegun]
  | call =>
    cases w <;> simp only [takeOne] <;> split
    · next hcalls => exact call_upholds (hbegun.inRun_of_phase hcalls.2) _
    · exact hbegun
    · next hcalls => exact call_upholds (h.inRun_of_phase hcalls.2) _
    · exact h
  | windowEnd | jumpEnd => exact lateMark_upholds h _
  | rest | brake | gateStart | gateEnd | sample => simpa [takeOne] using h
  | channel c => simpa [takeOne] using h

theorem takeAll_upholds (angle : Nat) (l : List Taker) {x : State × Option WindowStart} (h : a.Upholds x.1.runSide) :
    a.Upholds (takeAll angle l x).1.runSide := by
  induction l generalizing x with
  | nil => exact h
  | cons t l ih => exact ih (takeOne_upholds h angle l t x.2)

theorem arrive_upholds (h : a.Upholds s.runSide) (order : List Taker) (angle : Nat) : a.Upholds (arrive order angle s).runSide :=
  takeAll_upholds angle _ h

theorem arriveAll_upholds (h : a.Upholds s.runSide) (order : List Taker) (angles : List Nat) :
    a.Upholds (arriveAll order angles s).runSide := by
  induction angles generalizing s with
  | nil => exact h
  | cons x l ih => exact ih (arrive_upholds (by simpa using h) order x)

theorem countShaft_upholds (h : a.Upholds s.runSide) (d : Dir) (order : List Taker) : a.Upholds (countShaft d order s).runSide := by
  simp only [countShaft]
  split
  · split
    · split
      · exact followFlag_upholds (by simpa using h) _
      · exact arrive_upholds (followFlag_upholds (by simpa using h) _) order _
    · exact followFlag_upholds (by simpa using h) _
  · exact followFlag_upholds (takeCause_upholds (by simpa using h) _ _) _

theorem indexForward_upholds (h : a.Upholds s.runSide) (ok : Bool) (us : Nat) (order : List Taker) :
    a.Upholds (indexForward ok us order s).runSide := by
  simp [indexForward, arriveAll_upholds, h]

theorem indexShaft_upholds (h : a.Upholds s.runSide) (d : Dir) (us : Nat) (order : List Taker) :
    a.Upholds (indexShaft d us order s).runSide := by
  simp only [indexShaft]
  split
  · exact followFlag_upholds (by simpa using h) _
  · refine followFlag_upholds ?_ _
    cases d <;> simp [indexForward_upholds, takeCause_upholds, h]

theorem stoppedEvent_upholds (h : a.Upholds s.runSide) : a.Upholds (stoppedEvent s).runSide := by
  simp [stoppedEvent, detectStop_upholds, h]

theorem stallEvent_upholds (h : a.Upholds s.runSide) : a.Upholds (stallEvent s).runSide := by simp [stallEvent, takeCause_upholds, h]

theorem driveEvent_upholds (h : a.Upholds s.runSide) (r f : Bool) : a.Upholds (driveEvent r f s).runSide := by
  simp only [driveEvent]
  split
  · exact takeCause_upholds h _ _
  · exact h

theorem watchFires_upholds (h : a.Upholds s.runSide) : a.Upholds (watchFires s).runSide := by simp [watchFires, takeCause_upholds, h]

end Sys2Proof.Machine
end

section
/-! PROOFS. The requests of the host leave the side that the laws speak of as it is, or uphold what the laws say of it (R4, R6, R51, R57, R86,
R97, R98, R195, R206). -/

namespace Sys2Proof.Machine

variable {a s t : State}

/-! ### Requests that leave the side -/

theorem runSide_loadRecords (start : Index3) (count : Byte) (data : List Byte) :
    (loadRecords start count data s).1.runSide = s.runSide := by
  unfold loadRecords
  split
  · rfl
  · split
    · rfl
    · dsimp only
      split <;> simp

theorem runSide_loadAxisTable (axis : Byte) (points : List RawPoint) : (loadAxisTable axis points s).1.runSide = s.runSide := by
  unfold loadAxisTable
  split
  · rfl
  · split
    · rfl
    · split
      · rfl
      · split
        · rfl
        · rw [runSide_rebuild, runSide_modPlanner (by split <;> rfl)]

theorem runSide_loadPlan (first : Byte) (values : List Byte) : (loadPlan first values s).1.runSide = s.runSide := by
  unfold loadPlan
  dsimp only
  split
  · rfl
  · split <;> simp

theorem runSide_loadEntry (raw : RawEntry) : (loadEntry raw s).1.runSide = s.runSide := by
  unfold loadEntry
  split <;> simp

theorem runSide_swapBanks : (swapBanks s).1.runSide = s.runSide := by
  unfold swapBanks
  split <;> simp

theorem runSide_setupChannel (chan type polarity : Byte) : (setupChannel chan type polarity s).1.runSide = s.runSide := by
  unfold setupChannel
  split
  · rfl
  · split
    · rfl
    · split
      · rfl
      · split <;> simp

theorem runSide_injectRequest (code : Byte) : (injectRequest code s).1.runSide = s.runSide := by
  unfold injectRequest
  split
  · rfl
  · split
    · rfl
    · split <;> simp

theorem runSide_frameOutRequest (dx dy : Half) : (frameOutRequest dx dy s).1.runSide = s.runSide := by
  unfold frameOutRequest
  dsimp only
  split
  · rfl
  · split
    · rfl
    · split <;> simp

theorem runSide_frameReturnRequest : (frameReturnRequest s).1.runSide = s.runSide := by
  unfold frameReturnRequest
  split
  · rfl
  · split <;> simp

theorem runSide_homeRequest : (homeRequest s).1.runSide = s.runSide := by
  unfold homeRequest
  split
  · rfl
  · split
    · rfl
    · split <;> simp

theorem runSide_needleUpRequest : (needleUpRequest s).1.runSide = s.runSide := by
  unfold needleUpRequest
  split
  · rfl
  · split
    · rfl
    · dsimp only
      split <;> simp

theorem runSide_needleSelectRequest (needle : Byte) : (needleSelectRequest needle s).1.runSide = s.runSide := by
  unfold needleSelectRequest
  split
  · rfl
  · split
    · rfl
    · split <;> simp

theorem runSide_sensorTestRequest (heads : Half) : (sensorTestRequest heads s).1.runSide = s.runSide := by
  unfold sensorTestRequest
  split
  · rfl
  · split
    · rfl
    · split
      · rfl
      · split <;> simp

theorem runSide_channelTestRequest (chan : Byte) (heads duration : Half) :
    (channelTestRequest chan heads duration s).1.runSide = s.runSide := by
  unfold channelTestRequest
  split
  · split
    · rfl
    · split
      · rfl
      · split <;> simp
  · rfl

theorem runSide_enableHead (b : Byte) : (enableHead b s).1.runSide = s.runSide := by
  unfold enableHead
  split
  · rfl
  · split
    · rfl
    · rfl
    · rfl
    · split
      · rfl
      · split <;> simp

theorem runSide_setPolicy (p : Policy) (b : Byte) : (setPolicy p b s).1.runSide = s.runSide := by
  unfold setPolicy
  split <;> simp

theorem runSide_clearHead (b : Byte) : (clearHead b s).1.runSide = s.runSide := by
  unfold clearHead
  split
  · rfl
  · split
    · rfl
    · split
      · split <;> simp
      · dsimp only
        split <;> simp
      · split <;> simp
      · simp

theorem runSide_dropGaps (b : Byte) : (dropGaps b s).1.runSide = s.runSide := by
  unfold dropGaps
  split
  · rfl
  · simp only [runSide_runRetention]
    split <;> simp

theorem runSide_setBobbin (b : Byte) (v : Word) : (setBobbin b v s).1.runSide = s.runSide := by
  unfold setBobbin
  split
  · rfl
  · split
    · simp
    · split <;> simp

theorem runSide_restartRequest : (restartRequest s).1.runSide = s.runSide := by
  unfold restartRequest
  split <;> simp

theorem runSide_noticeMaskRequest (mask : Word) : (noticeMaskRequest mask s).1.runSide = s.runSide := by
  unfold noticeMaskRequest
  split <;> simp

theorem runSide_noticeTakeRequest (source : Byte) : (noticeTakeRequest source s).1.runSide = s.runSide := by
  unfold noticeTakeRequest
  split
  · rfl
  · simp [clearSource]

/-! ### Requests that change the run state, or take a cause -/

theorem openDesign_upholds (h : a.Upholds s.runSide) (x y : Int) : a.Upholds (openDesign x y s).1.runSide := by
  unfold openDesign
  split
  · exact h
  · split <;> simpa using h

theorem discardDesign_upholds (h : a.Upholds s.runSide) : a.Upholds (discardDesign s).1.runSide := by
  unfold discardDesign
  split
  · exact h
  · next hstate =>
    split
    · exact h
    · have hrest : s.inRun = false := by
        simp only [not_or] at hstate
        simp [State.inRun, hstate.1, hstate.2.1]
      refine State.Upholds.leaveRest (by simpa using h) ?_ _
      rw [← hrest]
      exact inRun_congr (by simp)

theorem armDesign_upholds (h : a.Upholds s.runSide) : a.Upholds (armDesign s).1.runSide := by
  unfold armDesign
  split
  · exact h
  · next hidle =>
    split
    · exact h
    · split
      · exact h
      · split
        · exact h
        · exact State.Upholds.leaveRest (by simpa using h) (by simp [State.inRun, not_ne_iff.mp hidle]) _

theorem startRequest_upholds (h : a.Upholds s.runSide) : a.Upholds (startRequest s).1.runSide := by
  unfold startRequest
  split
  · exact h
  · next hcheck => exact startRun_upholds h (inRun_of_startCheck hcheck) .host

theorem stopAtRest_upholds (h : a.Upholds s.runSide) : a.Upholds (stopAtRest s).runSide := by
  simp only [stopAtRest, runSide_ite, upholds_ite]
  simp [brakeOrder_upholds, h]

theorem stopRequest_upholds (h : a.Upholds s.runSide) : a.Upholds (stopRequest s).1.runSide := by
  unfold stopRequest
  split
  · exact takeCause_upholds h _ _
  · exact h
  · exact h
  all_goals exact stopAtRest_upholds h

theorem backtrackRequest_upholds (h : a.Upholds s.runSide) (count : Half) : a.Upholds (backtrackRequest count s).1.runSide := by
  unfold backtrackRequest
  split
  · exact h
  · split
    · exact h
    · split
      · exact h
      · split
        · exact h
        · exact stepOn_upholds (by simpa using h) _ _ _

/-- An operation that needs an armed design at rest is taken in READY or HALTED alone (R102). -/
theorem inRun_of_slotCheck (h : s.slotCheck armedAtRest = none) : s.inRun = false := by
  unfold State.slotCheck at h
  split at h
  · cases h
  · next hstate =>
    rw [not_not, List.contains_iff_mem] at hstate
    rcases List.mem_pair.mp hstate with hstate | hstate <;> simp [State.inRun, hstate]

theorem repairRequest_upholds (h : a.Upholds s.runSide) (heads : Half) : a.Upholds (repairRequest heads s).1.runSide := by
  unfold repairRequest
  split
  · exact h
  · split
    · exact h
    · split
      · exact h
      · next hcheck =>
        split
        · exact h
        · split
          · exact h
          · split
            · exact h
            · exact beginRepair_upholds h (inRun_of_slotCheck hcheck) _

theorem repairAbandonRequest_upholds (h : a.Upholds s.runSide) : a.Upholds (repairAbandonRequest s).1.runSide := by
  unfold repairAbandonRequest
  split
  · exact h
  · split
    · exact h
    · split
      · exact h
      · exact stepOn_upholds (by simpa using h) _ _ _

theorem disableHead_upholds (h : a.Upholds s.runSide) (b : Byte) : a.Upholds (disableHead b s).1.runSide := by
  unfold disableHead
  split
  · exact h
  · simp [checkAllIsolated_upholds, h]

theorem isolateHead_upholds (h : a.Upholds s.runSide) (b : Byte) : a.Upholds (isolateHead b s).1.runSide := by
  unfold isolateHead
  split
  · exact h
  · split
    · exact h
    · exact h
    all_goals
      split
      · simpa using h
      · split
        · exact h
        · next ho => simp [checkAllIsolated_upholds, runSide_of_openHeadGap ho, h]

theorem clearRequest_upholds (h : a.Upholds s.runSide) : a.Upholds (clearRequest s).1.runSide := by
  unfold clearRequest
  split
  · exact h
  · next hlocked =>
    split
    · exact h
    · split
      · exact h
      · split
        · exact h
        · exact h.leaveRest (by simp [State.inRun, not_ne_iff.mp hlocked]) _

/-! ### Writing a parameter (R57, R195, R206) -/

/-- A pair of parameters stays in order when one of them takes a value that keeps it so. -/
theorem setPar_le_setPar {p lo hi : Param} {v : Int} (hne : lo ≠ hi) (h : s.par lo ≤ s.par hi) (hlo : p = lo → v ≤ s.par hi)
    (hhi : p = hi → s.par lo ≤ v) : (s.setPar p v).par lo ≤ (s.setPar p v).par hi := by
  by_cases h1 : p = lo
  · subst h1
    rw [State.setPar_par_same, State.setPar_par_other hne]
    exact hlo rfl
  · rw [State.setPar_par_other h1]
    by_cases h2 : p = hi
    · subst h2
      rw [State.setPar_par_same]
      exact hhi rfl
    · rwa [State.setPar_par_other h2]

/-- A value in its parameter's range that leaves every ordered pair in order (R205, R206). -/
theorem paramLaw_setPar {p : Param} {v : Int} (hl : s.ParamLaw) (hrange : p.row.lo ≤ v ∧ v ≤ p.row.hi) (hpairs : s.PairsKept p v) :
    (s.setPar p v).ParamLaw := by
  obtain ⟨hranges, hspeed, hx, hy, hsensor, hquiet⟩ := hl
  obtain ⟨hp1, hp2, hp3, hp4, hp5, hp6, hp7, hp8, hp9, hp10⟩ := hpairs
  refine ⟨fun q hq => ?_, setPar_le_setPar (by decide) hspeed hp1 hp2, setPar_le_setPar (by decide) hx hp3 hp4,
    setPar_le_setPar (by decide) hy hp5 hp6, setPar_le_setPar (by decide) hsensor hp7 hp8,
    setPar_le_setPar (by decide) hquiet hp10 hp9⟩
  by_cases hpq : p = q
  · subst hpq
    rwa [State.setPar_par_same]
  · rw [State.setPar_par_other hpq]
    exact hranges q hq

/-- What the checks of SET PARAM let pass (R195). -/
theorem paramBar_eq_none {p : Param} {v : Int} (h : s.paramBar p v = none) :
    (p.row.lo ≤ v ∧ v ≤ p.row.hi) ∧ s.changeBar p.row.change = false ∧ s.ownBar p v = none := by
  unfold State.paramBar at h
  split at h
  · cases h
  · next hrange =>
    split at h
    · cases h
    · next hchange => exact ⟨by omega, by simpa using hchange, h⟩

/-- The chapters' own checks keep the ordered pairs in order (R57, R206). -/
theorem pairsKept_of_ownBar {p : Param} {v : Int} (h : s.ownBar p v = none) : s.PairsKept p v := by
  refine ⟨?_, ?_, ?_, ?_, ?_, ?_, ?_, ?_, ?_, ?_⟩ <;> rintro rfl <;> grind [State.ownBar]

/-- A clamped speed lies between the bounds it is clamped to. -/
theorem clampSpeed_mem (h0 : 0 ≤ s.par .speedMin) (h1 : s.par .speedMin ≤ s.par .speedTop) (v : Nat) :
    s.par .speedMin ≤ s.clampSpeed v ∧ (s.clampSpeed v : Int) ≤ s.par .speedTop := by
  simp only [State.clampSpeed, clampNat, State.nat]
  omega

/-- SPEED_SET, brought between its bounds, keeps the law of the parameters. -/
theorem paramLaw_clampSpeed (hl : s.ParamLaw) (v : Nat) : (s.setPar .speedSet (s.clampSpeed v)).ParamLaw := by
  have hmin : (60 : Int) ≤ s.par .speedMin ∧ s.par .speedMin ≤ 400 := hl.1 .speedMin (by decide)
  have htop : (200 : Int) ≤ s.par .speedTop ∧ s.par .speedTop ≤ 1500 := hl.1 .speedTop (by decide)
  have hclamped := clampSpeed_mem (by omega) hl.2.1 v
  refine paramLaw_setPar hl (show (0 : Int) ≤ _ ∧ _ ≤ (65535 : Int) by omega) ?_
  simp [State.PairsKept]

/-! ### SPEED_SET (R51) -/

@[simp] theorem lowerDemand_params (v : Nat) : (lowerDemand v s).params = s.params := by unfold lowerDemand; split <;> rfl
@[simp] theorem lowerDemand_run (v : Nat) : (lowerDemand v s).run = s.run := by unfold lowerDemand; split <;> rfl
@[simp] theorem lowerDemand_table (v : Nat) : (lowerDemand v s).table = s.table := by unfold lowerDemand; split <;> rfl

/-- In a run the demand comes down to the value, and outside one it is 0 (R51). -/
theorem lowerDemand_demand (hrest : s.inRun = false → s.planner.demand = 0) (v : Nat) :
    (lowerDemand v s).planner.demand = min v s.planner.demand := by
  unfold lowerDemand
  by_cases hrun : s.inRun = true
  · have hstate := inRun_iff.mp hrun
    split
    · next hlower => exact (Nat.min_eq_left hlower.2.le).symm
    · next hkept => exact (Nat.min_eq_right (by simpa [hstate] using hkept)).symm
  · have hzero := hrest (by simpa using hrun)
    simp [hzero]

/-- SPEED_SET, brought between its bounds, stands between them (R51). -/
theorem speeds_clampSpeed (h0 : 0 ≤ s.par .speedMin) (h1 : s.par .speedMin ≤ s.par .speedTop) (v : Nat)
    (ht : t.params = (s.setPar .speedSet (s.clampSpeed v)).params) :
    0 ≤ t.par .speedMin ∧ t.par .speedMin ≤ t.par .speedSet ∧ t.par .speedSet ≤ t.par .speedTop := by
  have hpar (p : Param) : t.par p = (s.setPar .speedSet (s.clampSpeed v)).par p := by simp only [State.par, ht]
  rw [hpar, hpar, hpar, State.setPar_par_same, State.setPar_par_other (by decide), State.setPar_par_other (by decide)]
  exact ⟨h0, clampSpeed_mem h0 h1 v⟩

theorem setSpeed_upholds (h : a.Upholds s.runSide) (v : Nat) : a.Upholds (setSpeed v s).runSide := by
  simp only [setSpeed]
  split
  · exact h
  · rw [runSide_rebuild]
    let t := lowerDemand (s.clampSpeed v) (s.setPar .speedSet (s.clampSpeed v))
    have hparams : t.params = (s.setPar .speedSet (s.clampSpeed v)).params := lowerDemand_params _
    have hrun : t.run = s.run := lowerDemand_run _
    have htable : t.table = s.table := lowerDemand_table _
    rw [upholds_iff] at h
    refine upholds_iff.mpr ⟨fun ha => (paramLaw_congr hparams).mpr (paramLaw_clampSpeed (h.1 ha) v), fun ha => ?_⟩
    obtain ⟨hrest, ⟨hmin, hlow, hhigh⟩, -, hengage⟩ := h.2 ha
    have hdemand : t.planner.demand = min (s.clampSpeed v) s.planner.demand :=
      lowerDemand_demand (s := s.setPar .speedSet (s.clampSpeed v)) (fun hno => (hrest hno).2.2.1) _
    have hset : t.par .speedSet = s.clampSpeed v := by
      rw [← State.setPar_par_same .speedSet (s.clampSpeed v) s]
      simp only [State.par, hparams]
    refine ⟨fun hno => ?_, speeds_clampSpeed hmin (hlow.trans hhigh) v hparams, ?_, ?_⟩
    · obtain ⟨hphase, hturn, hzero, hnone⟩ := hrest (by rwa [State.inRun, hrun] at hno)
      exact ⟨hrun ▸ hphase, hrun ▸ hturn, by rw [hdemand, hzero, Nat.min_zero], htable ▸ hnone⟩
    · rw [State.nat, hset, hdemand]
      exact Nat.min_le_left ..
    · exact htable ▸ hengage

/-! ### The other parameters -/

/-- A change of SPEED_MIN or SPEED_TOP, and SPEED_SET clamped again: the part is at rest then (R57). -/
theorem reclampSpeed_upholds (h : a.Upholds s.runSide) {p : Param} {v : Int} (hp : p = .speedMin ∨ p = .speedTop)
    (hb : s.paramBar p v = none) : a.Upholds (reclampSpeed (s.setPar p v)).runSide := by
  obtain ⟨hrange, hchange, hown⟩ := paramBar_eq_none hb
  have hpairs := pairsKept_of_ownBar hown
  have hstill : s.inRun = false := by rcases hp with rfl | rfl <;> simp_all [State.changeBar, State.inRun, Param.row]
  have hlow : 0 ≤ v := by rcases hp with rfl | rfl <;> simp only [Param.row] at hrange <;> omega
  rw [upholds_iff] at h
  refine upholds_iff.mpr ⟨fun ha => paramLaw_clampSpeed (paramLaw_setPar (h.1 ha) hrange hpairs) _, fun ha => ?_⟩
  obtain ⟨hrest, ⟨hmin, hset, htop⟩, -, -⟩ := h.2 ha
  obtain ⟨hphase, hturn, hzero, hnone⟩ := hrest hstill
  have hordered : (s.setPar p v).par .speedMin ≤ (s.setPar p v).par .speedTop :=
    setPar_le_setPar (by decide) (hset.trans htop) hpairs.1 hpairs.2.1
  have hpos : 0 ≤ (s.setPar p v).par .speedMin := by
    by_cases hmin' : p = .speedMin
    · rwa [hmin', State.setPar_par_same]
    · rwa [State.setPar_par_other hmin']
  exact ⟨fun _ => ⟨hphase, hturn, hzero, hnone⟩, speeds_clampSpeed hpos hordered _ rfl, by simp [reclampSpeed, hzero],
    by simp [reclampSpeed, hnone]⟩

/-- A parameter that bounds no speed is no part of the law of the run. -/
theorem setPar_upholds (h : a.Upholds s.runSide) {p : Param} {v : Int} (hp : p ≠ .speedMin ∧ p ≠ .speedTop ∧ p ≠ .speedSet)
    (hb : s.paramBar p v = none) : a.Upholds (s.setPar p v).runSide := by
  obtain ⟨hmin, htop, hset⟩ := hp
  obtain ⟨hrange, -, hown⟩ := paramBar_eq_none hb
  rw [upholds_iff] at h
  refine upholds_iff.mpr ⟨fun ha => paramLaw_setPar (h.1 ha) hrange (pairsKept_of_ownBar hown), fun ha => ?_⟩
  obtain ⟨hrest, hspeeds, hdemand, hengage⟩ := h.2 ha
  refine ⟨hrest, ?_, ?_, hengage⟩
  · rwa [State.setPar_par_other hmin, State.setPar_par_other htop, State.setPar_par_other hset]
  · rwa [State.nat, State.setPar_par_other hset]

@[simp] theorem runSide_dropHeads (n : Nat) : (dropHeads n s).runSide = s.runSide := by simp [dropHeads]
@[simp] theorem runSide_loseSync : (loseSync s).runSide = s.runSide := (rfl)
@[simp] theorem runSide_loseReference : (loseReference s).runSide = s.runSide := (rfl)
@[simp] theorem runSide_shortenWindows (n : Nat) : (shortenWindows n s).runSide = s.runSide := (rfl)
@[simp] theorem runSide_endWait (w : Resume) : (endWait w s).runSide = s.runSide := by
  unfold endWait; split <;> simp

/-- The effects of a change of any parameter but a bound of the speeds (R195). -/
theorem paramEffects_upholds (h : a.Upholds s.runSide) {p : Param} (hp : p ≠ .speedMin ∧ p ≠ .speedTop) (old v : Int) :
    a.Upholds (paramEffects p old v s).runSide := by
  unfold paramEffects
  split <;> simp_all [followFlag_upholds]

theorem writeParam_upholds (h : a.Upholds s.runSide) {p : Param} {v : Int} (hb : s.paramBar p v = none) :
    a.Upholds (writeParam p v s).runSide := by
  unfold writeParam
  split
  · exact setSpeed_upholds h _
  · next hset =>
    dsimp only
    split
    · exact h
    · by_cases hbound : p = .speedMin ∨ p = .speedTop
      · have heffects : paramEffects p (s.par p) v (s.setPar p v) = rebuild (reclampSpeed (s.setPar p v)) := by
          rcases hbound with rfl | rfl <;> rfl
        rw [heffects, runSide_rebuild]
        exact reclampSpeed_upholds h hbound hb
      · rw [not_or] at hbound
        exact paramEffects_upholds (setPar_upholds h ⟨hbound.1, hbound.2, hset⟩ hb) hbound _ _

theorem setParamRequest_upholds (h : a.Upholds s.runSide) (id : Byte) (value : Word) :
    a.Upholds (setParamRequest id value s).1.runSide := by
  unfold setParamRequest
  split
  · exact h
  · split
    · exact h
    · next hb => exact writeParam_upholds h hb

end Sys2Proof.Machine
end

section
/-! PROOFS. O7 and O8: requests, the link, the resets and every command keep the law of the run and the law of the parameters. -/

namespace Sys2Proof.Machine

variable {a s t : State}

/-- Whatever a request does, it upholds what the laws say. -/
theorem answerOf_upholds (h : a.Upholds s.runSide) (i : Instr) : a.Upholds (answerOf i s).1.runSide := by
  obtain ⟨hstate, hhead, hgaps, hparam⟩ := query_unchanged s
  unfold answerOf
  split
  · rwa [hstate]
  · rwa [hhead]
  · rwa [hgaps]
  · exact setParamRequest_upholds h ..
  · rwa [hparam]
  · split
    · rwa [runSide_loadAxisTable]
    · exact h
  · rwa [runSide_loadPlan]
  · rwa [runSide_loadEntry]
  · rwa [runSide_swapBanks]
  · rwa [runSide_setupChannel]
  · exact openDesign_upholds h ..
  · split
    · rwa [runSide_loadRecords]
    · exact h
  · exact discardDesign_upholds h
  · exact armDesign_upholds h
  · exact startRequest_upholds h
  · exact stopRequest_upholds h
  · exact setSpeed_upholds h _
  · rwa [runSide_injectRequest]
  · exact backtrackRequest_upholds h _
  · exact repairRequest_upholds h _
  · exact repairAbandonRequest_upholds h
  · rwa [runSide_frameOutRequest]
  · rwa [runSide_frameReturnRequest]
  · rwa [runSide_homeRequest]
  · rwa [runSide_needleUpRequest]
  · rwa [runSide_needleSelectRequest]
  · rwa [runSide_sensorTestRequest]
  · rwa [runSide_channelTestRequest]
  · rwa [runSide_enableHead]
  · exact disableHead_upholds h _
  · exact isolateHead_upholds h _
  · rwa [runSide_setPolicy]
  · rwa [runSide_setPolicy]
  · rwa [runSide_clearHead]
  · rwa [runSide_dropGaps]
  · rwa [runSide_setBobbin]
  · rwa [runSide_noticeMaskRequest]
  · rwa [runSide_noticeTakeRequest]
  · exact clearRequest_upholds h
  · rwa [runSide_restartRequest]
  · exact h

/-! ### The link (chapter 10) -/

@[simp] theorem runSide_enqueue (r : Reply) : (enqueue r s).runSide = s.runSide := (rfl)
@[simp] theorem runSide_hunt : (hunt s).runSide = s.runSide := (rfl)
@[simp] theorem runSide_bufferFrame (f : RxFrame) : (bufferFrame f s).runSide = s.runSide := by simp [bufferFrame]
@[simp] theorem runSide_completeFrame (f : RxFrame) : (completeFrame f s).runSide = s.runSide := by simp [completeFrame]
@[simp] theorem runSide_listen (r : Receiver) : (listen r s).runSide = s.runSide := (rfl)
@[simp] theorem runSide_huntByte (b : Byte) : (huntByte b s).runSide = s.runSide := (rfl)
@[simp] theorem runSide_takeByte (b : Byte) : (takeByte b s).runSide = s.runSide := by
  unfold takeByte; split <;> simp
@[simp] theorem runSide_abandonFrame : (abandonFrame s).runSide = s.runSide := by simp [abandonFrame]
@[simp] theorem runSide_endSending : (endSending s).runSide = s.runSide := by
  unfold endSending; split <;> simp
@[simp] theorem runSide_arbitrate : (arbitrate s).runSide = s.runSide := by
  unfold arbitrate
  split
  · rfl
  · split
    · simp
    · split <;> simp [sendNotice]

theorem takeFrame_upholds (h : a.Upholds s.runSide) (f : RxFrame) : a.Upholds (takeFrame f s).runSide := by
  unfold takeFrame
  split
  · exact h
  · split
    · exact h
    · exact answerOf_upholds h _

theorem pump_upholds (h : a.Upholds s.runSide) (n : Nat) : a.Upholds (pump n s).runSide := by
  induction n generalizing s with
  | zero => exact h
  | succ n ih =>
    unfold pump
    split
    · exact h
    · split
      · exact ih (takeFrame_upholds (by simpa using h) _)
      · exact h

theorem settle_upholds (h : a.Upholds s.runSide) : a.Upholds (settle s).runSide := by simp [settle, pump_upholds, h]

theorem ask_upholds (h : a.Upholds s.runSide) (i : Instr) : a.Upholds (ask i s).runSide := by
  unfold ask
  split
  · exact h
  · split
    · exact h
    · dsimp only
      split
      · refine settle_upholds ?_
        rw [runSide_enqueue]
        exact answerOf_upholds (by simpa using h) i
      · exact settle_upholds (by simpa using h)

/-- An event of which neither the levels that it brings nor its effect breaks the laws. -/
theorem event_upholds {levels effect : State → State} (hlevels : a.Upholds (levels s).runSide)
    (heffect : a.Upholds (effect s).runSide) : a.Upholds (event levels effect s).runSide := by
  simp [event, settle_upholds, hlevels, heffect]

/-! ### Resets (R22, R193, R194) -/

theorem causeIf_upholds (h : a.Upholds s.runSide) (p : Prop) [Decidable p] (c : Cause) (i : Nat) :
    a.Upholds (if p then takeCause c i s else s).runSide := by
  split
  · exact takeCause_upholds h c i
  · exact h

theorem endReset_upholds (h : a.Upholds s.runSide) (k : ResetKind) : a.Upholds (endReset k s).runSide := by
  unfold endReset
  exact causeIf_upholds (causeIf_upholds (causeIf_upholds (by simpa using h) ..) ..) ..

theorem storeCheckEnds_upholds (h : a.Upholds s.runSide) (failed : Option Half) : a.Upholds (storeCheckEnds failed s).runSide :=
  endReset_upholds (by simpa using h) _

theorem runSide_restarted : s.restarted.runSide = ⟨s.params, .idle, none, none, 0, 0, 0⟩ := (rfl)

/-- A reset leaves nothing of a run, and the parameters as they were (R41, R59, R106, R178). -/
theorem makeRestart_upholds (h : a.Upholds s.runSide) : a.Upholds (makeRestart s).runSide :=
  endReset_upholds (h.of_side_at_rest runSide_restarted) _

/-- The power-on values meet the laws (R193, R206). -/
theorem powerOn_upholds (pins : Pins) (high : Bool) (l : List Instr) : a.Upholds (State.powerOn pins high l).runSide := by
  have hside : (State.powerOn pins high l).runSide = State.reset.runSide := (rfl)
  rw [hside, upholds_iff]
  obtain ⟨-, -, hrun, hparams, -⟩ := resetMeetsTheLaws
  exact ⟨fun _ => hparams, fun _ => hrun⟩

/-! ### Commands and steps -/

/-- Whatever a command does, it upholds what the laws say. -/
theorem exec_upholds (h : a.Upholds s.runSide) {c : Instr} (hx : exec c s = .next t) : a.Upholds t.runSide := by
  cases c <;> cases hx
  case powerOn => exact powerOn_upholds ..
  case storeCheckDone failed => simp [settle_upholds, storeCheckEnds_upholds, h]
  case restartReset => simp [settle_upholds, makeRestart_upholds, h]
  case frameComplete => exact event_upholds h (by simpa using h)
  case interByteTimeout => exact event_upholds h (by simpa using h)
  case unknownKindFrame => exact event_upholds h (by simpa using h)
  case transmitEnd => exact event_upholds h (by simpa using h)
  case queryState | queryHead | queryGaps | setParam | getParam | loadTable | loadNeedlePlan | loadMapEntry | swapMap | setChannel |
      designOpen | load | designDiscard | arm | stop | speed | inject | backtrack | repair | repairAbandon | frameOut | frameReturn |
      needleUp | needleSelect | channelTest | headModeEnable | headModeDisable | headModeIsolate | headModePolicyStop |
      headModePolicyIsolate | headClear | gapDrop | bobbinSet | noticeMask | noticeTake | clear | restart => exact ask_upholds h _
  case start => exact ask_upholds (by simpa using h) _
  case home => exact ask_upholds (by simpa using h) _
  case sensorTest => exact ask_upholds (by simpa using h) _
  case encoderCount d l order => exact event_upholds (by simpa using h) (countShaft_upholds (by simpa using h) d order)
  case encoderIndex d us l order => exact event_upholds (by simpa using h) (indexShaft_upholds (by simpa using h) d _ order)
  case stoppedDetection => exact event_upholds h (stoppedEvent_upholds h)
  case stall => exact event_upholds h (stallEvent_upholds h)
  case driveLineChange => exact event_upholds (by simpa using h) (driveEvent_upholds (by simpa using h) _ _)
  case estop =>
    refine event_upholds (by simpa using h) ?_
    dsimp only
    split
    · exact takeCause_upholds (by simpa using h) _ _
    · simpa using h
  case moveComplete => exact event_upholds h (by simpa using h)
  case chunkComplete => exact event_upholds (by simpa using h) (chunkEnds_upholds (by simpa using h))
  case homingStepComplete => exact event_upholds (by simpa using h) (by simpa using h)
  case dwellExpiry => exact event_upholds h (dwellExpires_upholds h)
  case automaticStart => exact event_upholds (by simpa using h) (startItself_upholds (by simpa using h))
  case colourDelayExpiry => exact event_upholds h (colourDelayExpires_upholds h)
  case channelTestExpiry => exact event_upholds h (by simpa using h)
  case needlePositionChange => exact event_upholds (by simpa using h) (by simpa using h)
  case needleSettleExpiry => exact event_upholds h (by simp [settleNeedle_upholds, h])
  case needleTimeoutExpiry => exact event_upholds h (needleTimesOut_upholds h)
  case lostWatchExpiry => exact event_upholds h (watchFires_upholds h)
  case threadPulse => exact event_upholds h (by simpa using h)
  case sensorTestExpiry => exact event_upholds (by simpa using h) (sensorTestExpires_upholds (by simpa using h))
  case byteReceived => exact event_upholds h (by simpa using h)
  case stepEmitted => exact event_upholds h (by simpa using h)

/-- Whatever a step does, it upholds what the laws say. -/
theorem step_upholds (ht : step s = .next t) : s.Upholds t.runSide := by
  unfold step at ht
  split at ht
  · next i rest _ => exact exec_upholds (s := { s with pending := rest }) (State.Upholds.refl s) ht
  · cases ht
    rw [runSide_tick]
    exact State.Upholds.refl s

/-- Settles O7: each operation that a step is made of keeps the law of the run, whatever the law of the parameters says. -/
theorem stepKeepsTheRunLaw : Obligations.StepKeepsTheRunLaw := fun _ _ hrun _ ht => (upholds_iff.mp (step_upholds ht)).2 hrun

/-- Settles O8: each operation that a step is made of keeps the law of the parameters; besides a power-on, SET PARAM and SPEED
alone write one. -/
theorem stepKeepsTheParamLaw : Obligations.StepKeepsTheParamLaw := fun _ _ hparams ht =>
  (upholds_iff.mp (step_upholds ht)).1 hparams

end Sys2Proof.Machine
end

section
/-! PROOFS. SPEED and LOAD TABLE (R42, R47, R51). -/

namespace Sys2Proof.Machine

/-! ### SPEED (R51) -/

/-- A value that clamps to the present SPEED_SET changes nothing. -/
theorem setSpeed_of_same {s : State} {v : Nat} (h : (s.clampSpeed v : Int) = s.par .speedSet) : setSpeed v s = s := by
  simp [setSpeed, h]

/-- Outside a run, and at or above the demand, no demand comes down. -/
theorem lowerDemand_of_keeps {s : State} {v : Nat} (h : s.inRun = false ∨ s.planner.demand ≤ v) : lowerDemand v s = s := by
  refine if_neg fun hc => ?_
  rcases h with hrest | hle
  · simp [inRun_iff.mpr hc.1] at hrest
  · omega

/-- In a run a demand above the value comes down to it. -/
theorem lowerDemand_of_lowers {s : State} {v : Nat} (hrun : s.inRun = true) (hv : v < s.planner.demand) : lowerDemand v s = { s with
    planner := { s.planner with demand := v, prev := some v }
    shaft := { s.shaft with line := min s.shaft.line v } } :=
  if_pos ⟨inRun_iff.mp hrun, hv⟩

/-- Another value is written, the demand kept, and the list rebuilt (R47). -/
theorem setSpeed_of_keeps {s : State} {v : Nat} (h : (s.clampSpeed v : Int) ≠ s.par .speedSet)
    (hkeeps : s.inRun = false ∨ s.planner.demand ≤ s.clampSpeed v) :
    setSpeed v s = rebuild (s.setPar .speedSet (s.clampSpeed v)) := by
  simp only [setSpeed, h, if_false]
  rw [lowerDemand_of_keeps (s := s.setPar .speedSet (s.clampSpeed v)) hkeeps]

/-- Another value is written, and a demand above it comes down with its line (R51). -/
theorem setSpeed_of_lowers {s : State} {v : Nat} (h : (s.clampSpeed v : Int) ≠ s.par .speedSet) (hrun : s.inRun = true)
    (hlow : s.clampSpeed v < s.planner.demand) :
    setSpeed v s = rebuild { s.setPar .speedSet (s.clampSpeed v) with
      planner := { s.planner with demand := s.clampSpeed v, prev := some (s.clampSpeed v) }
      shaft := { s.shaft with line := min s.shaft.line (s.clampSpeed v) } } := by
  simp only [setSpeed, h, if_false]
  rw [lowerDemand_of_lowers (s := s.setPar .speedSet (s.clampSpeed v)) hrun hlow]
  rfl

/-- SPEED is answered with the clamped value in every run state. -/
theorem exec_speed {tag : Byte} {value : Half} {s t : State} (hs : s.ready) (ht : setSpeed value.toNat (hunt s) = t) :
    exec (.speed tag value) s = .next (replied 0x11 tag .done (u16 (s.clampSpeed value.toNat)) t) :=
  exec_answered (a := ⟨.done, u16 (s.clampSpeed value.toNat)⟩) rfl hs rfl (by decide) (by rw [← ht]; rfl)

/-- Settles O35: the three cases of a write of SPEED_SET, each answered with the clamped value. -/
theorem speedSetsTheOperatorsSpeed : Obligations.SpeedSetsTheOperatorsSpeed := by
  intro tag value s hs
  exact ⟨rfl, fun hsame => exec_speed hs (setSpeed_of_same (s := hunt s) hsame),
    fun hchange hkeeps => exec_speed hs (setSpeed_of_keeps (s := hunt s) hchange hkeeps),
    fun hchange hrun hlow => exec_speed hs (setSpeed_of_lowers (s := hunt s) hchange hrun hlow)⟩

/-! ### LOAD TABLE (R42) -/

/-- From one point of a table to the next the steps rise and the time does not fall (R42). -/
def TablePoint.RisesTo (a b : TablePoint) : Prop := a.steps < b.steps ∧ a.time ≤ b.time

theorem TablePoint.RisesTo.trans {a b c : TablePoint} (hab : a.RisesTo b) (hbc : b.RisesTo c) : a.RisesTo c :=
  ⟨hab.1.trans hbc.1, hab.2.trans hbc.2⟩

/-- The neighbours in a list are the pairs of the list and its tail. -/
theorem forall_mem_zip_tail_iff {α : Type} {R : α → α → Prop} (l : List α) : (∀ x ∈ l.zip l.tail, R x.1 x.2) ↔ l.IsChain R := by
  induction l with
  | nil => simp
  | cons a l ih => cases l with
    | nil => simp
    | cons b l => simpa using fun _ => ih

/-- A table rises from neighbour to neighbour exactly when every point rises to every later one. -/
theorem neighbours_rise_iff (l : List TablePoint) :
    (∀ x ∈ l.zip l.tail, x.1.steps < x.2.steps ∧ x.1.time ≤ x.2.time) ↔ l.Pairwise TablePoint.RisesTo := by
  have : Trans TablePoint.RisesTo TablePoint.RisesTo TablePoint.RisesTo := ⟨TablePoint.RisesTo.trans⟩
  rw [← List.isChain_iff_pairwise, ← forall_mem_zip_tail_iff]
  rfl

/-- A point as LOAD TABLE carries it, in numbers (R42, R200). -/
def pointOf (p : RawPoint) : TablePoint := ⟨p.steps.toNat, p.time.toNat⟩

theorem pointOf_eq_zero_iff (p : RawPoint) : pointOf p = ⟨0, 0⟩ ↔ p = ⟨0, 0⟩ := by
  cases p
  simp [pointOf, BitVec.toNat_eq]

/-- The points that R42 lets pass. -/
def TableGood (points : List RawPoint) : Prop :=
  points.head? = some ⟨0, 0⟩ ∧
  points.Pairwise (fun a b => a.steps.toNat < b.steps.toNat ∧ a.time.toNat ≤ b.time.toNat) ∧
  ∀ p ∈ points, p.steps.toNat ≤ 32767 ∧ p.time.toNat ≤ 2000000

/-- Sixteen points make a table exactly when R42 lets them pass. -/
theorem tableOf_eq_some_iff {points : List RawPoint} (hlen : points.length = 16) (t : List TablePoint) :
    tableOf points = some t ↔ TableGood points ∧ points.map pointOf = t := by
  have hpoints : (points.map fun p => (⟨p.steps.toNat, p.time.toNat⟩ : TablePoint)) = points.map pointOf := rfl
  have hhead : (points.map pointOf).head? = some ⟨0, 0⟩ ↔ points.head? = some ⟨0, 0⟩ := by
    simp only [List.head?_map, Option.map_eq_some_iff, pointOf_eq_zero_iff, exists_eq_right]
  have hrises : (points.map pointOf).Pairwise TablePoint.RisesTo ↔
      points.Pairwise (fun a b => a.steps.toNat < b.steps.toNat ∧ a.time.toNat ≤ b.time.toNat) := List.pairwise_map
  have hbounds : (∀ q ∈ points.map pointOf, q.steps ≤ 32767 ∧ q.time ≤ 2000000) ↔
      ∀ p ∈ points, p.steps.toNat ≤ 32767 ∧ p.time.toNat ≤ 2000000 := List.forall_mem_map
  simp only [TableGood, tableOf, hpoints, Option.ite_none_right_eq_some, Option.some.injEq, List.length_map, hlen, true_and,
    List.all_eq_true, Bool.and_eq_true, decide_eq_true_eq, hhead, ← hrises, ← hbounds, ← neighbours_rise_iff]

/-- LOAD TABLE is answered as its axis table is taken (R42). -/
theorem exec_loadTable {tag axis : Byte} {points : List RawPoint} {s t : State} {st : Status} (hs : s.ready)
    (hlen : points.length = 16) (ht : loadAxisTable axis points (hunt s) = (t, plain st)) :
    exec (.loadTable tag axis points) s = .next (replied 0x06 tag st [] t) :=
  exec_answered (a := plain st) rfl hs rfl (by decide) ((if_pos hlen).trans ht)

theorem loadAxisTable_of_run {axis : Byte} (haxis : axis.toNat ≤ 1) (points : List RawPoint) {s : State} (hrun : s.inRun = true) :
    loadAxisTable axis points s = (s, plain .state) := by
  simp [loadAxisTable, haxis, inRun_iff.mp hrun]

/-- Neither RUNNING nor STOPPING. -/
theorem not_run {s : State} (h : s.inRun = false) : ¬ (s.run.state = .running ∨ s.run.state = .stopping) := by
  simpa [State.inRun] using h

theorem loadAxisTable_of_busy {axis : Byte} (haxis : axis.toNat ≤ 1) (points : List RawPoint) {s : State} (hrest : s.inRun = false)
    (hslot : s.run.slot ≠ none) : loadAxisTable axis points s = (s, plain .busy) := by
  have hfull : s.slotEmpty = false := by simp [State.slotEmpty, Option.isSome_iff_ne_none, hslot]
  simp [loadAxisTable, haxis, not_run hrest, hfull]

theorem loadAxisTable_of_bad {axis : Byte} {points : List RawPoint} {s : State} (hrest : s.inRun = false) (hslot : s.run.slot = none)
    (ht : tableOf points = none) : loadAxisTable axis points s = (s, plain .form) := by
  simp [loadAxisTable, not_run hrest, State.slotEmpty, hslot, ht]

theorem loadAxisTable_of_good {axis : Byte} (haxis : axis.toNat ≤ 1) {points : List RawPoint} {s : State} (hrest : s.inRun = false)
    (hslot : s.run.slot = none) {t : List TablePoint} (ht : tableOf points = some t) : loadAxisTable axis points s = (rebuild { s with
      planner := if axis = 0 then { s.planner with tableX := some t } else { s.planner with tableY := some t } }, plain .done) := by
  have hempty : s.slotEmpty = true := by simp [State.slotEmpty, hslot]
  simp only [loadAxisTable, Nat.not_lt.mpr haxis, not_run hrest, hempty, not_true_eq_false, if_false, ht]
  rfl

/-- Settles O36: the checks in order, and then the points. -/
theorem loadTableReplacesTheTable : Obligations.LoadTableReplacesTheTable := by
  refine ⟨fun tag axis points s hs hlen => ?_, fun tag axis points s hs hlen haxis => ⟨fun hrun => ?_, fun hrest hslot => ?_,
    fun hrest hslot hbad => ?_, fun hrest hslot hgood => ?_⟩⟩
  · exact exec_answered (a := plain .form) rfl hs rfl (by decide) (if_neg hlen)
  · exact exec_loadTable hs hlen (loadAxisTable_of_run haxis points hrun)
  · exact exec_loadTable hs hlen (loadAxisTable_of_busy haxis points hrest hslot)
  · have hnone : tableOf points = none := Option.eq_none_iff_forall_ne_some.mpr fun t ht =>
      hbad ((tableOf_eq_some_iff hlen t).mp ht).1
    exact exec_loadTable hs hlen (loadAxisTable_of_bad (s := hunt s) hrest hslot hnone)
  · have hsome : tableOf points = some (points.map pointOf) := (tableOf_eq_some_iff hlen _).mpr ⟨hgood, rfl⟩
    exact exec_loadTable hs hlen (loadAxisTable_of_good (s := hunt s) haxis hrest hslot hsome)

end Sys2Proof.Machine
end

section
/-! PROOFS. The Speed Planner's arithmetic (R43 to R50). -/

namespace Sys2Proof.Machine

/-! ### The allowed speed (R48) -/

theorem allowedSpeed_eq_none_iff (ramp : Nat) (l : List Entry) : allowedSpeed ramp l = none ↔ l = [] := by
  cases l with
  | nil => simp [allowedSpeed]
  | cons e es => simp only [allowedSpeed]; split <;> simp

/-- The term that the entry at a place of the list gives (R48). -/
def speedTerm (ramp : Nat) (j : Nat) (e : Entry) : Nat := e.plan + j * ramp

/-- Every term of a list stands one ramp higher in the list that another entry begins. -/
theorem speedTerm_succ (ramp j : Nat) (e : Entry) : speedTerm ramp (j + 1) e = speedTerm ramp j e + ramp := by
  simp only [speedTerm]; ring

/-- The allowed speed is the least of the terms (R48). -/
theorem allowedSpeed_is_least {ramp : Nat} {l : List Entry} {a : Nat} (h : allowedSpeed ramp l = some a) :
    (∃ (j : Nat) (e : Entry), l[j]? = some e ∧ a = speedTerm ramp j e) ∧
    ∀ (j : Nat) (e : Entry), l[j]? = some e → a ≤ speedTerm ramp j e := by
  induction l generalizing a with
  | nil => cases h
  | cons e es ih =>
    have hfirst : speedTerm ramp 0 e = e.plan := by simp [speedTerm]
    cases hes : allowedSpeed ramp es with
    | none =>
      obtain rfl := (allowedSpeed_eq_none_iff ramp es).mp hes
      obtain rfl : e.plan = a := by simpa [allowedSpeed] using h
      refine ⟨⟨0, e, rfl, hfirst.symm⟩, fun j x hx => ?_⟩
      obtain ⟨rfl, rfl⟩ : j = 0 ∧ e = x := by cases j <;> simp_all
      exact hfirst.ge
    | some b =>
      obtain ⟨⟨k, x, hk, hb⟩, hleast⟩ := ih hes
      obtain rfl : min e.plan (b + ramp) = a := by simpa [allowedSpeed, hes] using h
      refine ⟨?_, fun j y hy => ?_⟩
      · rcases Nat.le_total e.plan (b + ramp) with hle | hle
        · exact ⟨0, e, rfl, by rw [hfirst, Nat.min_eq_left hle]⟩
        · exact ⟨k + 1, x, hk, by rw [speedTerm_succ, ← hb, Nat.min_eq_right hle]⟩
      · cases j with
        | zero =>
          obtain rfl : e = y := by simpa using hy
          exact (Nat.min_le_left ..).trans hfirst.ge
        | succ j =>
          rw [speedTerm_succ]
          exact (Nat.min_le_right ..).trans (Nat.add_le_add_right (hleast j y hy) ramp)

/-! ### The move ceiling (R44) -/

theorem moveCeiling_of_time (s : State) (w : Nat) {t : Nat} (ht : 0 < t) :
    s.moveCeiling w (some t) = max (s.nat .speedMin) (min (w * 500000 / (3 * t)) (s.nat .speedTop)) := by
  obtain ⟨k, rfl⟩ := Nat.exists_eq_add_of_lt ht
  rfl

/-- Between the bounds the ceiling is the highest speed at which the window lasts the move. -/
theorem le_moveCeiling_iff (s : State) (w : Nat) {t v : Nat} (ht : 0 < t) (hmin : s.nat .speedMin < v) (htop : v ≤ s.nat .speedTop) :
    v ≤ s.moveCeiling w (some t) ↔ v * (3 * t) ≤ w * 500000 := by
  rw [moveCeiling_of_time s w ht, ← Nat.le_div_iff_mul_le (by omega)]
  omega

/-! ### The list (R46, R47) -/

/-- The list holds no more entries than there is room for (R47). -/
theorem length_planTurns_le (s : State) (l : List (Nat × Rec)) (pos : Pt) (caps : List Nat) (slows : List (Nat × Nat)) (room : Nat) :
    (planTurns s l pos caps slows room).1.length ≤ room := by
  induction l generalizing pos caps slows room with
  | nil => exact Nat.zero_le _
  | cons x rest ih =>
    unfold planTurns
    split
    · split
      · exact Nat.zero_le _
      · split
        · split
          · exact ih ..
          · exact ih ..
        · exact ih ..
    · split
      · exact Nat.zero_le _
      · split
        · exact Nat.zero_le _
        · exact Nat.succ_le_succ (ih ..)

/-- What the list says of the turn at the front of the pending records (R44, R46). The stop that follows at once is told by the rest. -/
theorem planTurns_of_turn {s : State} {i : Nat} {r : Rec} {d : Pt} (rest : List (Nat × Rec)) (hstop : s.planner.stopPoint = none)
    (hd : r.move = some d) (pos : Pt) (caps : List Nat) (slows : List (Nat × Nat)) (room : Nat) :
    let l := s.stepsBetween (s.store.origin.add pos) (s.store.origin.add (pos.add d))
    let t := s.moveDuration l.1 l.2
    let c := s.moveCeiling (s.turnWidth r.isJump) t
    let more := planTurns s rest (pos.add d) caps.tail (oneTurnLess slows) room
    planTurns s ((i, r) :: rest) pos caps slows (room + 1) =
      (⟨i, r.isJump, l.1, l.2, t, c, leastOf c (caps.head?.toList ++ slows.map Prod.fst ++
        if more.1.isEmpty && more.2 then [s.nat .speedStopEntry] else [])⟩ :: more.1, false) := by
  simp [planTurns, hd, Planner.stopsAt, Planner.lastBeforeStop, hstop]

theorem planTurns_of_stopType {s : State} {k : Nat} {r : Rec} (rest : List (Nat × Rec)) (h : (s.func.stopType r).isSome = true)
    (pos : Pt) (caps : List Nat) (slows : List (Nat × Nat)) (room : Nat) :
    planTurns s ((k, r) :: rest) pos caps slows room = ([], true) := by
  have hmove : r.move = none := by cases r <;> simp_all [FuncUnit.stopType, Rec.move]
  simp [planTurns, hmove, h]

/-- A least of a value and a list is at or below each of them. -/
theorem leastOf_le (v : Nat) (l : List Nat) : leastOf v l ≤ v ∧ ∀ x ∈ l, leastOf v l ≤ x := (le_foldl_min_iff l).mp le_rfl

/-- The first entry of the list is that of the pending turn (R44, R46): its ceiling, lowered to the cap of its place and, where a stop
follows before any further turn, to SPEED_STOPENTRY. -/
theorem freshLookahead_of_turn {s : State} {i : Nat} {r : Rec} {d : Pt} {rest : List (Nat × Rec)} (hstop : s.planner.stopPoint = none)
    (hpending : s.store.pendingRecords = (i, r) :: rest) (hd : r.move = some d) :
    let l := s.stepsBetween s.designPoint (s.designPoint.add d)
    let t := s.moveDuration l.1 l.2
    let c := s.moveCeiling (s.turnWidth r.isJump) t
    let more := planTurns s rest (s.store.cursorPos.add d) s.planner.caps.tail [] 47
    s.freshLookahead = ⟨i, r.isJump, l.1, l.2, t, c, leastOf c (s.planner.caps.head?.toList ++
      if more.1.isEmpty && more.2 then [s.nat .speedStopEntry] else [])⟩ :: more.1 := by
  have hlist := congrArg Prod.fst (planTurns_of_turn (i := i) rest hstop hd s.store.cursorPos s.planner.caps [] 47)
  simp only [List.map_nil, List.append_nil] at hlist
  simp only [State.freshLookahead, hpending, State.designPoint, Pt.add_assoc]
  exact hlist

/-- A turn that the list goes on with: no stop is known to follow (R46). -/
theorem leastOf_caps (c v : Nat) (caps : List Nat) (stops : Bool) (hstops : stops = false) :
    leastOf c (caps.head?.toList ++ if stops then [v] else []) = min c ((caps.head?).getD c) := by
  subst hstops
  cases caps <;> simp [leastOf]

/-- A turn after which the list ends with a stop enters it at SPEED_STOPENTRY or below (R46). -/
theorem leastOf_le_of_stop (c v : Nat) (caps : List Nat) {more : List Entry × Bool} (hmore : more = ([], true)) :
    leastOf c (caps.head?.toList ++ if more.1.isEmpty && more.2 then [v] else []) ≤ v := by
  subst hmore
  exact (leastOf_le ..).2 v (by simp)

/-! ### The cap profile (R45) -/

/-- A SLOW effect over k turns lowers the places below k to its speed, and no others. -/
theorem getElem?_enterSlow (v k : Nat) (caps : List Nat) (i : Nat) :
    (enterSlow v k caps)[i]? = if i < k then some (min ((caps[i]?).getD v) v) else caps[i]? := by
  induction k generalizing caps i with
  | zero => rfl
  | succ k ih =>
    cases caps with
    | nil => cases i <;> simp [enterSlow, ih]
    | cons c caps => cases i <;> simp [enterSlow, ih]

theorem enterEffect_of_slow {s : State} {c : Code} {n k : Nat} (h : (s.func.entry c).effect = .slow n k) :
    enterEffect c s = { s with planner := { s.planner with caps := enterSlow (s.clampSpeed n) k s.planner.caps } } := by
  simp [enterEffect, h, State.modPlanner]

theorem enterEffect_of_not_slow {s : State} {c : Code} (h : ∀ n k, (s.func.entry c).effect ≠ .slow n k) : enterEffect c s = s := by
  unfold enterEffect
  split
  · next n k heffect => exact absurd heffect (h n k)
  · rfl

/-- Settles O60: each part of the arithmetic by its own lemma. -/
theorem theAllowedSpeedIsTheLeastTerm : Obligations.TheAllowedSpeedIsTheLeastTerm := by
  refine ⟨fun ramp list => ⟨allowedSpeed_eq_none_iff ramp list, fun a => allowedSpeed_is_least⟩,
    fun s w => ⟨rfl, rfl, fun t ht => ⟨moveCeiling_of_time s w ht, fun v => le_moveCeiling_iff s w ht⟩⟩,
    fun s => ⟨length_planTurns_le .., fun i r d rest hstop hpending hd => ?_⟩, fun s c => ⟨fun n k heffect => ?_, enterEffect_of_not_slow⟩,
    fun s a => ⟨fun prev hprev => ?_, demandFor_eq s a true⟩⟩
  · refine ⟨_, _, freshLookahead_of_turn hstop hpending hd, rfl, rfl, rfl, rfl, rfl, (leastOf_le ..).1, fun c hc => ?_,
      fun k r' rest' hrest hstops => ?_, fun hrest hend => ?_, fun k r' d' rest' hrest hd' => ?_⟩
    · exact (leastOf_le ..).2 c (by simp [hc])
    · exact leastOf_le_of_stop _ _ _ (by rw [hrest, planTurns_of_stopType rest' hstops])
    · exact leastOf_le_of_stop _ _ _ (by simp [hrest, planTurns, hend])
    · exact leastOf_caps _ _ _ _ (by rw [hrest, planTurns_of_turn rest' hstop hd']; rfl)
  · exact ⟨_, enterEffect_of_slow heffect, getElem?_enterSlow _ k _⟩
  · simpa [hprev] using demandFor_eq s a false

end Sys2Proof.Machine
end

section
/-! PROOFS. Step targets, and where a chunk of a move ends (R61, R63). -/

namespace Sys2Proof.Machine

/-! ### Step targets (R61) -/

theorem stepTarget_eq_floor (pitch p : Int) : stepTarget pitch p = Int.floor (((p * pitch + 5 : Int) : ℚ) / 10) :=
  (Rat.floor_intCast_div_natCast (p * pitch + 5) 10).symm

/-- A coordinate's step target is at or below k up to the coordinate whose product with the pitch is 10 k + 4 (R61). -/
theorem stepTarget_le_iff (pitch q k : Int) : stepTarget pitch q ≤ k ↔ q * pitch ≤ 10 * k + 4 := by
  unfold stepTarget; omega

theorem le_stepTarget_iff (pitch q k : Int) : k ≤ stepTarget pitch q ↔ 10 * k - 5 ≤ q * pitch := by
  unfold stepTarget; omega

/-- The steps from a to c are those from a to b and from b to c together (R61). -/
theorem stepsBetween_add (s : State) (a b c : Pt) : s.stepsBetween a c = s.stepsBetween a b + s.stepsBetween b c := by
  simp only [State.stepsBetween, Prod.mk_add_mk, Prod.mk.injEq]
  omega

/-- Settles O59: the floor of R61 is integer division, and the ends of a chain of moves cancel. -/
theorem stepTargetsRoundToTheNearest : Obligations.StepTargetsRoundToTheNearest := by
  refine ⟨fun pitch p => ⟨stepTarget_eq_floor pitch p, ?_⟩, fun s a b c => ⟨rfl, stepsBetween_add s a b c⟩⟩
  have hup := (stepTarget_le_iff pitch p _).mp le_rfl
  have hdown := (le_stepTarget_iff pitch p _).mp le_rfl
  omega

/-! ### The end of a chunk (R63) -/

/-- Toward a coordinate at or above c, the chunk goes to the farthest coordinate whose steps from c fit. -/
theorem chunkEnd_up {pitch c g : Int} (m : Nat) (hpitch : 0 < pitch) (h : c ≤ g) :
    c ≤ chunkEnd pitch c g m ∧ chunkEnd pitch c g m ≤ g ∧
    ∀ q, c ≤ q → q ≤ g → (q ≤ chunkEnd pitch c g m ↔ stepTarget pitch q - stepTarget pitch c ≤ m) := by
  have hfar (q : Int) : q ≤ (10 * (stepTarget pitch c + m) + 4) / pitch ↔ stepTarget pitch q - stepTarget pitch c ≤ m := by
    rw [Int.le_ediv_iff_mul_le hpitch, ← stepTarget_le_iff]
    omega
  have hend : chunkEnd pitch c g m = min g ((10 * (stepTarget pitch c + m) + 4) / pitch) := if_pos h
  have hstart := (hfar c).mpr (by omega)
  rw [hend]
  exact ⟨le_min h hstart, min_le_left _ _, fun q _ hq => by rw [le_min_iff, hfar, and_iff_right hq]⟩

/-- Toward a coordinate below c, likewise. -/
theorem chunkEnd_down {pitch c g : Int} (m : Nat) (hpitch : 0 < pitch) (h : g < c) :
    g ≤ chunkEnd pitch c g m ∧ chunkEnd pitch c g m ≤ c ∧
    ∀ q, g ≤ q → q ≤ c → (chunkEnd pitch c g m ≤ q ↔ stepTarget pitch c - stepTarget pitch q ≤ m) := by
  have hfar (q : Int) : -((5 - 10 * (stepTarget pitch c - m)) / pitch) ≤ q ↔ stepTarget pitch c - stepTarget pitch q ≤ m := by
    rw [neg_le, Int.le_ediv_iff_mul_le hpitch, Int.neg_mul]
    have := le_stepTarget_iff pitch q (stepTarget pitch c - m)
    omega
  have hend : chunkEnd pitch c g m = max g (-((5 - 10 * (stepTarget pitch c - m)) / pitch)) := if_neg (not_le.mpr h)
  have hstart := (hfar c).mpr (by omega)
  rw [hend]
  exact ⟨le_max_left _ _, max_le h.le hstart, fun q hq _ => by rw [max_le_iff, hfar, and_iff_right hq]⟩

theorem chunkEnd_self {pitch : Int} (c : Int) (m : Nat) (hpitch : 0 < pitch) : chunkEnd pitch c c m = c := by
  obtain ⟨hlow, hhigh, -⟩ := chunkEnd_up m hpitch (le_refl c)
  exact le_antisymm hhigh hlow

/-- Both directions together (R63); from a coordinate to itself the chunk stays. -/
theorem chunkEnd_spec {pitch c g : Int} (m : Nat) (hpitch : 0 < pitch) :
    let e := chunkEnd pitch c g m
    (c ≤ g → c ≤ e ∧ e ≤ g ∧ ∀ q, c ≤ q → q ≤ g → (q ≤ e ↔ stepTarget pitch q - stepTarget pitch c ≤ m)) ∧
    (g ≤ c → g ≤ e ∧ e ≤ c ∧ ∀ q, g ≤ q → q ≤ c → (e ≤ q ↔ stepTarget pitch c - stepTarget pitch q ≤ m)) := by
  intro e
  refine ⟨chunkEnd_up m hpitch, fun h => ?_⟩
  rcases h.lt_or_eq with h | rfl
  · exact chunkEnd_down m hpitch h
  · have he : e = g := chunkEnd_self g m hpitch
    rw [he]
    refine ⟨le_rfl, le_rfl, fun q hq hq' => ?_⟩
    obtain rfl : g = q := le_antisymm hq hq'
    simp

theorem lastSteps_append (t : List TablePoint) (p : TablePoint) : lastSteps (some (t ++ [p])) = p.steps := by
  simp [lastSteps]

end Sys2Proof.Machine
end

section
/-! PROOFS. FRAME OUT, FRAME RETURN and HOME begin (R71, R72, R75, R77). -/

namespace Sys2Proof.Machine

/-- A turn move in progress has completed in the frame that a move finds (R65). -/
theorem settledFrame_of_turn {s : State} {m : Move} (hm : s.frame.move = some m) (hp : m.purpose = .turnMove) :
    s.settledFrame = { s.frame with
      stepX := s.frame.stepX + m.leftX, stepY := s.frame.stepY + m.leftY, coord := m.target, move := none, late := none } := by
  simp [State.settledFrame, hm, hp]

/-! ### FRAME OUT and FRAME RETURN (R75, R77) -/

theorem offsetMoveBar_eq_none {s : State} (hup : s.restsUp = true) (href : s.frame.ref = .referenced) (htab : s.shortTable = none) :
    s.offsetMoveBar = none := by
  simp [State.offsetMoveBar, hup, href, State.tablesBar, htab]

/-- The move of an operation that finds the frame off its target begins (R63, R75, R77). -/
theorem moveOffset_lays {s : State} {p : Purpose} {target : Pt} (h : s.settledFrame.coord ≠ target) :
    ∃ m, moveOffset p target s = { s with frame := s.settledFrame.lay m } ∧ m.abort = none ∧
      s.LaysChunk p s.settledFrame.coord target m := by
  obtain ⟨m, hm, habort, -, hlays⟩ := beginChunked_lays (turn := none) (p := p) h
  exact ⟨m, by simp [moveOffset, hm], habort, hlays⟩

section
variable {s : State} (hslot : s.run.slot = none) (hup : s.restsUp = true) (htab : s.shortTable = none)
  (hstate : s.run.state = .ready ∨ s.run.state = .halted) (href : s.frame.ref = .referenced)
include hslot hup htab hstate href

/-- An accepted FRAME OUT aims at the request clamped to the soft limits, reckoned from the design point (R75). -/
theorem frameOutRequest_lays {dx dy : Half} (hx : -32000 ≤ dx.toInt ∧ dx.toInt ≤ 32000) (hy : -32000 ≤ dy.toInt ∧ dy.toInt ≤ 32000)
    (hne : s.settledFrame.coord ≠ s.designPoint.add (s.offsetTarget ⟨dx.toInt, dy.toInt⟩)) :
    let target := s.offsetTarget ⟨dx.toInt, dy.toInt⟩
    ∃ m, frameOutRequest dx dy s = ({ fillSlot .frameOut .host none s with frame := s.settledFrame.lay m },
        ⟨.started, i32 target.x ++ i32 target.y⟩) ∧
      s.LaysChunk .frameOut s.settledFrame.coord (s.designPoint.add target) m ∧ m.abort = none := by
  intro target
  have hform : ¬ (dx.toInt < -32000 ∨ 32000 < dx.toInt ∨ dy.toInt < -32000 ∨ 32000 < dy.toInt) := by omega
  have hcheck : s.slotCheck armedAtRest = none := slotCheck_of_empty (by simpa [armedAtRest] using hstate) hslot
  obtain ⟨m, hm, habort, hlays⟩ := moveOffset_lays (s := fillSlot .frameOut .host none s) (p := .frameOut) hne
  refine ⟨m, ?_, hlays, habort⟩
  simp only [frameOutRequest, hform, if_false, hcheck, offsetMoveBar_eq_none hup href htab]
  exact congrArg (fun t => (t, _)) hm

/-- An accepted FRAME RETURN aims at the design point (R77). -/
theorem frameReturnRequest_lays (hne : s.settledFrame.coord ≠ s.designPoint) :
    ∃ m, frameReturnRequest s = ({ fillSlot .frameReturn .host none s with frame := s.settledFrame.lay m }, plain .started) ∧
      s.LaysChunk .returnMove s.settledFrame.coord s.designPoint m ∧ m.abort = none := by
  have hcheck : s.slotCheck armedAtRest = none := slotCheck_of_empty (by simpa [armedAtRest] using hstate) hslot
  obtain ⟨m, hm, habort, hlays⟩ := moveOffset_lays (s := fillSlot .frameReturn .host none s) (p := .returnMove) hne
  refine ⟨m, ?_, hlays, habort⟩
  simp only [frameReturnRequest, hcheck, offsetMoveBar_eq_none hup href htab]
  exact congrArg (fun t => (t, _)) hm

end

/-- The point that FRAME OUT aims at lies within the soft limits on each axis (R75). -/
theorem add_offsetTarget (s : State) (d : Pt) : s.designPoint.add (s.offsetTarget d) =
    ⟨max (s.par .limitXMin) (min (s.designPoint.x + s.frame.offset.x + d.x) (s.par .limitXMax)),
      max (s.par .limitYMin) (min (s.designPoint.y + s.frame.offset.y + d.y) (s.par .limitYMax))⟩ := by
  simp [State.offsetTarget, Pt.add, Pt.sub, clampInt]

/-! ### HOME (R71, R72) -/

/-- The move that homing makes next: one search move in the negative direction, or one back-off step in the positive one (R72). -/
def State.homingLeg (s : State) (h : Homing) : Move :=
  let n : Int := if h.backOff then 1 else -(s.searchSteps h.axis : Int)
  ⟨if h.backOff then .homingBackOff else .homingSearch, s.settledFrame.coord, s.settledFrame.coord,
    if h.axis = .x then n else 0, if h.axis = .y then n else 0, none, false, none⟩

/-- A homing move begins, and the reference is lost at it (R69, R72). -/
theorem homingMove_eq (h : Homing) (s : State) : homingMove h s =
    { s with frame := { s.settledFrame.lay (s.homingLeg h) with ref := .unreferenced, homing := some h } } := by
  simp only [homingMove, turnMoveEnds_eq]
  rfl

theorem setSwitches_eq (levels : Option (Bool × Bool)) (s : State) :
    setSwitches levels s = { s with pins := (setSwitches levels s).pins } := by
  cases levels <;> rfl

/-- The homing record that HOME begins with: Y first, and no search where its switch reads closed (R71, R72). -/
def State.firstHoming (s : State) : Homing := { s.newHoming with axis := .y, backOff := s.pins.switchY }

/-- An accepted HOME makes its first homing move (R71, R72). -/
theorem homeRequest_begins {s : State} (hslot : s.run.slot = none) (hup : s.restsUp = true) (htab : s.shortTable = none)
    (hstate : s.run.state = .idle ∨ s.run.state = .ready ∨ s.run.state = .halted) :
    homeRequest s = ({ fillSlot .home .host none s with
      frame := { s.settledFrame.lay (s.homingLeg s.firstHoming) with ref := .unreferenced, homing := some s.firstHoming } },
      plain .started) := by
  have hcheck : s.slotCheck atRest = none := slotCheck_of_empty (by simpa [atRest] using hstate) hslot
  simp only [homeRequest, hcheck, hup, not_true_eq_false, if_false, State.tablesBar, htab, Option.map_none, beginAxis, homingMove_eq]
  rfl

/-- The first leg of HOME leaves X where it stands, and on Y searches, or backs off from a switch that reads closed (R72). -/
theorem homingLeg_firstHoming (s : State) : (s.homingLeg s.firstHoming).leftX = 0 ∧
    (s.pins.switchY = false → (s.homingLeg s.firstHoming).purpose = .homingSearch ∧
      (s.homingLeg s.firstHoming).leftY = -(ceilDiv (s.par .pitchY).toNat 10 : Int)) ∧
    (s.pins.switchY = true → (s.homingLeg s.firstHoming).purpose = .homingBackOff ∧ (s.homingLeg s.firstHoming).leftY = 1) := by
  refine ⟨rfl, fun hopen => ?_, fun hclosed => ?_⟩
  · simp [State.homingLeg, State.firstHoming, hopen, State.searchSteps, State.pitch]
  · simp [State.homingLeg, State.firstHoming, hclosed]

/-- Settles O50: the chunk arithmetic, and each request past its checks to the move it begins. -/
theorem frameOperationsBegin : Obligations.FrameOperationsBegin := by
  refine ⟨fun f m => rfl, fun s => settledFrame_of_noTurn, fun s m => settledFrame_of_turn, fun pitch c g m => chunkEnd_spec m,
    fun s c g => rfl, lastSteps_append, fun tag s hs hslot hup htab => ?_⟩
  refine ⟨fun dx dy hstate href hx hx' hy hy' hne => ?_, fun hstate href hne => ?_, fun switches hstate => ?_⟩
  · obtain ⟨m, hm, hlays, habort⟩ := frameOutRequest_lays (s := hunt s) hslot hup htab hstate href (dx := dx) (dy := dy)
      ⟨hx, hx'⟩ ⟨hy, hy'⟩ (by rw [add_offsetTarget]; exact hne)
    rw [add_offsetTarget] at hlays
    exact ⟨m, exec_answered (a := ⟨.started, _⟩) rfl hs rfl (by decide) hm, hlays, habort⟩
  · obtain ⟨m, hm, hlays, habort⟩ := frameReturnRequest_lays (s := hunt s) hslot hup htab hstate href hne
    exact ⟨m, exec_answered (a := plain .started) rfl hs rfl (by decide) hm, hlays, habort⟩
  · intro pins
    refine ⟨fun l hl => by simp only [pins, hl]; rfl, fun hnone => by simp only [pins, hnone]; rfl, ?_⟩
    let u : State := hunt { s with pins := pins }
    have hbegin : homeRequest u = _ := homeRequest_begins (s := u) hslot hup htab hstate
    obtain ⟨hx, hsearch, hback⟩ := homingLeg_firstHoming u
    refine ⟨u.homingLeg u.firstHoming, u.firstHoming, ?_, hx, hsearch, hback, rfl, rfl, rfl, rfl, rfl, rfl, ?_⟩
    · have hexec : exec (.home tag switches) s = .next (ask (.home tag switches) { s with pins := pins }) :=
        congrArg (fun t => Host.Outcome.next (ask (.home tag switches) t)) (setSwitches_eq switches s)
      rw [hexec, ask_answered (i := .home tag switches) (s := { s with pins := pins }) (a := plain .started) hs rfl (by decide) hbegin]
      rfl
    · exact decide_eq_true_iff

end Sys2Proof.Machine
end

section
/-! PROOFS. Moves that complete, steps that are emitted, and chunks that go on to the next (R60, R62 to R64). -/

namespace Sys2Proof.Machine

/-! ### The events of the frame (R62, R63, R72, R79) -/

section
variable {s t : State} (hs : s.awake)
include hs

theorem exec_moveComplete (h : turnMoveEnds s = t) : exec .moveComplete s = .next (settle t) := by
  rw [← h]; exact congrArg _ (event_of_awake hs)

theorem exec_stepEmitted {a : Axis} (h : emitStep a s = t) : exec (.stepEmitted a) s = .next (settle t) := by
  rw [← h]; exact congrArg _ (event_of_awake hs)

theorem exec_chunkComplete {tension : List (BitVec 10)} (h : chunkEnds (setTension tension s) = t) :
    exec (.chunkComplete tension) s = .next (settle t) := by
  rw [← h]; exact congrArg _ (event_of_awake hs)

theorem exec_homingStepComplete {x y : Bool}
    (h : homingStepEnds { s with pins := { s.pins with switchX := x, switchY := y } } = t) :
    exec (.homingStepComplete x y) s = .next (settle t) := by
  rw [← h]; exact congrArg _ (event_of_awake hs)

theorem exec_dwellExpiry (h : dwellExpires s = t) : exec .dwellExpiry s = .next (settle t) := by
  rw [← h]; exact congrArg _ (event_of_awake hs)

end

/-! ### Arrivals and steps (R60, R62, R64) -/

/-- The frame come to c by move m: the steps that were left emitted, no move in progress, no late watch (R60, R62). -/
def Frame.arrived (f : Frame) (m : Move) (c : Pt) : Frame :=
  { f with stepX := f.stepX + m.leftX, stepY := f.stepY + m.leftY, coord := c, move := none, late := none }

theorem arriveAt_eq (c : Pt) (m : Move) (s : State) : arriveAt c m s = { s with frame := s.frame.arrived m c } := rfl

theorem turnMoveEnds_of_turn {s : State} {m : Move} (hm : s.frame.move = some m) (hp : m.purpose = .turnMove) :
    turnMoveEnds s = { s with frame := s.frame.arrived m m.target } := by
  rw [turnMoveEnds_eq, settledFrame_of_turn hm hp]
  rfl

/-- One step of the axis's own sign is emitted, and there is one less to emit (R62). -/
theorem emitStep_of_move {s : State} {m : Move} (hm : s.frame.move = some m) :
    emitStep .x s = { s with frame := { s.frame with
      stepX := s.frame.stepX + m.leftX.sign, move := some { m with leftX := m.leftX - m.leftX.sign } } } ∧
    emitStep .y s = { s with frame := { s.frame with
      stepY := s.frame.stepY + m.leftY.sign, move := some { m with leftY := m.leftY - m.leftY.sign } } } := by
  simp [emitStep, hm, State.modFrame]

/-- With no move in progress there is no step to emit and no turn move to complete (R62). -/
theorem emitStep_of_none {s : State} (h : s.frame.move = none) (a : Axis) : emitStep a s = s := by
  simp [emitStep, State.modFrame, h]

theorem turnMoveEnds_of_none {s : State} (h : s.frame.move = none) : turnMoveEnds s = s := by
  simp [turnMoveEnds, h]

/-! ### The end of a chunk (R63, R76) -/

/-- The purposes of the moves that are made chunk by chunk (R63). -/
def chunkedPurposes : List Purpose := [.frameOut, .returnMove, .homingEnd, .stepMove, .firstMove]

/-- The state with the frame at the end of the chunk of move m. -/
def State.chunkMade (m : Move) (s : State) : State := { s with frame := s.frame.arrived m m.chunk }

/-- The same for a frame-out or a return move, with the offset brought along (R76). -/
def State.offsetMade (m : Move) (s : State) : State :=
  { s with frame := { s.frame.arrived m m.chunk with offset := m.chunk.sub s.designPoint } }

/-- The state at the end of the chunk of move m, by the move's purpose (R63, R76). -/
def State.atChunkEnd (m : Move) (s : State) : State :=
  if m.purpose = .frameOut ∨ m.purpose = .returnMove then s.offsetMade m else s.chunkMade m

theorem atChunkEnd_of_offset {m : Move} (h : m.purpose = .frameOut ∨ m.purpose = .returnMove) (s : State) :
    s.atChunkEnd m = s.offsetMade m := if_pos h

theorem atChunkEnd_of_other {m : Move} (h : ¬ (m.purpose = .frameOut ∨ m.purpose = .returnMove)) (s : State) :
    s.atChunkEnd m = s.chunkMade m := if_neg h

theorem atChunkEnd_eq (m : Move) (s : State) : s.atChunkEnd m = { s with
    frame := if m.purpose = .frameOut ∨ m.purpose = .returnMove then
      { s.frame.arrived m m.chunk with offset := m.chunk.sub s.designPoint } else s.frame.arrived m m.chunk } := by
  unfold State.atChunkEnd
  split <;> rfl

section
variable {s : State} {m : Move} (hm : s.frame.move = some m)
include hm

/-- A chunk completes: the frame is at its end, and the move ends there or its next chunk begins (R63, R76). -/
theorem chunkEnds_eq (hp : m.purpose ∈ chunkedPurposes) : chunkEnds s =
    if m.chunk = m.target ∨ m.endsWithChunk then chunkedMoveEnds m (s.atChunkEnd m)
    else (s.atChunkEnd m).modFrame (Frame.lay ((s.atChunkEnd m).chunkMove m.purpose m.target m.turn m.abort)) := by
  have hmade : (if m.purpose = .frameOut ∨ m.purpose = .returnMove then offsetToFrame (arriveAt m.chunk m s)
      else arriveAt m.chunk m s) = s.atChunkEnd m := rfl
  simp only [chunkEnds, hm]
  split
  case h_4 => rw [hmade]
  all_goals next hturn => exact absurd hp (by rw [hturn]; decide)

/-- Short of its target a move goes on with its next chunk, unless an abort ends it there (R63, R80). -/
theorem chunkEnds_goesOn (hp : m.purpose ∈ chunkedPurposes) (hne : m.chunk ≠ m.target)
    (habort : m.abort = none ∨ m.purpose = .stepMove ∨ m.purpose = .firstMove) :
    ∃ m', chunkEnds s = { s with frame := (s.atChunkEnd m).frame.lay m' } ∧
      s.LaysChunk m.purpose m.chunk m.target m' ∧ m'.turn = m.turn ∧ m'.abort = m.abort := by
  have hwhole : ¬ (m.chunk = m.target ∨ m.endsWithChunk) := by
    simp only [hne, false_or, Move.endsWithChunk]
    rcases habort with h | h | h <;> simp [h]
  rw [chunkEnds_eq hm hp, if_neg hwhole, atChunkEnd_eq]
  exact ⟨_, rfl, ⟨rfl, rfl, by dsimp only; split <;> rfl, by dsimp only; split <;> rfl⟩, rfl, rfl⟩

/-- At its target a move ends; an abort ends an offset move and the end move of HOME with any chunk (R63, R74, R80). -/
theorem chunkEnds_ends (hp : m.purpose ∈ chunkedPurposes)
    (h : m.chunk = m.target ∨ (m.abort ≠ none ∧ m.purpose ∈ [.frameOut, .returnMove, .homingEnd])) :
    chunkEnds s = chunkedMoveEnds m (s.atChunkEnd m) := by
  rw [chunkEnds_eq hm hp, if_pos]
  refine h.imp id fun ⟨habort, hpurpose⟩ => ?_
  obtain ⟨who, hwho⟩ := Option.ne_none_iff_exists'.mp habort
  simp only [List.mem_cons, List.not_mem_nil, or_false] at hpurpose
  rcases hpurpose with h | h | h <;> simp [Move.endsWithChunk, hwho, h]

end

end Sys2Proof.Machine
end

section
/-! PROOFS. The moves of an operation end (R73, R74, R76, R79, R80). -/

namespace Sys2Proof.Machine

/-- The state in which the operation op has ended with this result and detail: the slot is empty and OP_DONE is raised (R102, R204). -/
def State.opEnded (op : Op) (result : Byte) (detail : List Byte) (s : State) : State :=
  raiseNotice srcOpDone s.store.cursor (u8 op.kind.value ++ u8 op.starter.value ++ [result] ++ detail)
    { s with run := { s.run with slot := none } }

/-- The result of an operation whose move m ends: OK, or ABORTED at a marked abort (R74, R80). -/
def Move.result (m : Move) : OpResult := if m.abort.isSome then .aborted else .ok

theorem Move.result_value (m : Move) : BitVec.ofNat 8 m.result.value = (if m.abort = none then 0 else 2 : Byte) := by
  unfold Move.result
  cases m.abort <;> rfl

section
variable {s : State} {m : Move} {op : Op} (hslot : s.run.slot = some op)
include hslot

theorem endOperation_opEnded (r : OpResult) (detail : List Byte) :
    endOperation r detail s = s.opEnded op (BitVec.ofNat 8 r.value) detail := by
  rw [endOperation_of_slot hslot, u8_eq r.value]
  rfl

variable (hm : s.frame.move = some m)
include hm

/-- FRAME OUT and FRAME RETURN end with the offset reached (R76, R77, R80). -/
theorem chunkEnds_offset (hp : m.purpose = .frameOut ∨ (m.purpose = .returnMove ∧ s.run.work ≠ some .returnMove))
    (hend : m.chunk = m.target ∨ m.abort ≠ none) :
    chunkEnds s = (s.offsetMade m).opEnded op (if m.abort = none then 0 else 2)
      (i32 (m.chunk.sub s.designPoint).x ++ i32 (m.chunk.sub s.designPoint).y) := by
  have hpurpose : m.purpose = .frameOut ∨ m.purpose = .returnMove := hp.imp id And.left
  have hends : chunkedMoveEnds m (s.offsetMade m) = endOffsetMove m.result (s.offsetMade m) := by
    rcases hp with h | ⟨h, hwork⟩
    · simp only [chunkedMoveEnds, h, Move.result]
    · simp only [chunkedMoveEnds, h, Move.result]
      exact if_neg hwork
  rw [chunkEnds_ends hm (by rcases hpurpose with h | h <;> rw [h] <;> decide)
      (hend.imp id fun h => ⟨h, by rcases hpurpose with h | h <;> rw [h] <;> decide⟩),
    atChunkEnd_of_offset hpurpose, hends, endOffsetMove, endOperation_opEnded (s := s.offsetMade m) hslot, m.result_value]
  rfl

/-- A step move with an abort marked ends its operation ABORTED when it is whole (R80). -/
theorem chunkEnds_stepAborted (hp : m.purpose = .stepMove) (hend : m.chunk = m.target) (habort : m.abort ≠ none) :
    chunkEnds s = ({ s with frame := { s.frame.arrived m m.chunk with dwell := none } } : State).opEnded op 2
      [0, 0, 0, 0, 0, 0, 0, 0, 0] := by
  have hsome : m.abort.isSome = true := Option.isSome_iff_ne_none.mpr habort
  rw [chunkEnds_ends hm (by rw [hp]; decide) (.inl hend), atChunkEnd_of_other (by rw [hp]; decide)]
  simp only [chunkedMoveEnds, hp, hsome, if_true, endStepwise]
  exact endOperation_opEnded (s := { s with frame := { s.frame.arrived m m.chunk with dwell := none } }) hslot _ _

/-- HOME ends with its end move, ABORTED with the offset where the frame stands (R73, R74). -/
theorem chunkEnds_homingEnd {h : Homing} (hh : s.frame.homing = some h) (hat : h.atEnd = true) (hp : m.purpose = .homingEnd)
    (hend : m.chunk = m.target ∨ m.abort ≠ none) :
    chunkEnds s = ({ s with frame := { (if m.abort = none then s.frame.arrived m m.chunk else (s.offsetMade m).frame) with
        homing := none } } : State).opEnded op (if m.abort = none then 0 else 2)
      (u32 h.searchX ++ u32 h.backX ++ u32 h.searchY ++ u32 h.backY ++ [0, 0, 0] ++ (if m.abort = none then [0, 0] else [1, 2])) := by
  rw [chunkEnds_ends hm (by rw [hp]; decide) (hend.imp id fun h => ⟨h, by rw [hp]; decide⟩), atChunkEnd_of_other (by rw [hp]; decide)]
  have hends (r : OpResult) (u : State) (hu : u.run.slot = some op) (hhoming : u.frame.homing = some h) :
      endHome r u = ({ u with frame := { u.frame with homing := none } } : State).opEnded op (BitVec.ofNat 8 r.value)
        (homeDetail h r) := by
    simp only [endHome, hhoming]
    exact endOperation_opEnded (s := { u with frame := { u.frame with homing := none } }) hu _ _
  cases habort : m.abort with
  | none =>
    simp only [chunkedMoveEnds, hp, habort, Option.isSome_none, Bool.false_eq_true, if_false, if_true]
    rw [hends .ok (s.chunkMade m) hslot hh]
    simp [homeDetail, whenBytes, flagByte]
    rfl
  | some who =>
    simp only [chunkedMoveEnds, hp, habort, Option.isSome_some, reduceCtorEq, if_false, if_true]
    rw [hends .aborted (offsetToFrame (s.chunkMade m)) hslot hh]
    simp [homeDetail, whenBytes, flagByte, Homing.part, hat]
    rfl

end

/-! ### The dwell after a step move (R79) -/

section
variable {s : State} {m : Move} (hm : s.frame.move = some m) (hp : m.purpose = .stepMove) (hend : m.chunk = m.target)
  (habort : m.abort = none)
include hm hp hend habort

theorem chunkEnds_step : chunkEnds s = startDwell (s.chunkMade m) := by
  rw [chunkEnds_ends hm (by rw [hp]; decide) (.inl hend), atChunkEnd_of_other (by rw [hp]; decide)]
  simp [chunkedMoveEnds, hp, habort]

theorem chunkEnds_dwells (hdwell : 0 < s.nat .backDwell) :
    chunkEnds s = { s with frame := { s.frame.arrived m m.chunk with dwell := some (s.nat .backDwell) } } := by
  rw [chunkEnds_step hm hp hend habort]
  exact if_neg (Nat.ne_of_gt hdwell)

/-- A dwell of 0 ms expires at once (R79). -/
theorem chunkEnds_noDwell (hdwell : s.nat .backDwell = 0) (hnone : s.frame.dwell = none) :
    chunkEnds s = dwellExpires { s with frame := { s.frame.arrived m m.chunk with dwell := some 0 } } := by
  have hsame : ({ s.frame.arrived m m.chunk with dwell := none } : Frame) = s.frame.arrived m m.chunk := by rw [← hnone]; rfl
  rw [chunkEnds_step hm hp hend habort]
  calc startDwell (s.chunkMade m) = nextStep (s.chunkMade m) := if_pos hdwell
    _ = nextStep { s with frame := { s.frame.arrived m m.chunk with dwell := none } } := by rw [hsame]; rfl
    _ = _ := rfl

end

end Sys2Proof.Machine
end

section
/-! PROOFS. The moves of a start end: the first move, the return, and the stop that waited for one of them (R66, R78, R87, R88, R96). -/

namespace Sys2Proof.Machine

/-! ### The first move (R50, R66, R87) -/

theorem chunkEnds_firstMove {s : State} {m : Move} (hm : s.frame.move = some m) (hp : m.purpose = .firstMove) (hend : m.chunk = m.target) :
    chunkEnds s = firstMoveComplete (s.chunkMade m) := by
  rw [chunkEnds_ends hm (by rw [hp]; decide) (.inl hend), atChunkEnd_of_other (by rw [hp]; decide)]
  simp only [chunkedMoveEnds, hp]

/-- In RUNNING the first move makes the phase SEWING, and the held demand goes onto the line. -/
theorem firstMoveComplete_of_running {s : State} (hstate : s.run.state = .running) (hheld : s.planner.held = true)
    (hrestart : s.link.restart = .none) (hline : s.shaft.line = 0) (hdemand : 0 < s.planner.demand) :
    firstMoveComplete s = { s with
      run := { s.run with work := none, phase := some .sewing }
      planner := { s.planner with held := false }
      shaft := { s.shaft with line := s.planner.demand, brake := false, stall := some 0 } } := by
  let u : State := { s with
    run := { s.run with work := none, phase := some .sewing }, planner := { s.planner with held := false } }
  have hplaced : firstMoveComplete s = placeLine s.planner.demand u := by
    simp only [firstMoveComplete, State.modRun, State.modPlanner, hstate, hheld, if_true, u]
  rw [hplaced]
  exact placeLine_of_zero (s := u) hrestart hline hdemand

/-- In STOPPING it is the end of the work that the stop waits for (R88). -/
theorem firstMoveComplete_of_stopping {s : State} (hstate : s.run.state = .stopping) :
    firstMoveComplete s = tryEndStop (s.modRun fun r => { r with work := none }) := by
  simp [firstMoveComplete, hstate]

/-! ### The steps after the return of a START (R78, R87) -/

section
variable {s : State}

theorem sensorStep_tests (h : s.untested ≠ 0) : sensorStep s = { s with
    run := { s.run with work := some .sensorTest }
    thread := { s.thread with testLoad := s.untested, test := some ⟨s.untested, s.pins.tension, 50⟩ } } := by
  rw [sensorStep, if_neg h]
  rfl

variable (htested : s.untested = 0)
include htested

theorem sensorStep_changes {n : Nat} (hplan : s.planNeedle = some n) (hsettled : s.needle.settled ≠ some n) (hup : s.restsUp = true) :
    sensorStep s = { s with
      run := { s.run with work := some .needle }
      needle := { s.needle with
        target := n, request := true, watch := none
        change := some ⟨.start, n, s.run.starter, s.nat .needleTimeout, s.nat .needleTimeout, s.clock⟩ } } := by
  rw [sensorStep, if_pos htested]
  simp [needleStep, hplan, hsettled, hup, beginChange, State.modRun, State.modNeedle]

theorem sensorStep_calls (hplan : ∀ n, s.planNeedle = some n → s.needle.settled = some n) : sensorStep s = call .nothing s := by
  rw [sensorStep, if_pos htested, needleStep]
  cases hneedle : s.planNeedle with
  | none => rfl
  | some n => exact if_pos (hplan n hneedle)

end

/-! ### The return of a START (R78, R88) -/

section
variable {s : State} {m : Move} (hm : s.frame.move = some m) (hp : m.purpose = .returnMove) (hwork : s.run.work = some .returnMove)
  (hend : m.chunk = m.target ∨ m.abort ≠ none)
include hm hp hwork hend

theorem chunkEnds_return : chunkEnds s = returnEnds m (s.offsetMade m) := by
  rw [chunkEnds_ends hm (by rw [hp]; decide) (hend.imp id fun h => ⟨h, by rw [hp]; decide⟩), atChunkEnd_of_offset (.inr hp)]
  simp only [chunkedMoveEnds, hp]
  exact if_pos hwork

/-- A return that comes to the design point goes on with the start (R78, R87). -/
theorem chunkEnds_returned (hhome : m.chunk = s.designPoint) (hstate : s.run.state = .running) :
    chunkEnds s = sensorStep { s with
      frame := { s.frame.arrived m m.chunk with offset := .zero }, run := { s.run with work := none } } := by
  have hzero : m.chunk.sub s.designPoint = .zero := by rw [hhome]; simp [Pt.sub, Pt.zero]
  have hmade : s.offsetMade m = { s with frame := { s.frame.arrived m m.chunk with offset := .zero } } := by
    rw [State.offsetMade, hzero]
  rw [chunkEnds_return hm hp hwork hend, hmade]
  exact (if_pos hstate).trans (if_pos rfl)

/-- A return of a running start that is cut short of the design point is the cause MOVE_LATE (R78, R93). -/
theorem chunkEnds_returnLate (haway : m.chunk ≠ s.designPoint) (hstate : s.run.state = .running) :
    chunkEnds s = takeCause .moveLate s.store.cursor ((s.offsetMade m).modRun fun r => { r with work := none }) := by
  have hoff : m.chunk.sub s.designPoint ≠ .zero := fun h => haway <| by
    simp only [Pt.sub, Pt.zero, Pt.mk.injEq, Int.sub_eq_zero] at h
    exact congrArg₂ Pt.mk h.1 h.2
  rw [chunkEnds_return hm hp hwork hend]
  exact (if_pos hstate).trans (if_neg hoff)

/-- A return that a stop waited for ends the stop, but where needle-down has cut it short of the design point (R78, R88, R96). -/
theorem chunkEnds_returnStopped (hstate : s.run.state = .stopping) (hwhole : m.abort = some .needleDown → m.chunk = s.designPoint) :
    chunkEnds s = tryEndStop ((s.offsetMade m).modRun fun r => { r with work := none }) := by
  have hquiet : ¬ (m.abort = some .needleDown ∧ m.chunk.sub s.designPoint ≠ .zero) := fun ⟨habort, hoff⟩ =>
    hoff (by rw [hwhole habort]; simp [Pt.sub, Pt.zero])
  have hnot : s.run.state ≠ .running := by rw [hstate]; decide
  rw [chunkEnds_return hm hp hwork hend]
  exact (if_neg hnot).trans (if_neg hquiet)

end

/-! ### The stop that ends with it (R88, R92, R96) -/

/-- A stop whose stopped report has been taken ends once no work is in progress (R88, R96). -/
theorem tryEndStop_ends {s : State} {r : StoppedReport} (hstate : s.run.state = .stopping) (hrested : s.run.rested = some r)
    (hwork : s.run.work = none) : tryEndStop s = endStop r s := by
  simp [tryEndStop, hstate, hrested, hwork]

/-- What the end r of the stop s in HALTED leaves in t (R92, R96). -/
structure State.HaltsIn (r : StoppedReport) (s t : State) : Prop where
  run : ∃ wait, t.run = { s.run with
    state := .halted, phase := none, outstanding := none, work := none, rested := none, inject := none, resume := wait
    report := { s.run.report with
      kind := s.run.kind, angle := r.angle, verdict := some r.verdict, overrun := r.overrun
      incomplete := s.run.outstanding.map Turn.index, discarded := s.run.inject.or s.run.report.discarded } }
  frame : t.frame = s.frame
  shaft : t.shaft = s.shaft
  cursor : t.store.cursor = s.store.cursor
  pending : t.notices.sources[srcStop].pending = true

theorem endStop_halts {s : State} (r : StoppedReport) (hstate : s.run.state = .stopping) (hkind : s.run.kind ≠ some .emergency)
    (hcause : s.run.report.primary.map Recorded.cause ≠ some .colour) : s.HaltsIn r (endStop r s) := by
  obtain ⟨u, hreports, hu⟩ := endStop_without_colour r hstate (.inr hcause)
  rw [if_neg hkind] at hreports
  obtain ⟨-, -, hshaft, hframe, -, -⟩ := machineSide_eq_iff.mp hreports.side
  have hcursor := congrArg (fun x : LowSide => x.store.cursor) hreports.rests.lowSide
  rw [hu]
  exact ⟨⟨_, by rw [hreports.run_eq]⟩, hframe, hshaft, hcursor, hreports.pending⟩

/-- A brake order with the shaft at rest has its stopped report at once, with no overrun (R31, R34). -/
theorem brakeOrder_of_stopped {s : State} (h : s.shaft.motion = .stopped) (k : BrakeOrder) : brakeOrder k s =
    deliverReport (({ s with shaft := s.shaft.braked } : State).stoppedReport 0) { s with shaft := s.shaft.braked } := by
  have hstill : (dropLine s).shaft.motion = .stopped := h
  simp only [brakeOrder, hstill, if_true, assertBrake_dropLine]

/-- MOVE_LATE with the shaft at rest and no work in progress ends a start: its stop is reported at once (R66, R88, R92, R93, R96). -/
theorem takeCause_moveLate_report {s : State} (hstate : s.run.state = .running) (hphase : s.run.phase = some .starting)
    (hwork : s.run.work = none) (hmotion : s.shaft.motion = .stopped) (i : Nat) :
    let t := takeCause .moveLate i s
    t.run.work = none ∧ t.run.report.secondary = s.run.report.secondary ∧ t.run.report.angle = s.angle ∧ t.run.report.overrun = 0 ∧
    t.notices.sources[srcStop].pending = true ∧ t.store.cursor = s.store.cursor := by
  intro t
  let v := recordPrimary .moveLate i s
  have hrun : v.run = { s.run with
      state := .stopping, kind := some .quick, report := { s.run.report with primary := some ⟨.moveLate, i, s.clock⟩ } } := by
    rw [show v = recordPrimary .moveLate i s from rfl, recordPrimary, setRunState_run]
    rfl
  have hv : v = { s with run := v.run, notices := v.notices } := (records_recordPrimary .moveLate i s).eq
  have hvshaft : v.shaft = s.shaft := by rw [hv]
  have hvwork : v.run.work = none := by rw [hrun]; exact hwork
  let b : State := { zeroDemand v with shaft := v.shaft.braked }
  let w := (cancelPulses b).modRun fun x => { x with rested := some (b.stoppedReport 0) }
  have hwstate : w.run.state = .stopping := congrArg Run.state hrun
  have ht : t = endStop (b.stoppedReport 0) w := by
    have hact : t = endStart v := by
      have hstarting : v.run.phase = some .starting := by rw [hrun]; exact hphase
      have hquick : Cause.isEmergency .moveLate = false := rfl
      simp only [t, takeCause, hstate, hquick, Bool.false_eq_true, if_false, actOnRun]
      rw [show recordPrimary .moveLate i s = v from rfl, hstarting]
      rfl
    have hbrake : endStart v = brakeOrder .atOnce (zeroDemand v) := by
      simp only [endStart]
      rw [show (zeroDemand v).run.work = none from hvwork]
    have hreport : deliverReport (b.stoppedReport 0) b = tryEndStop w := if_pos hwstate
    rw [hact, hbrake, brakeOrder_of_stopped (s := zeroDemand v) (by exact (congrArg Shaft.motion hvshaft).trans hmotion)]
    exact hreport.trans (tryEndStop_ends hwstate rfl hvwork)
  have hkind : w.run.kind = some .quick := congrArg Run.kind hrun
  have hprimary : w.run.report.primary = some ⟨.moveLate, i, s.clock⟩ := congrArg (fun r : Run => r.report.primary) hrun
  have hhalts := endStop_halts (s := w) (b.stoppedReport 0) hwstate (by rw [hkind]; decide) (by simp [hprimary])
  rw [← ht] at hhalts
  obtain ⟨wait, htrun⟩ := hhalts.run
  have hreport : w.run.report = v.run.report := rfl
  refine ⟨by rw [htrun], by rw [htrun, hreport, hrun], ?_, by rw [htrun]; rfl, hhalts.pending, ?_⟩
  · rw [htrun]
    have hangle : b.angle = v.angle := rfl
    exact hangle.trans (by rw [hv]; rfl)
  · have hcursor := congrArg (fun x : State => x.store.cursor) hv
    exact hhalts.cursor.trans hcursor

/-- A return of a start that is cut short with the shaft at rest ends the start: MOVE_LATE, HALTED (R78, R88, R96). -/
theorem chunkEnds_returnCut {s : State} {m : Move} (hm : s.frame.move = some m) (hp : m.purpose = .returnMove)
    (hwork : s.run.work = some .returnMove) (habort : m.abort ≠ none) (haway : m.chunk ≠ s.designPoint)
    (hstate : s.run.state = .running) (hphase : s.run.phase = some .starting) (hmotion : s.shaft.motion = .stopped) :
    let t := chunkEnds s
    t.frame = (s.offsetMade m).frame ∧
    t.run.state = .halted ∧ t.run.phase = none ∧ t.run.work = none ∧
    t.run.report.primary = some ⟨.moveLate, s.store.cursor, s.clock⟩ ∧ t.run.report.kind = some .quick ∧
    t.run.report.secondary = s.run.report.secondary ∧ t.run.report.angle = s.angle ∧ t.run.report.overrun = 0 ∧
    t.planner.demand = 0 ∧ t.shaft.line = 0 ∧ t.shaft.brake = true ∧
    t.notices.sources[srcStop].pending = true ∧ t.store.cursor = s.store.cursor := by
  intro t
  let u := (s.offsetMade m).modRun fun r => { r with work := none }
  have ht : t = takeCause .moveLate s.store.cursor u := chunkEnds_returnLate hm hp hwork (.inr habort) haway hstate
  obtain ⟨hhalted, hnoPhase, hprimary, hkind, -, -, hdemand, hline, hbrake, hframe⟩ :=
    takeCause_moveLate (s := u) hstate hphase rfl hmotion s.store.cursor
  obtain ⟨hnoWork, hsecondary, hangle, hoverrun, hpending, hcursor⟩ :=
    takeCause_moveLate_report (s := u) hstate hphase rfl hmotion s.store.cursor
  rw [ht]
  exact ⟨hframe, hhalted, hnoPhase, hnoWork, hprimary, hkind, hsecondary, hangle, hoverrun, hdemand, hline, hbrake, hpending, hcursor⟩

/-- The first move or the return that a stop waited for ends the stop (R88, R96). -/
theorem chunkEnds_endsStop {s : State} {m : Move} {r : StoppedReport} (hm : s.frame.move = some m)
    (hwaited : (m.purpose = .firstMove ∧ m.chunk = m.target) ∨
      ((m.purpose = .returnMove ∧ s.run.work = some .returnMove) ∧ (m.chunk = m.target ∨ m.abort ≠ none) ∧
        (m.abort = some .needleDown → m.chunk = s.designPoint)))
    (hstate : s.run.state = .stopping) (hrested : s.run.rested = some r) (hkind : s.run.kind ≠ some .emergency)
    (hcause : s.run.report.primary.map Recorded.cause ≠ some .colour) :
    State.HaltsIn r { s with
      frame := if m.purpose = .firstMove then s.frame.arrived m m.chunk else (s.offsetMade m).frame
      run := { s.run with work := none } } (chunkEnds s) := by
  let u : State := { s with
    frame := if m.purpose = .firstMove then s.frame.arrived m m.chunk else (s.offsetMade m).frame, run := { s.run with work := none } }
  have hends : chunkEnds s = tryEndStop u := by
    rcases hwaited with ⟨hp, hend⟩ | ⟨⟨hp, hwork⟩, hend, hwhole⟩
    · rw [chunkEnds_firstMove hm hp hend, firstMoveComplete_of_stopping (by exact hstate)]
      simp only [u, hp, if_true]
      rfl
    · rw [chunkEnds_returnStopped hm hp hwork hend hstate hwhole]
      simp only [u, hp, reduceCtorEq, if_false]
      rfl
  rw [hends, tryEndStop_ends (s := u) hstate hrested rfl]
  exact endStop_halts (s := u) r hstate hkind hcause

end Sys2Proof.Machine
end

section
/-! PROOFS. The steps of HOME: its searches and back-offs, their budgets, and the reference found (R72 to R74). -/

namespace Sys2Proof.Machine

/-! ### The steps counted and the detail of HOME (R72 to R74) -/

/-- The homing record with the move just made counted, a search move as many steps as its axis makes in one and a back-off move one. -/
def Homing.tallied (unit : Axis → Nat) (h : Homing) : Homing := { h with
  searchX := if h.axis = .x ∧ h.backOff = false then h.searchX + unit .x else h.searchX
  searchY := if h.axis = .y ∧ h.backOff = false then h.searchY + unit .y else h.searchY
  backX := if h.axis = .x ∧ h.backOff = true then h.backX + 1 else h.backX
  backY := if h.axis = .y ∧ h.backOff = true then h.backY + 1 else h.backY }

theorem counted_eq_tallied (unit : Axis → Nat) (h : Homing) :
    h.counted (if h.backOff then 1 else unit h.axis) = h.tallied unit := by
  cases haxis : h.axis <;> cases hback : h.backOff <;> simp [Homing.counted, Homing.tallied, haxis, hback]

/-- The steps that the detail of HOME gives (R73). -/
def Homing.stepBytes (h : Homing) : List Byte := u32 h.searchX ++ u32 h.backX ++ u32 h.searchY ++ u32 h.backY

theorem homeDetail_ok (h : Homing) : homeDetail h .ok = h.stepBytes ++ [0, 0, 0, 0, 0] := by
  simp [homeDetail, Homing.stepBytes, whenBytes, flagByte]

section
variable {h : Homing} (hat : h.atEnd = false)
include hat

theorem homeDetail_failed : homeDetail h .failed =
    h.stepBytes ++ [1, if h.axis = .x then 0 else 1, if h.backOff then 1 else 0, 0, 0] := by
  cases haxis : h.axis <;> cases hback : h.backOff <;>
    simp [homeDetail, Homing.stepBytes, whenBytes, flagByte, Homing.part, axisValue, hat, haxis, hback]

theorem homeDetail_aborted : homeDetail h .aborted = h.stepBytes ++ [0, 0, 0, 1, if h.backOff then 1 else 0] := by
  cases hback : h.backOff <;> simp [homeDetail, Homing.stepBytes, whenBytes, flagByte, Homing.part, hat, hback]

end

/-! ### What follows a homing move (R72) -/

section
variable {h : Homing} {s : State}

theorem afterHomingMove_fails (hclosed : s.switchClosed h.axis = h.backOff) (hspent : h.spent = true) :
    afterHomingMove h s = endHome .failed s := by
  cases hback : h.backOff <;> simp [afterHomingMove, hclosed, hback, hspent]

theorem afterHomingMove_goesOn (hclosed : s.switchClosed h.axis = h.backOff) (hspent : ¬ h.spent = true) :
    afterHomingMove h s = homingMove h s := by
  cases hback : h.backOff <;> simp [afterHomingMove, hclosed, hback, hspent]

theorem afterHomingMove_turns (hclosed : s.switchClosed h.axis = true) (hback : h.backOff = false) :
    afterHomingMove h s = homingMove { h with backOff := true } s := by
  simp [afterHomingMove, hclosed, hback]

theorem afterHomingMove_nextAxis (hclosed : s.switchClosed h.axis = false) (hback : h.backOff = true) (haxis : h.axis = .y) :
    afterHomingMove h s = homingMove { h with axis := .x, backOff := s.pins.switchX } s := by
  rw [haxis] at hclosed
  simp [afterHomingMove, hclosed, hback, haxis, beginAxis]
  rfl

theorem afterHomingMove_found (hclosed : s.switchClosed h.axis = false) (hback : h.backOff = true) (haxis : h.axis = .x) :
    afterHomingMove h s = homeFound h s := by
  rw [haxis] at hclosed
  simp [afterHomingMove, hclosed, hback, haxis]

end

/-! ### A homing move completes (R72 to R74) -/

/-- The state with homing move m made, and homing standing at k. -/
def State.legMade (m : Move) (k : Homing) (s : State) : State :=
  { s with frame := { s.frame.arrived m s.frame.coord with homing := some k } }

theorem legMade_settledFrame (m : Move) (k : Homing) (s : State) : (s.legMade m k).settledFrame = (s.legMade m k).frame :=
  settledFrame_of_noTurn fun _ h => nomatch h

/-- The frame with the reference applied at the found points (R73). -/
def State.referenceFrame (s : State) (m : Move) : Frame := { s.frame.arrived m ⟨s.par .refX, s.par .refY⟩ with
  stepX := stepTarget (s.par .pitchX) (s.par .refX), stepY := stepTarget (s.par .pitchY) (s.par .refY)
  ref := .referenced, homing := none }

/-- The state with the reference applied, and homing at its end move. -/
def State.referenced (m : Move) (k : Homing) (s : State) : State :=
  { s with frame := { s.referenceFrame m with homing := some { k with atEnd := true } } }

section
variable {s : State} {m : Move} {h : Homing} {op : Op}

theorem homingStepEnds_eq (hm : s.frame.move = some m) (hh : s.frame.homing = some h)
    (hp : m.purpose = .homingSearch ∨ m.purpose = .homingBackOff) : homingStepEnds s =
    let k := h.tallied s.searchSteps
    if m.abort.isSome then endHome .aborted (s.legMade m k) else afterHomingMove k (s.legMade m k) := by
  simp only [homingStepEnds, hm, hh, hp, if_true, counted_eq_tallied]
  rfl

/-- HOME ends where the frame stands, with the steps made (R72, R74). -/
theorem endHome_legMade (hslot : s.run.slot = some op) (r : OpResult) (k : Homing) : endHome r (s.legMade m k) =
    ({ s with frame := { s.frame.arrived m s.frame.coord with homing := none } } : State).opEnded op (BitVec.ofNat 8 r.value)
      (homeDetail k r) :=
  endOperation_opEnded (s := { s with frame := { s.frame.arrived m s.frame.coord with homing := none } }) hslot _ _

/-- The next homing move of a homing at j begins (R72). -/
theorem homingMove_legMade (j k : Homing) : ∃ m', homingMove j (s.legMade m k) = { s with
      frame := { (s.frame.arrived m s.frame.coord).lay m' with ref := .unreferenced, homing := some j } } ∧
    m'.purpose = (if j.backOff then .homingBackOff else .homingSearch) ∧ m'.abort = none ∧
    m'.leftX = (if j.axis = .x then if j.backOff then 1 else -(s.searchSteps j.axis : Int) else 0) ∧
    m'.leftY = (if j.axis = .y then if j.backOff then 1 else -(s.searchSteps j.axis : Int) else 0) := by
  rw [homingMove_eq, legMade_settledFrame]
  exact ⟨_, rfl, rfl, rfl, rfl, rfl⟩

theorem homeFound_legMade (k : Homing) : homeFound k (s.legMade m k) =
    if k.toDesign then
      let b := beginChunked .homingEnd s.designPoint none ((s.referenced m k).modFrame fun f => { f with offset := .zero })
      if b.2 then endHome .ok b.1 else b.1
    else endHome .ok (s.referenced m k) := rfl

/-- With no design armed the reference is the end of HOME (R73). -/
theorem homeFound_ends (hslot : s.run.slot = some op) {k : Homing} (hidle : k.toDesign = false) :
    homeFound k (s.legMade m k) = ({ s with frame := s.referenceFrame m } : State).opEnded op 0 (k.stepBytes ++ [0, 0, 0, 0, 0]) := by
  rw [homeFound_legMade, hidle]
  exact (endOperation_opEnded (s := { s with frame := s.referenceFrame m }) hslot .ok
    (homeDetail { k with atEnd := true } .ok)).trans (by rw [homeDetail_ok]; rfl)

/-- With the design point at the reference HOME has no end move to make (R73). -/
theorem homeFound_atDesign (hslot : s.run.slot = some op) {k : Homing} (hdesign : k.toDesign = true)
    (hat : s.designPoint = ⟨s.par .refX, s.par .refY⟩) : homeFound k (s.legMade m k) =
      ({ s with frame := { s.referenceFrame m with offset := .zero } } : State).opEnded op 0 (k.stepBytes ++ [0, 0, 0, 0, 0]) := by
  let v := (s.referenced m k).modFrame fun f => { f with offset := .zero }
  have hfree : v.frame.move = none := rfl
  have hthere : v.settledFrame.coord = s.designPoint := by
    rw [settledFrame_of_noTurn (by simp [hfree]), hat]
    rfl
  rw [homeFound_legMade, if_pos hdesign, beginChunked_eq, if_pos hthere, turnMoveEnds_of_none hfree]
  exact (endOperation_opEnded (s := { s with frame := { s.referenceFrame m with offset := .zero } }) hslot .ok
    (homeDetail { k with atEnd := true } .ok)).trans (by rw [homeDetail_ok]; rfl)

/-- With the design point elsewhere the end move begins, with the offset 0 (R73). -/
theorem homeFound_lays {k : Homing} (hdesign : k.toDesign = true) (haway : s.designPoint ≠ ⟨s.par .refX, s.par .refY⟩) :
    ∃ m', homeFound k (s.legMade m k) = { s with frame := Frame.lay m' { s.referenceFrame m with
        offset := .zero, homing := some { k with atEnd := true } } } ∧
      s.LaysChunk .homingEnd ⟨s.par .refX, s.par .refY⟩ s.designPoint m' ∧ m'.abort = none := by
  let v := (s.referenced m k).modFrame fun f => { f with offset := .zero }
  have hfree : v.frame.move = none := rfl
  have hsettled : v.settledFrame = v.frame := settledFrame_of_noTurn (by simp [hfree])
  have hoff : v.settledFrame.coord ≠ s.designPoint := by rw [hsettled]; exact haway.symm
  obtain ⟨m', hm', habort, -, hlays⟩ := beginChunked_lays (p := .homingEnd) (turn := none) hoff
  rw [hsettled] at hm' hlays
  refine ⟨m', ?_, hlays, habort⟩
  rw [homeFound_legMade, if_pos hdesign]
  dsimp only
  rw [hm']
  rfl


/-! ### HOMING_STEP_COMPLETE by what it finds (R72, R74) -/

section
variable (hm : s.frame.move = some m) (hh : s.frame.homing = some h)
  (hp : m.purpose = .homingSearch ∨ m.purpose = .homingBackOff)
include hm hh hp

theorem homingStepEnds_next (habort : m.abort = none) : homingStepEnds s =
    afterHomingMove (h.tallied s.searchSteps) (s.legMade m (h.tallied s.searchSteps)) :=
  (homingStepEnds_eq hm hh hp).trans (if_neg (by simp [habort]))

/-- A homing move that goes on from the one made (R72). -/
theorem homingStepEnds_goesOn (habort : m.abort = none) {j : Homing}
    (hj : afterHomingMove (h.tallied s.searchSteps) (s.legMade m (h.tallied s.searchSteps)) =
      homingMove j (s.legMade m (h.tallied s.searchSteps))) :
    ∃ m', homingStepEnds s = { s with
        frame := { (s.frame.arrived m s.frame.coord).lay m' with ref := .unreferenced, homing := some j } } ∧
      m'.purpose = (if j.backOff then .homingBackOff else .homingSearch) ∧ m'.abort = none ∧
      m'.leftX = (if j.axis = .x then if j.backOff then 1 else -(s.searchSteps j.axis : Int) else 0) ∧
      m'.leftY = (if j.axis = .y then if j.backOff then 1 else -(s.searchSteps j.axis : Int) else 0) := by
  rw [homingStepEnds_next hm hh hp habort, hj]
  exact homingMove_legMade j _

variable (hat : h.atEnd = false) (hslot : s.run.slot = some op)
include hat hslot

/-- An abort marked for a homing move ends HOME with that move (R74). -/
theorem homingStepEnds_aborted (habort : m.abort ≠ none) : homingStepEnds s =
    ({ s with frame := { s.frame.arrived m s.frame.coord with homing := none } } : State).opEnded op 2
      ((h.tallied s.searchSteps).stepBytes ++ [0, 0, 0, 1, if h.backOff then 1 else 0]) := by
  have hstops : homingStepEnds s = endHome .aborted (s.legMade m (h.tallied s.searchSteps)) :=
    (homingStepEnds_eq hm hh hp).trans (if_pos (Option.isSome_iff_ne_none.mpr habort))
  rw [hstops, endHome_legMade hslot, homeDetail_aborted (h := h.tallied s.searchSteps) hat]
  rfl

/-- A budget used up without the switch's edge ends HOME FAILED (R72). -/
theorem homingStepEnds_fails (habort : m.abort = none) (hclosed : s.switchClosed h.axis = h.backOff)
    (hspent : (h.tallied s.searchSteps).spent = true) : homingStepEnds s =
    ({ s with frame := { s.frame.arrived m s.frame.coord with homing := none } } : State).opEnded op 1
      ((h.tallied s.searchSteps).stepBytes ++ [1, if h.axis = .x then 0 else 1, if h.backOff then 1 else 0, 0, 0]) := by
  have hover : afterHomingMove (h.tallied s.searchSteps) (s.legMade m (h.tallied s.searchSteps)) = _ :=
    afterHomingMove_fails hclosed hspent
  rw [homingStepEnds_next hm hh hp habort, hover, endHome_legMade hslot, homeDetail_failed (h := h.tallied s.searchSteps) hat]
  rfl

end

end

end Sys2Proof.Machine
end

section
/-! PROOFS. The steps of a stepwise operation at the end of a dwell, and its landing (R15, R16, R79, R137, R176, R177). -/

namespace Sys2Proof.Machine

/-! ### The state that a step of the store leaves (R13, R15, R16, R21, R45, R54) -/

/-- The state with the dwell over. -/
def State.dwellOver (s : State) : State := { s with frame := { s.frame with dwell := none } }

/-- The state with the dwell over and a step of the store made, which leaves the store as st and the list as look. -/
def State.steppedTo (s : State) (st : Store) (look : List Entry) : State :=
  { s.dwellOver with store := st, planner := { s.planner with caps := [], stopPoint := none, lookahead := look } }

/-- The records from index a to below index b. -/
def Store.between (st : Store) (a b : Nat) : List Rec := (st.records.take (b - st.retire)).drop (a - st.retire)

/-- The COLOUR records of a list. -/
def coloursOf (l : List Rec) : Nat := (l.filter fun r => decide (r = .colour)).length

/-- The store gone back to index i and position p, over the records from index j to the cursor. -/
def State.wentBack (s : State) (i j : Nat) (p : Pt) : Store := { s.store with
  cursor := i, cursorPos := p, cursorColour := s.store.cursorColour - coloursOf (s.store.between j s.store.cursor)
  lowArmed := s.store.lowArmed || decide (s.nat .lowMark ≤ s.store.fill - i) }

/-- The store gone forward to index i and position p, over the records from the cursor to below index j. -/
def State.wentForward (s : State) (i j : Nat) (p : Pt) : Store := { s.store with
  cursor := i, cursorPos := p, cursorColour := s.store.cursorColour + coloursOf (s.store.between s.store.cursor j) }

/-- A frame at no move keeps its dwell apart from what a turn move in progress does to it. -/
theorem dwellOver_settledFrame (s : State) : s.dwellOver.settledFrame = { s.settledFrame with dwell := none } := by
  unfold State.settledFrame State.dwellOver
  cases s.frame.move with
  | none => rfl
  | some m => dsimp only; split <;> rfl

theorem steppedTo_settledFrame (s : State) (st : Store) (look : List Entry) :
    (s.steppedTo st look).settledFrame = { s.settledFrame with dwell := none } := dwellOver_settledFrame s

section
variable {s : State} {b i e : Nat} {r : Rec} {d : Pt}

/-- A step back over the nearest turn record (R15). -/
theorem storeBack_to_turn (hb : s.store.retire ≤ b) (hi : b ≤ i) (hk : i < s.store.cursor)
    (hr : s.store.records[i - s.store.retire]? = some r) (hd : r.move = some d)
    (hz : ∀ x ∈ s.store.between (i + 1) s.store.cursor, x.move = none) :
    ∃ look, storeBack b s.dwellOver = (s.steppedTo (s.wentBack i (i + 1) (s.store.cursorPos.sub d)) look, some i) := by
  have hstep : s.dwellOver.store.stepBack b = _ := s.store.stepBack_to_turn b i r d hb hi hk hr hd hz
  simp only [storeBack, hstep, afterStep, if_true, rearmLowMark_eq]
  exact ⟨_, rfl⟩

/-- A step back with no turn record on the way (R15). -/
theorem storeBack_to_bound (hz : ∀ x ∈ s.store.between b s.store.cursor, x.move = none) :
    ∃ look, storeBack b s.dwellOver = (s.steppedTo (s.wentBack b b s.store.cursorPos) look, none) := by
  have hstep : s.dwellOver.store.stepBack b = _ := s.store.stepBack_to_bound b hz
  simp only [storeBack, hstep, afterStep, if_true, rearmLowMark_eq]
  exact ⟨_, rfl⟩

/-- A step forward over the nearest turn record (R16). -/
theorem storeForward_over_nearest (hb : s.store.retire ≤ s.store.cursor) (hi : s.store.cursor ≤ i) (hk : i < e)
    (hr : s.store.records[i - s.store.retire]? = some r) (hd : r.move = some d)
    (hz : ∀ x ∈ s.store.between s.store.cursor i, x.move = none) :
    ∃ look, storeForward e s.dwellOver = (s.steppedTo (s.wentForward (i + 1) i (s.store.cursorPos.add d)) look, some i) := by
  have hstep : s.dwellOver.store.stepForward e = _ := s.store.stepForward_over_turn e i r d hb hi hk hr hd hz
  simp only [storeForward, hstep, afterStep]
  exact ⟨_, rfl⟩

/-- A step forward with no turn record on the way (R16). -/
theorem storeForward_to_bound (hb : s.store.retire ≤ s.store.cursor) (he : s.store.cursor ≤ e)
    (hz : ∀ x ∈ s.store.between s.store.cursor e, x.move = none) :
    ∃ look, storeForward e s.dwellOver = (s.steppedTo (s.wentForward e e s.store.cursorPos) look, none) := by
  have hstep : s.dwellOver.store.stepForward e = _ := s.store.stepForward_to_bound e hb he hz
  simp only [storeForward, hstep, afterStep]
  exact ⟨_, rfl⟩

end

/-! ### The goals of the stepwise operations (R15, R16, R79) -/

section
variable {s : State}

theorem goalStep_back_none {n : Nat} (h : n = 0 ∨ s.store.cursor ≤ s.store.retire) : goalStep (.back n) s = none := if_pos h
theorem goalStep_back_some {n : Nat} (h : s.store.retire < s.store.cursor) : goalStep (.back (n + 1)) s =
    some ((storeBack s.store.retire s).1, .back n, (storeBack s.store.retire s).2.isSome) := if_neg (by omega)

theorem goalStep_downTo_none {b : Nat} (h : s.store.cursor ≤ max b s.store.retire) : goalStep (.downTo b) s = none := if_pos h
theorem goalStep_downTo_some {b : Nat} (h : max b s.store.retire < s.store.cursor) : goalStep (.downTo b) s =
    some ((storeBack (max b s.store.retire) s).1, .downTo b, (storeBack (max b s.store.retire) s).2.isSome) := if_neg (by omega)

theorem goalStep_upTo_none {e : Nat} (h : min e s.store.fill ≤ s.store.cursor) : goalStep (.upTo e) s = none := if_pos h
theorem goalStep_upTo_some {e : Nat} (h : s.store.cursor < min e s.store.fill) : goalStep (.upTo e) s =
    some ((storeForward (min e s.store.fill) s).1, .upTo e, (storeForward (min e s.store.fill) s).2.isSome) := if_neg (by omega)

end

/-! ### One step towards a goal (R79) -/

theorem setGoal_of_slot {v : State} {op : Op} (hslot : v.run.slot = some op) (g : Goal) :
    setGoal g v = { v with run := { v.run with slot := some { op with goal := some g } } } := by
  simp [setGoal, State.modRun, hslot]

section
variable {k : OpKind} {fuel : Nat} {g g' : Goal} {s v : State}

/-- A step over no turn record takes no time (R79). -/
theorem stepOn_crosses (hg : goalStep g s = some (v, g', false)) : stepOn k (fuel + 1) g s = stepOn k fuel g' v := by
  simp [stepOn, hg]

/-- A step over a turn record with the needles down ends the operation (R79). -/
theorem stepOn_needleDown (hg : goalStep g s = some (v, g', true)) (hdown : v.shaft.needleUp = false) :
    stepOn k (fuel + 1) g s = endStepwise .aborted none v := by
  simp [stepOn, hg, hdown]

/-- A step to where the frame stands already has its dwell alone (R79). -/
theorem stepOn_dwells (hg : goalStep g s = some (v, g', true)) (hup : v.shaft.needleUp = true)
    (hat : v.settledFrame.coord = v.designPoint) (hdwell : 0 < v.nat .backDwell) : stepOn k (fuel + 1) g s =
      { setGoal g' v with frame := { v.settledFrame with dwell := some (v.nat .backDwell) } } := by
  have hthere : beginChunked .stepMove v.designPoint none (setGoal g' v) = ({ setGoal g' v with frame := v.settledFrame }, true) := by
    rw [beginChunked_eq, turnMoveEnds_eq]
    exact if_pos hat
  have hpositive : (setGoal g' v).nat .backDwell ≠ 0 := Nat.ne_of_gt hdwell
  simp only [stepOn, hg, hup, hthere]
  exact if_neg hpositive

end

/-! ### Repair ends (R92, R94, R176) -/

/-- The causes HEAD_FAULT(h) of the heads listed as repair ends: none, or secondary causes in HALTED (R92, R94). -/
theorem causesOf_listed {i : Nat} {l : List Head} {v : State} (h : l = [] ∨ v.run.state = .halted) :
    causesOf i l v = { v with run := { v.run with
      resume := if l = [] then v.run.resume else none
      colourTimer := if l = [] then v.run.colourTimer else .stopped
      report := { v.run.report with secondary := v.run.report.secondary ++
        ((l.take (8 - v.run.report.secondary.length)).map fun h => (⟨.headFault h, i, v.clock⟩ : Recorded)) } } } := by
  rcases h with rfl | h
  · simp [causesOf]
  · exact causesOf_halted i l v h

/-- The gap list of a head with a gap opened at the resume index, where it has room (R176). -/
def State.opened (s : State) (h : Head) : Option (List Gap) := openGapAt (max s.run.repair.resume s.store.retire) (s.head h).gaps

/-- The heads that want a gap as repair ends and have no room for one (R176). -/
def State.fullHeads (s : State) : List Head := allHeads.filter fun h => s.wantsGap h && (s.opened h).isNone

/-- The causes of the full heads, as many as the report has room for (R92, R176). -/
def State.fullCauses (s : State) : List Recorded :=
  (s.fullHeads.take (8 - s.run.report.secondary.length)).map fun h => ⟨.headFault h, s.run.repair.resume, s.clock⟩

/-- The state v with repair ended, of the state s at its end (R176, R177). -/
def State.repairEnded (s v : State) (heads : Vector HeadEntry 12) : State := { v with
  run := { s.run with
    repair := ⟨false, 0, 0⟩
    resume := if s.fullHeads = [] then s.run.resume else none
    colourTimer := if s.fullHeads = [] then s.run.colourTimer else .stopped
    report := { s.run.report with secondary := s.run.report.secondary ++ s.fullCauses } }
  table := { s.table with heads := heads } }

/-- What becomes of each head as repair ends (R176). -/
def State.HeadsAtRepairEnd (s u : State) : Prop := ∀ h : Head, u.head h = if s.wantsGap h then (match s.opened h with
  | some gaps => { s.head h with gaps := gaps }
  | none => { s.head h with state := .faulted, kept := some s.run.repair.resume }) else s.head h

theorem stepwiseLands_of_other {k : OpKind} (h : k ≠ .repairAbandon) (v : State) : stepwiseLands k v = landingCheck v := if_neg h

/-- A REPAIR ABANDON that lands ends repair before the landing check (R137, R176, R177). -/
theorem stepwiseLands_abandon {s v : State} (hrun : v.run = s.run) (htable : v.table = s.table) (hparams : v.params = s.params)
    (hretire : v.store.retire = s.store.retire) (hclock : v.clock = s.clock) (h : s.fullHeads = [] ∨ s.run.state = .halted) :
    ∃ heads, stepwiseLands .repairAbandon v = landingCheck (s.repairEnded v heads) ∧ s.HeadsAtRepairEnd (s.repairEnded v heads) := by
  let w := v.modRun fun r => { r with repair := .inactive }
  have hhead (h : Head) : w.head h = s.head h := congrArg (fun t : HeadTable => t.heads[h]) htable
  obtain ⟨hlisted, heads, hopen, heach⟩ := openAtRepairEnd_eq s s.run.repair.resume allHeads (by decide) w (fun h _ => hhead h)
    hparams hretire
  have hfull : (openAtRepairEnd s.run.repair.resume allHeads w).2 = s.fullHeads := hlisted
  refine ⟨heads, ?_, fun h => ?_⟩
  · have hcauses := causesOf_listed (i := s.run.repair.resume) (l := s.fullHeads)
      (v := { w with table := { w.table with heads := heads } }) (h.imp_right fun h => by simpa [w, hrun] using h)
    calc stepwiseLands .repairAbandon v = landingCheck (causesOf s.run.repair.resume
          (openAtRepairEnd s.run.repair.resume allHeads w).2 (openAtRepairEnd s.run.repair.resume allHeads w).1) := by
            simp only [stepwiseLands, if_true, endRepair, hrun, w]
      _ = landingCheck (s.repairEnded v heads) := by
            rw [hfull, hopen, hcauses]
            simp only [State.repairEnded, State.fullCauses, w, hrun, htable, hclock, State.modRun, Repair.inactive]
  · refine (heach h).trans ?_
    simp only [mem_allHeads, true_and, hhead]
    rfl

/-! ### What DWELL_EXPIRY leaves (R79, R137) -/

/-- DWELL_EXPIRY leaves t. -/
def State.Leaves (s t : State) : Prop := exec .dwellExpiry s = .next (settle t)

/-- DWELL_EXPIRY ends the operation in the state v, with this result and detail (R80, R137). -/
def State.LeavesEnded (s : State) (op : Op) (detail : List Byte) (v : State) : Prop :=
  s.Leaves (raiseNotice srcOpDone v.store.cursor (u8 op.kind.value ++ u8 op.starter.value ++ detail)
    { v with run := { v.run with slot := none } })

/-- DWELL_EXPIRY leaves what the landing check makes of v (R137). -/
def State.LeavesChecked (s : State) (op : Op) (v : State) : Prop :=
  (v.planNeedle = none → s.LeavesEnded op [0, 0, 0, 0, 0, 0, 0, 0, 1, 4] v) ∧
  (∀ n, v.planNeedle = some n → s.needle.settled = some n → s.LeavesEnded op [0, 0, 0, 0, 0, 0, 0, 0, 0, 0] v) ∧
  (∀ n, v.planNeedle = some n → s.needle.settled ≠ some n → s.Leaves { v with needle := { s.needle with
    target := n, request := true, watch := none
    change := some ⟨.landing, n, op.starter, s.nat .needleTimeout, s.nat .needleTimeout, s.clock⟩ } })

/-- DWELL_EXPIRY leaves what the landing makes of v, repair ended first by a REPAIR ABANDON (R137, R177). -/
def State.LeavesLanded (s : State) (op : Op) (v : State) : Prop :=
  (op.kind ≠ .repairAbandon → s.LeavesChecked op v) ∧
  (op.kind = .repairAbandon → s.fullHeads = [] ∨ s.run.state = .halted →
    ∃ u : State, s.LeavesChecked op u ∧ u = s.repairEnded v u.table.heads ∧ s.HeadsAtRepairEnd u)

/-- DWELL_EXPIRY leaves the step move that follows a step of the store to st, with this goal left (R63, R79). -/
def State.LeavesMoving (s : State) (op : Op) (st : Store) (goal : Goal) : Prop :=
  let target := st.origin.add st.cursorPos
  let slot := some { op with goal := some goal }
  ∃ look,
    (s.shaft.needleUp = false → s.LeavesEnded op [2, 0, 0, 0, 0, 0, 0, 0, 0, 0] (s.steppedTo st look)) ∧
    (s.shaft.needleUp = true → s.settledFrame.coord ≠ target → ∃ m, m.abort = none ∧
      s.LaysChunk .stepMove s.settledFrame.coord target m ∧ s.Leaves { s.steppedTo st look with
        run := { s.run with slot := slot }, frame := Frame.lay m { s.settledFrame with dwell := none } }) ∧
    (s.shaft.needleUp = true → s.settledFrame.coord = target → 0 < s.nat .backDwell → s.Leaves { s.steppedTo st look with
      run := { s.run with slot := slot }, frame := { s.settledFrame with dwell := some (s.nat .backDwell) } })

theorem dwellExpires_of_none {s : State} (h : s.frame.dwell = none) : dwellExpires s = s := by
  simp [dwellExpires, h]

section
variable {s : State} {op : Op} {g : Goal} {left : Nat} (hs : s.awake) (hdwell : s.frame.dwell = some left)
  (hslot : s.run.slot = some op) (hgoal : op.goal = some g)

include hdwell hslot hgoal in
theorem dwellExpires_eq : dwellExpires s = stepOn op.kind (s.store.records.length + 2) g s.dwellOver := by
  simp only [dwellExpires, hdwell, Option.isSome_some, if_true]
  simp only [nextStep, State.modFrame_run, hslot, hgoal]
  rfl

include hs

theorem leaves_of_eq {t : State} (h : dwellExpires s = t) : s.Leaves t := exec_dwellExpiry hs h

include hslot in
theorem leavesChecked_of_eq {v : State} (hop : v.run.slot = s.run.slot) (hover : v.frame.dwell = none) (hneedle : v.needle = s.needle)
    (hparams : v.params = s.params) (hclock : v.clock = s.clock) (h : dwellExpires s = landingCheck v) : s.LeavesChecked op v := by
  obtain ⟨hempty, hinPlace, hchange⟩ := landingCheck_of_slot (hop.trans hslot) hover
  have hnat (p : Param) : v.nat p = s.nat p := by simp only [State.nat, State.par, hparams]
  refine ⟨fun hn => leaves_of_eq hs (h.trans (hempty hn)), fun n hn hset => ?_, fun n hn hset => ?_⟩
  · exact leaves_of_eq hs (h.trans (hinPlace n hn (by rw [hneedle]; exact hset)))
  · have hbegin := h.trans (hchange n hn (by rw [hneedle]; exact hset))
    rw [hneedle, hnat] at hbegin
    exact leaves_of_eq hs (hbegin.trans (by rw [hclock]))

include hslot in
/-- A landing in a state that differs from s in what a step of the store changes (R137, R177). -/
theorem leavesLanded_of_eq {st : Store} {pl : Planner} (hretire : st.retire = s.store.retire)
    (h : dwellExpires s = stepwiseLands op.kind { s.dwellOver with store := st, planner := pl }) :
    s.LeavesLanded op { s.dwellOver with store := st, planner := pl } := by
  refine ⟨fun hkind => ?_, fun hkind hroom => ?_⟩
  · exact leavesChecked_of_eq hs hslot rfl rfl rfl rfl rfl (h.trans (stepwiseLands_of_other hkind _))
  · rw [hkind] at h
    let v : State := { s.dwellOver with store := st, planner := pl }
    obtain ⟨heads, hlands, heach⟩ := stepwiseLands_abandon (s := s) (v := v) rfl rfl rfl hretire rfl hroom
    exact ⟨_, leavesChecked_of_eq (v := s.repairEnded v heads) hs hslot rfl rfl rfl rfl rfl (h.trans hlands), rfl, heach⟩

include hdwell hslot hgoal

/-- At its goal the operation lands where it stands (R137). -/
theorem leavesLanded_here (hg : goalStep g s.dwellOver = none) : s.LeavesLanded op s.dwellOver :=
  leavesLanded_of_eq (st := s.store) (pl := s.planner) hs hslot rfl
    ((dwellExpires_eq hdwell hslot hgoal).trans (stepOn_lands hg))

/-- After a step over no turn record that reaches its goal the operation lands (R137). -/
theorem leavesLanded_after {st : Store} {look : List Entry} {g' : Goal} (hretire : st.retire = s.store.retire)
    (hg : goalStep g s.dwellOver = some (s.steppedTo st look, g', false)) (hdone : goalStep g' (s.steppedTo st look) = none) :
    s.LeavesLanded op (s.steppedTo st look) :=
  leavesLanded_of_eq hs hslot hretire
    ((dwellExpires_eq hdwell hslot hgoal).trans ((stepOn_crosses hg).trans (stepOn_lands hdone)))

/-- After a step over a turn record the frame moves, or the operation ends (R63, R79). -/
theorem leavesMoving_after {st : Store} {look : List Entry} {g' : Goal}
    (hg : goalStep g s.dwellOver = some (s.steppedTo st look, g', true)) : s.LeavesMoving op st g' := by
  have hexpires := dwellExpires_eq hdwell hslot hgoal
  have hset := setGoal_of_slot (v := s.steppedTo st look) hslot g'
  refine ⟨look, fun hdown => ?_, fun hup haway => ?_, fun hup hat hpositive => ?_⟩
  · exact leaves_of_eq hs (hexpires.trans ((stepOn_needleDown hg hdown).trans
      (endStepwise_of_slot (v := s.steppedTo st look) hslot rfl .aborted none)))
  · obtain ⟨m, hm, habort, hlays⟩ := stepOn_moves (k := op.kind) (fuel := s.store.records.length + 1) hg hup
      (by rw [steppedTo_settledFrame]; exact haway)
    rw [steppedTo_settledFrame] at hm hlays
    rw [hset] at hm
    exact ⟨m, habort, hlays, leaves_of_eq hs (hexpires.trans hm)⟩
  · have hd := stepOn_dwells (k := op.kind) (fuel := s.store.records.length + 1) hg hup
      (by rw [steppedTo_settledFrame]; exact hat) hpositive
    rw [steppedTo_settledFrame, hset] at hd
    exact leaves_of_eq hs (hexpires.trans hd)

/-- DWELL_EXPIRY with a backward goal: it lands at the bound, else goes back to the nearest turn record, or to the bound where there is
none (R15, R79). -/
theorem leaves_back {bound : Nat} {goal : Goal} (hretire : s.store.retire ≤ bound)
    (hnone : ∀ v : State, v.store.retire = s.store.retire → v.store.cursor ≤ bound → goalStep goal v = none)
    (hstart : s.store.cursor ≤ bound → goalStep g s.dwellOver = none)
    (hstep : bound < s.store.cursor → goalStep g s.dwellOver =
      some ((storeBack bound s.dwellOver).1, goal, (storeBack bound s.dwellOver).2.isSome)) :
    (s.store.cursor ≤ bound → s.LeavesLanded op s.dwellOver) ∧
    (∀ i r d, bound ≤ i → i < s.store.cursor → s.store.records[i - s.store.retire]? = some r → r.move = some d →
      (∀ x ∈ s.store.between (i + 1) s.store.cursor, x.move = none) →
      s.LeavesMoving op (s.wentBack i (i + 1) (s.store.cursorPos.sub d)) goal) ∧
    (bound < s.store.cursor → (∀ x ∈ s.store.between bound s.store.cursor, x.move = none) →
      ∃ look, s.LeavesLanded op (s.steppedTo (s.wentBack bound bound s.store.cursorPos) look)) := by
  refine ⟨fun h => leavesLanded_here hs hdwell hslot hgoal (hstart h), fun i r d hi hk hr hd hz => ?_, fun hlt hz => ?_⟩
  · obtain ⟨look, hback⟩ := storeBack_to_turn hretire hi hk hr hd hz
    exact leavesMoving_after hs hdwell hslot hgoal (look := look) (by rw [hstep (by omega), hback]; rfl)
  · obtain ⟨look, hback⟩ := storeBack_to_bound hz
    exact ⟨look, leavesLanded_after hs hdwell hslot hgoal rfl (by rw [hstep hlt, hback]; rfl) (hnone _ rfl (Nat.le_refl bound))⟩

/-- DWELL_EXPIRY with a forward goal: it lands at the bound, else goes on over the nearest turn record, or to the bound where there is
none (R16, R79). -/
theorem leaves_upTo {e : Nat} (hg : g = .upTo e) (hretire : s.store.retire ≤ s.store.cursor) :
    (min e s.store.fill ≤ s.store.cursor → s.LeavesLanded op s.dwellOver) ∧
    (∀ i r d, s.store.cursor ≤ i → i < min e s.store.fill → s.store.records[i - s.store.retire]? = some r → r.move = some d →
      (∀ x ∈ s.store.between s.store.cursor i, x.move = none) →
      s.LeavesMoving op (s.wentForward (i + 1) i (s.store.cursorPos.add d)) g) ∧
    (s.store.cursor < min e s.store.fill → (∀ x ∈ s.store.between s.store.cursor (min e s.store.fill), x.move = none) →
      ∃ look, s.LeavesLanded op
        (s.steppedTo (s.wentForward (min e s.store.fill) (min e s.store.fill) s.store.cursorPos) look)) := by
  have hstep (h : s.store.cursor < min e s.store.fill) := goalStep_upTo_some (s := s.dwellOver) h
  refine ⟨fun h => leavesLanded_here hs hdwell hslot hgoal (by rw [hg]; exact goalStep_upTo_none h),
    fun i r d hi hk hr hd hz => ?_, fun hlt hz => ?_⟩
  · obtain ⟨look, hforward⟩ := storeForward_over_nearest hretire hi hk hr hd hz
    exact leavesMoving_after hs hdwell hslot hgoal (look := look) (by
      rw [hg, hstep (by omega)]
      exact congrArg (fun p : State × Option Nat => some (p.1, Goal.upTo e, p.2.isSome)) hforward)
  · obtain ⟨look, hforward⟩ := storeForward_to_bound hretire (Nat.le_of_lt hlt) hz
    exact ⟨look, leavesLanded_after hs hdwell hslot hgoal rfl (by
      rw [hg, hstep hlt]
      exact congrArg (fun p : State × Option Nat => some (p.1, Goal.upTo e, p.2.isSome)) hforward)
      (goalStep_upTo_none (Nat.le_refl (min e s.store.fill)))⟩

end

end Sys2Proof.Machine
end

section
/-! PROOFS. Moves that go on, complete and land, and the dwells after step moves (R62 to R80, R87, R88, R96, R137). -/

namespace Sys2Proof.Machine

/-- The budget of the leg that homing is at, once the move just made is counted (R72). -/
theorem spent_tallied_iff (h : Homing) (unit : Axis → Nat) : (h.tallied unit).spent = true ↔
    match h.axis, h.backOff with
    | .x, false => h.budgetX ≤ (h.tallied unit).searchX
    | .y, false => h.budgetY ≤ (h.tallied unit).searchY
    | .x, true => h.backLimitX ≤ (h.tallied unit).backX
    | .y, true => h.backLimitY ≤ (h.tallied unit).backY := by
  cases haxis : h.axis <;> cases hback : h.backOff <;> simp [Homing.spent, Homing.tallied, haxis, hback]

/-- Settles O51, clause by clause: each event is the frame's function of its name, and the lemmas above say what that leaves. -/
theorem movesAreCompleted : Obligations.MovesAreCompleted := by
  refine fun s hs => ⟨fun m hm => ?_,
    fun hnone => ⟨exec_moveComplete hs (turnMoveEnds_of_none hnone), fun a => exec_stepEmitted hs (emitStep_of_none hnone a)⟩,
    fun hnone => exec_dwellExpiry hs (dwellExpires_of_none hnone), fun left op g hdwell hslot hgoal => ?_⟩
  · intro there moved returns offsets done
    refine ⟨fun hp => exec_moveComplete hs (turnMoveEnds_of_turn hm hp), exec_stepEmitted hs (emitStep_of_move hm).1,
      exec_stepEmitted hs (emitStep_of_move hm).2, fun tension hp hne habort => ?_, fun tension op hp hend hslot => ?_,
      fun tension hp hend hstate hheld hrestart hline hdemand => ?_, fun tension hreturns hend htarget hstate => ?_,
      fun tension hreturns habort hne haway hstate hphase hmotion => ?_,
      fun tension r hwaited hstate hphase hrested hkind hcause => ?_,
      fun tension hp hend habort hpositive =>
        exec_chunkComplete hs (chunkEnds_dwells (s := setTension tension s) hm hp hend habort hpositive),
      fun tension hp hend habort hzero hnone => ?_,
      fun tension op hp hend habort hslot =>
        exec_chunkComplete hs (chunkEnds_stepAborted (s := setTension tension s) hslot hm hp hend habort),
      fun tension h op hh hat hp hend hslot =>
        exec_chunkComplete hs (chunkEnds_homingEnd (s := setTension tension s) hslot hm hh hat hp hend), ?_⟩
    · obtain ⟨m', hgoes, hlays, hturn, hsame⟩ := chunkEnds_goesOn (s := setTension tension s) hm hp hne habort
      rw [atChunkEnd_eq] at hgoes
      exact ⟨m', exec_chunkComplete hs hgoes, hlays, hturn, hsame⟩
    · exact exec_chunkComplete hs (chunkEnds_offset (s := setTension tension s) hslot hm hp hend)
    · exact exec_chunkComplete hs ((chunkEnds_firstMove (s := setTension tension s) hm hp hend).trans
        (firstMoveComplete_of_running hstate hheld hrestart hline hdemand))
    · obtain ⟨hp, hwork⟩ := hreturns
      let u : State := { setTension tension s with
        frame := { there m.chunk with offset := .zero }, run := { s.run with work := none } }
      have hreturned : _ = sensorStep u :=
        chunkEnds_returned (s := setTension tension s) hm hp hwork (.inl hend) (hend.trans htarget) hstate
      exact ⟨fun huntested => exec_chunkComplete hs (hreturned.trans (sensorStep_tests (s := u) huntested)),
        fun n htested hplan hsettled hup =>
          exec_chunkComplete hs (hreturned.trans (sensorStep_changes (s := u) htested hplan hsettled hup)),
        fun htested hplan => exec_chunkComplete hs (hreturned.trans (sensorStep_calls (s := u) htested hplan))⟩
    · obtain ⟨hp, hwork⟩ := hreturns
      exact ⟨_, exec_chunkComplete hs rfl,
        chunkEnds_returnCut (s := setTension tension s) hm hp hwork habort haway hstate hphase hmotion⟩
    · obtain ⟨⟨wait, hrun⟩, hframe, hshaft, hcursor, hpending⟩ :=
        chunkEnds_endsStop (s := setTension tension s) hm hwaited hstate hrested hkind hcause
      refine ⟨_, exec_chunkComplete hs rfl, hframe, ?_⟩
      rw [hrun]
      exact ⟨rfl, rfl, rfl, rfl, rfl, rfl, rfl, rfl, rfl, rfl, hpending, hshaft, hcursor⟩
    · refine (exec_chunkComplete hs (chunkEnds_noDwell (s := setTension tension s) hm hp hend habort hzero hnone)).trans ?_
      exact (exec_dwellExpiry (s := { setTension tension s with frame := { there m.chunk with dwell := some 0 } }) hs rfl).symm
    · intro h x y hh hat hp unit closed count k spent steps part u stood goesOn
      have hunit (a : Axis) : u.searchSteps a = unit a := by cases a <;> rfl
      have hspent : spent ↔ k.spent = true := (spent_tallied_iff h u.searchSteps).symm
      have hgoes (habort : m.abort = none) (j : Homing) (hj : afterHomingMove k (u.legMade m k) = homingMove j (u.legMade m k)) :
          goesOn j := by
        obtain ⟨m', hbegin, hrest⟩ := homingStepEnds_goesOn (s := u) hm hh hp habort hj
        rw [hunit] at hrest
        exact ⟨m', exec_homingStepComplete hs hbegin, hrest⟩
      refine ⟨fun op habort hslot => exec_homingStepComplete hs (homingStepEnds_aborted (s := u) hm hh hp hat hslot habort),
        fun habort => ⟨fun op hlevel hover hslot =>
          exec_homingStepComplete hs (homingStepEnds_fails (s := u) hm hh hp hat hslot habort hlevel (hspent.mp hover)),
        fun hlevel hmore => hgoes habort k (afterHomingMove_goesOn hlevel (hspent.not.mp hmore)),
        fun hlevel hback => hgoes habort _ (afterHomingMove_turns hlevel hback),
        fun hlevel hback haxis => hgoes habort _ (afterHomingMove_nextAxis hlevel hback haxis), fun hlevel hback haxis => ?_⟩⟩
      have hfound := (homingStepEnds_next (s := u) hm hh hp habort).trans (afterHomingMove_found hlevel hback haxis)
      refine ⟨fun op hidle hslot => exec_homingStepComplete hs (hfound.trans (homeFound_ends (s := u) (k := k) hslot hidle)),
        fun op hdesign hat hslot => exec_homingStepComplete hs (hfound.trans (homeFound_atDesign (s := u) (k := k) hslot hdesign hat)),
        fun hdesign haway => ?_⟩
      obtain ⟨m', hlaid, hlays, hfree⟩ := homeFound_lays (s := u) (m := m) (k := k) hdesign haway
      exact ⟨m', exec_homingStepComplete hs (hfound.trans hlaid), hlays, hfree⟩
  · refine ⟨fun hg => ?_, fun n hg => ?_, fun b hg => ?_, fun e hg hretire => ?_⟩
    · exact leavesLanded_here hs hdwell hslot hgoal (by rw [hg]; exact goalStep_back_none (.inl rfl))
    · exact leaves_back hs hdwell hslot hgoal (Nat.le_refl _) (fun v hv h => goalStep_back_none (.inr (by rw [hv]; exact h)))
        (fun h => by rw [hg]; exact goalStep_back_none (.inr h)) (fun h => by rw [hg]; exact goalStep_back_some h)
    · exact leaves_back hs hdwell hslot hgoal (Nat.le_max_right b s.store.retire)
        (fun v hv h => by rw [hg]; exact goalStep_downTo_none (by rw [hv]; exact h))
        (fun h => by rw [hg]; exact goalStep_downTo_none h) (fun h => by rw [hg]; exact goalStep_downTo_some h)
    · exact leaves_upTo hs hdwell hslot hgoal hg hretire

end Sys2Proof.Machine
end

section
/-! PROOFS. CLEAR and ARM: their checks in order, the run state that each leaves, and what the arm check passes (R56, R85, R98). -/

namespace Sys2Proof.Machine

/-! ### CLEAR (R98) -/

/-- Entering HALTED, LOCKED or IDLE from another run state disarms the lost watch and raises STATE (R84, R138). -/
theorem setRunState_disarms {l : RunState} (hl : l = .halted ∨ l = .locked ∨ l = .idle) {s : State} (h : s.run.state ≠ l) :
    setRunState l s = raiseNotice srcState s.store.cursor (stateDetail s.run.state l s.store.cursor none)
      { s with run := { s.run with state := l }, needle := { s.needle with watch := none } } := by
  unfold setRunState
  rw [if_neg h]
  rcases hl with rfl | rfl | rfl <;> rfl

theorem clearRequest_of_state {s : State} (h : s.run.state ≠ .locked) : clearRequest s = (s, plain .state) := if_pos h

section
variable {s : State} (hlocked : s.run.state = .locked)
include hlocked

/-- A report with the cause STORE, E-STOP asserted or a drive that is not ready refuse CLEAR (R98). -/
theorem clearRequest_of_faulted
    (h : s.run.report.holds .store = true ∨ ¬ (s.pins.estop = false ∧ s.pins.driveReady = true ∧ s.pins.driveFault = false)) :
    clearRequest s = (s, plain .faulted) := by
  unfold clearRequest
  rw [if_neg (not_not.mpr hlocked)]
  by_cases hstore : s.run.report.holds .store = true
  · rw [if_pos hstore]
  · have hlines : s.pins.estop = true ∨ s.driveIsReady = false := by
      have hbar := h.resolve_left hstore
      by_cases hestop : s.pins.estop = true
      · exact .inl hestop
      · exact .inr (by simpa [State.driveIsReady, hestop] using hbar)
    rw [if_neg hstore, if_pos hlines]

variable (hstore : s.run.report.holds .store = false)
  (hready : s.pins.estop = false ∧ s.pins.driveReady = true ∧ s.pins.driveFault = false)
include hstore hready

theorem clearRequest_of_passed : clearRequest s =
    if s.shaft.motion ≠ .stopped then (s, plain .state)
    else (setRunState (if s.run.armed then .halted else .idle) s, plain .done) := by
  simp [clearRequest, hlocked, hstore, hready, State.driveIsReady]

/-- An accepted CLEAR leaves HALTED with a design armed, IDLE with none (R98). -/
theorem clearRequest_of_stopped (hmotion : s.shaft.motion = .stopped) :
    let new := if s.run.armed then RunState.halted else .idle
    clearRequest s = (raiseNotice srcState s.store.cursor (stateDetail .locked new s.store.cursor none)
      { s with run := { s.run with state := new }, needle := { s.needle with watch := none } }, plain .done) := by
  intro new
  have hnew : new = .halted ∨ new = .locked ∨ new = .idle := by
    simp only [new]
    split <;> simp
  have hchange : s.run.state ≠ new := by
    rw [hlocked]
    simp only [new]
    split <;> decide
  rw [clearRequest_of_passed hlocked hstore hready, if_neg (not_not.mpr hmotion), setRunState_disarms hnew hchange, hlocked]

end

theorem exec_clear {s t : State} {st : Status} (hs : s.ready) (tag : Byte) (h : clearRequest (hunt s) = (t, plain st)) :
    exec (.clear tag) s = .next (replied 0x23 tag st [] t) :=
  exec_answered (a := plain st) rfl hs rfl (by decide) h

/-- Settles O47: each check of CLEAR, and the state that an accepted one leaves. -/
theorem clearEndsALock : Obligations.ClearEndsALock := by
  intro tag s hs store ready new
  refine ⟨fun h => exec_clear hs tag (clearRequest_of_state (s := hunt s) h),
    fun hlocked h => exec_clear hs tag (clearRequest_of_faulted (s := hunt s) hlocked h), fun hlocked hstore hready hmotion => ?_,
    fun hlocked hstore hready hmotion =>
      exec_clear hs tag (clearRequest_of_stopped (s := hunt s) hlocked hstore hready hmotion)⟩
  have hturns : (hunt s).shaft.motion ≠ .stopped := by
    change s.shaft.motion ≠ .stopped
    rw [hmotion]; decide
  exact exec_clear hs tag ((clearRequest_of_passed (s := hunt s) hlocked hstore hready).trans (if_pos hturns))

/-! ### ARM (R85) -/

/-- ARM by its checks, as the state and the design let it be taken (R85). -/
theorem armDesign_eq (s : State) : armDesign s =
    if ¬ (s.run.state = .idle ∧ s.store.isOpen = true ∧ 0 < s.store.fill) then (s, plain .state)
    else if s.run.slot ≠ none then (s, plain .busy)
    else match s.armCheck with
      | some r => (s, refusal r)
      | none => (setRunState .ready (s.modRun fun r => { r with armed := true, report := .empty }), plain .done) := by
  have hslot : ¬ s.slotEmpty = true ↔ s.run.slot ≠ none := by simp [State.slotEmpty]
  have hdesign : (s.store.isOpen = false ∨ s.store.fill = 0) ↔ ¬ (s.store.isOpen = true ∧ 0 < s.store.fill) := by
    rw [not_and_or, Bool.not_eq_true, Nat.not_lt, Nat.le_zero]
  unfold armDesign
  simp only [hslot, hdesign]
  by_cases hidle : s.run.state = .idle
  · simp only [hidle, ne_eq, not_true_eq_false, if_false, true_and] <;> rfl
  · simp only [hidle, ne_eq, not_false_eq_true, if_true, false_and]

section
variable {s : State} (hmay : s.run.state = .idle ∧ s.store.isOpen = true ∧ 0 < s.store.fill) (hslot : s.run.slot = none)
include hmay hslot

theorem armDesign_of_bar {r : Status × Option Nat} (h : s.armCheck = some r) : armDesign s = (s, refusal r) := by
  rw [armDesign_eq, if_neg (not_not.mpr hmay), if_neg (not_not.mpr hslot), h]

theorem armDesign_of_passed (h : s.armCheck = none) : armDesign s =
    (raiseNotice srcState s.store.cursor (stateDetail .idle .ready s.store.cursor none)
      { s with run := { s.run with state := .ready, armed := true, report := .empty } }, plain .done) := by
  have hidle : s.run.state ≠ .ready := by rw [hmay.1]; decide
  rw [armDesign_eq, if_neg (not_not.mpr hmay), if_neg (not_not.mpr hslot), h, ← hmay.1]
  dsimp only
  rw [setRunState, if_neg (by exact hidle)]
  rfl

end

/-! ### The arm check (R56) -/

theorem ite_some_eq_none_iff {α : Type} {c : Prop} [Decidable c] {a : α} {o : Option α} :
    (if c then some a else o) = none ↔ ¬ c ∧ o = none := by
  by_cases h : c <;> simp [h]

/-- A ceiling test passes with no time to cover, or with a ceiling at or above SPEED_MIN (R44, R56). -/
theorem ceilingHolds_iff (s : State) (w t : Nat) :
    s.ceilingHolds w t = true ↔ t = 0 ∨ s.nat .speedMin ≤ w * 500000 / (3 * t) := by
  simp only [State.ceilingHolds, Bool.or_eq_true, decide_eq_true_eq]
  rfl

/-- The arm check passes exactly when no item of R56 fails. -/
theorem armCheck_eq_none_iff (s : State) : s.armCheck = none ↔
    let mx := longestMove (s.nat .pitchX)
    let my := longestMove (s.nat .pitchY)
    let t := max ((moveTimeOn s.planner.tableX mx).getD 0) ((moveTimeOn s.planner.tableY my).getD 0)
    (s.planner.tableX ≠ none ∧ s.planner.tableY ≠ none ∧ mx ≤ lastSteps s.planner.tableX ∧ my ≤ lastSteps s.planner.tableY) ∧
    (90 ≤ s.windowWidth ∧ s.windowWidth ≤ 300 ∧ s.inWindow (s.nat .restAngle) = true) ∧
    (s.nat .speedMin ≤ s.nat .speedStart ∧ s.nat .speedStart ≤ s.nat .speedTop) ∧
    s.ceilingHolds s.windowWidth t = true ∧ s.ceilingHolds (s.nat .jumpWidth) t = true ∧
    s.nat .speedTop ≤ s.nat .speedStopEntry + 47 * s.nat .rampDown ∧
    s.nat .tenCount ≤ s.nat .tenWindow ∧
    s.frame.ref = .referenced := by
  simp only [State.armCheck, ite_some_eq_none_iff, not_lt, not_or, not_not, and_true, and_assoc, ne_eq]

theorem exec_arm {s t : State} {st : Status} {p : List Byte} (hs : s.ready) (tag : Byte) (h : armDesign (hunt s) = (t, ⟨st, p⟩)) :
    exec (.arm tag) s = .next (replied 0x0E tag st p t) :=
  exec_answered (a := ⟨st, p⟩) rfl hs rfl (by decide) h

/-- Settles O43: ARM by its checks, the last of them the arm check, and the items that the arm check passes. -/
theorem armMakesReady : Obligations.ArmMakesReady := by
  refine ⟨fun tag s hs => ?_, fun s => ?_⟩
  · intro may
    refine ⟨fun h => exec_arm hs tag ((armDesign_eq (hunt s)).trans (if_pos h)),
      fun h hslot => exec_arm hs tag ((armDesign_eq (hunt s)).trans ((if_neg (not_not.mpr h)).trans (if_pos hslot))),
      fun st item h hslot hbar => ?_, fun st h hslot hbar => exec_arm hs tag (armDesign_of_bar (s := hunt s) h hslot hbar),
      fun h hslot hpass => exec_arm hs tag (armDesign_of_passed (s := hunt s) h hslot hpass)⟩
    rw [← u8_eq]
    exact exec_arm hs tag (armDesign_of_bar (s := hunt s) h hslot hbar)
  · rw [armCheck_eq_none_iff]
    simp only [ceilingHolds_iff]
    rfl

end Sys2Proof.Machine
end

section
/-! PROOFS. The checks that operations share, in their order: the run state, the slot, the rest of the shaft, the frame and the axis tables
(R63, R71, R75, R77, R102, R170, R171, R177, R203). -/

namespace Sys2Proof.Machine

/-! ### Each check by itself -/

section
variable {s : State}

theorem slotCheck_of_outside {accepted : List RunState} (h : s.run.state ∉ accepted) : s.slotCheck accepted = some .state := by
  simp [State.slotCheck, h]

theorem mem_armedAtRest : s.run.state ∈ armedAtRest ↔ s.run.state = .ready ∨ s.run.state = .halted := by simp [armedAtRest]

theorem rewindBar_of_state (h : s.run.repair.active = true ∨ s.restsUp = false ∨ s.frame.offset ≠ .zero) :
    s.rewindBar = some .state := by
  rcases h with h | h | h <;> simp [State.rewindBar, h]

theorem rewindBar_of_unref (ha : s.run.repair.active = false) (hup : s.restsUp = true) (hoff : s.frame.offset = .zero)
    (href : s.frame.ref ≠ .referenced) : s.rewindBar = some .unref := by
  simp [State.rewindBar, ha, hup, hoff, href]

theorem abandonBar_of_state (h : s.run.repair.active = false ∨ s.restsUp = false ∨ s.frame.offset ≠ .zero) :
    s.abandonBar = some .state := by
  rcases h with h | h | h <;> simp [State.abandonBar, h]

theorem abandonBar_of_unref (ha : s.run.repair.active = true) (hup : s.restsUp = true) (hoff : s.frame.offset = .zero)
    (href : s.frame.ref ≠ .referenced) : s.abandonBar = some .unref := by
  simp [State.abandonBar, ha, hup, hoff, href]

theorem tablesBar_of_short {i : Nat} (h : s.shortTable = some i) : s.tablesBar = some ⟨.config, [BitVec.ofNat 8 i]⟩ := by
  simp [State.tablesBar, h]

theorem offsetMoveBar_of_down (h : s.restsUp = false) : s.offsetMoveBar = some (plain .state) := by simp [State.offsetMoveBar, h]

theorem offsetMoveBar_of_unref (hup : s.restsUp = true) (href : s.frame.ref ≠ .referenced) :
    s.offsetMoveBar = some (plain .unref) := by
  simp [State.offsetMoveBar, hup, href]

theorem offsetMoveBar_of_short (hup : s.restsUp = true) (href : s.frame.ref = .referenced) {i : Nat} (h : s.shortTable = some i) :
    s.offsetMoveBar = some ⟨.config, [BitVec.ofNat 8 i]⟩ := by
  simp [State.offsetMoveBar, hup, href, tablesBar_of_short h]

end

/-! ### The checks of a request in order, the first that fails giving the answer -/

/-- The checks of BACKTRACK on a count that is no 0 (R102, R170). -/
def State.backtrackBar (s : State) : Option Answer :=
  ((s.slotCheck armedAtRest).map plain).or ((s.rewindBar.map plain).or s.tablesBar)

/-- The checks of REPAIR on a well-formed selection (R102, R171). -/
def State.repairBar (hs : HeadSet) (s : State) : Option Answer :=
  ((s.slotCheck armedAtRest).map plain).or ((s.rewindBar.map plain).or ((s.selectionBar hs).or s.tablesBar))

/-- The checks of REPAIR ABANDON (R102, R177). -/
def State.repairAbandonBar (s : State) : Option Answer :=
  ((s.slotCheck [.halted]).map plain).or ((s.abandonBar.map plain).or s.tablesBar)

/-- The checks of FRAME OUT on a request in its range, and of FRAME RETURN (R75, R77, R102). -/
def State.offsetBar (s : State) : Option Answer := ((s.slotCheck armedAtRest).map plain).or s.offsetMoveBar

/-- The checks of HOME (R71, R102). -/
def State.homeBar (s : State) : Option Answer :=
  ((s.slotCheck atRest).map plain).or (if s.restsUp then s.tablesBar else some (plain .state))

section
variable {s : State} {a : Answer}

theorem backtrackRequest_refused {count : Half} (hcount : count ≠ 0) (h : s.backtrackBar = some a) :
    backtrackRequest count s = (s, a) := by
  unfold State.backtrackBar at h
  unfold backtrackRequest
  rw [if_neg hcount]
  cases hslot : s.slotCheck armedAtRest with
  | some st => simpa [hslot] using h
  | none =>
    cases hbar : s.rewindBar with
    | some st => simpa [hslot, hbar] using h
    | none =>
      have htables : s.tablesBar = some a := by simpa [hslot, hbar] using h
      simp only [htables]

theorem repairRequest_refused {heads : Half} (hbits : heads.toNat < 4096)
    (hform : ¬ (heads.setWidth 12 = 0 ∨ s.allFitted (heads.setWidth 12) = false)) (h : s.repairBar (heads.setWidth 12) = some a) :
    repairRequest heads s = (s, a) := by
  unfold State.repairBar at h
  have hset : headSetOf heads = some (heads.setWidth 12) := if_pos hbits
  simp only [repairRequest, hset, if_neg hform]
  cases hslot : s.slotCheck armedAtRest with
  | some st => simpa [hslot] using h
  | none =>
    cases hbar : s.rewindBar with
    | some st => simpa [hslot, hbar] using h
    | none =>
      cases hselection : s.selectionBar (heads.setWidth 12) with
      | some b => simpa [hslot, hbar, hselection] using h
      | none =>
        have htables : s.tablesBar = some a := by simpa [hslot, hbar, hselection] using h
        simp only [htables]

theorem repairAbandonRequest_refused (h : s.repairAbandonBar = some a) : repairAbandonRequest s = (s, a) := by
  unfold State.repairAbandonBar at h
  unfold repairAbandonRequest
  cases hslot : s.slotCheck [.halted] with
  | some st => simpa [hslot] using h
  | none =>
    cases hbar : s.abandonBar with
    | some st => simpa [hslot, hbar] using h
    | none =>
      have htables : s.tablesBar = some a := by simpa [hslot, hbar] using h
      simp only [htables]

theorem frameReturnRequest_refused (h : s.offsetBar = some a) : frameReturnRequest s = (s, a) := by
  unfold State.offsetBar at h
  unfold frameReturnRequest
  cases hslot : s.slotCheck armedAtRest with
  | some st => simpa [hslot] using h
  | none =>
    have hbar : s.offsetMoveBar = some a := by simpa [hslot] using h
    simp only [hbar]

/-- The displacements of FRAME OUT lie in their range (R75). -/
abbrev OffsetInRange (dx dy : Half) : Prop :=
  -32000 ≤ dx.toInt ∧ dx.toInt ≤ 32000 ∧ -32000 ≤ dy.toInt ∧ dy.toInt ≤ 32000

theorem frameOutRequest_refused {dx dy : Half} (hrange : OffsetInRange dx dy) (h : s.offsetBar = some a) :
    frameOutRequest dx dy s = (s, a) := by
  unfold State.offsetBar at h
  have hform : ¬ (dx.toInt < -32000 ∨ 32000 < dx.toInt ∨ dy.toInt < -32000 ∨ 32000 < dy.toInt) := by
    unfold OffsetInRange at hrange
    omega
  simp only [frameOutRequest, hform, if_false]
  cases hslot : s.slotCheck armedAtRest with
  | some st => simpa [hslot] using h
  | none =>
    have hbar : s.offsetMoveBar = some a := by simpa [hslot] using h
    simp only [hbar]

theorem frameOutRequest_of_outside {dx dy : Half}
    (h : dx.toInt < -32000 ∨ 32000 < dx.toInt ∨ dy.toInt < -32000 ∨ 32000 < dy.toInt) :
    frameOutRequest dx dy s = (s, plain .form) := by
  unfold frameOutRequest
  exact if_pos h

theorem backtrackRequest_of_zero : backtrackRequest 0 s = (s, plain .form) := if_pos rfl

theorem homeRequest_refused (h : s.homeBar = some a) : homeRequest s = (s, a) := by
  unfold State.homeBar at h
  unfold homeRequest
  cases hslot : s.slotCheck atRest with
  | some st => simpa [hslot] using h
  | none =>
    by_cases hup : s.restsUp = true
    · have htables : s.tablesBar = some a := by simpa [hslot, hup] using h
      simp only [hup, not_true_eq_false, if_false, htables]
    · simpa [hslot, hup] using h

theorem needleUpRequest_refused {st : Status} (h : s.slotCheck atRest = some st) : needleUpRequest s = (s, plain st) := by
  simp only [needleUpRequest, h]

end

/-! ### REPAIR and its heads (R171) -/

/-- A well-formed selection: some head, each of them fitted, and no flag above head 12 (R171, R199). -/
abbrev State.SelectionFormed (s : State) (heads : Half) : Prop :=
  heads.toNat < 4096 ∧ heads ≠ 0 ∧ ∀ h : Head, heads.getLsbD h.val = true → s.fitted h = true

theorem setWidth_eq_zero_iff {heads : Half} (hbits : heads.toNat < 4096) : heads.setWidth 12 = 0 ↔ heads = 0 := by
  refine ⟨fun h => BitVec.eq_of_toNat_eq ?_, fun h => by rw [h]; rfl⟩
  simpa [Nat.mod_eq_of_lt hbits] using congrArg BitVec.toNat h

theorem allFitted_iff (s : State) (heads : Half) :
    s.allFitted (heads.setWidth 12) = true ↔ ∀ h : Head, heads.getLsbD h.val = true → s.fitted h = true := by
  simp only [State.allFitted, List.all_eq_true, mem_headsIn, inSet_setWidth]

/-- The set is empty or names a head that is not fitted, where the selection is malformed in no other way (R171). -/
theorem selectionFormed_iff {s : State} {heads : Half} (hbits : heads.toNat < 4096) :
    s.SelectionFormed heads ↔ ¬ (heads.setWidth 12 = 0 ∨ s.allFitted (heads.setWidth 12) = false) := by
  rw [not_or, setWidth_eq_zero_iff hbits, Bool.not_eq_false, allFitted_iff, State.SelectionFormed, and_iff_right hbits]

theorem repairRequest_of_malformed {s : State} {heads : Half} (h : ¬ s.SelectionFormed heads) :
    repairRequest heads s = (s, plain .form) := by
  unfold repairRequest
  by_cases hbits : heads.toNat < 4096
  · have hset : headSetOf heads = some (heads.setWidth 12) := if_pos hbits
    simp only [hset]
    exact if_pos (not_not.mp ((selectionFormed_iff hbits).not.mp h))
  · have hset : headSetOf heads = none := if_neg hbits
    simp only [hset]

/-- Head h is the lowest selected head that fails a test (R171). -/
abbrev FirstSelected (heads : Half) (fails : Head → Bool) (h : Head) : Prop :=
  heads.getLsbD h.val = true ∧ fails h = true ∧ ∀ k : Head, k < h → heads.getLsbD k.val = true → fails k = false

theorem allHeads_eq_finRange : allHeads = List.finRange 12 := by decide

/-- The heads of a set stand in ascending order. -/
theorem pairwise_headsIn (hs : HeadSet) : (headsIn hs).Pairwise (· < ·) := by
  rw [headsIn, allHeads_eq_finRange]
  exact (List.pairwise_lt_finRange 12).filter _

/-- In an ascending list the first element that passes a test is the lowest that does. -/
theorem find?_eq_some_of_lowest {l : List Head} (hl : l.Pairwise (· < ·)) {p : Head → Bool} {h : Head} (hmem : h ∈ l) (hp : p h = true)
    (hlow : ∀ k ∈ l, k < h → p k = false) : l.find? p = some h := by
  induction l with
  | nil => exact absurd hmem List.not_mem_nil
  | cons x l ih =>
    obtain ⟨hx, hl⟩ := List.pairwise_cons.mp hl
    rcases List.mem_cons.mp hmem with rfl | hmem
    · exact List.find?_cons_of_pos hp
    · have hxp : p x = false := hlow x List.mem_cons_self (hx h hmem)
      rw [List.find?_cons_of_neg (by simp [hxp])]
      exact ih hl hmem fun k hk => hlow k (List.mem_cons_of_mem x hk)

section
variable {s : State} {heads : Half} (bad : HeadEntry → Monitor → Bool)

theorem firstFailing_eq_none (h : ∀ k : Head, heads.getLsbD k.val = true → bad (s.head k) (s.monitor k) = false) :
    s.firstFailing (heads.setWidth 12) bad = none :=
  List.find?_eq_none.mpr fun k hk => by
    rw [mem_headsIn, inSet_setWidth] at hk
    simp [h k hk]

theorem firstFailing_eq_some {h : Head} (hfirst : FirstSelected heads (fun k => bad (s.head k) (s.monitor k)) h) :
    s.firstFailing (heads.setWidth 12) bad = some h := by
  obtain ⟨hsel, hfails, hlow⟩ := hfirst
  refine find?_eq_some_of_lowest (pairwise_headsIn _) (by rwa [mem_headsIn, inSet_setWidth]) hfails fun k hk hkh => hlow k hkh ?_
  rwa [mem_headsIn, inSet_setWidth] at hk

end

/-- Every selected head passes a test. -/
abbrev SoundSelected (heads : Half) (fails : Head → Bool) : Prop := ∀ h : Head, heads.getLsbD h.val = true → fails h = false

/-! #### The tests on the selected heads, in their order (R171) -/

section
variable {s : State} {heads : Half} {h : Head}

theorem selectionBar_of_gapless (hfirst : FirstSelected heads (fun k => (s.head k).gaps.isEmpty) h) :
    s.selectionBar (heads.setWidth 12) = some (naming .state h) := by
  simp only [State.selectionBar, firstFailing_eq_some (fun e _ => e.gaps.isEmpty) hfirst]

variable (hgaps : SoundSelected heads fun k => (s.head k).gaps.isEmpty)
include hgaps

theorem selectionBar_of_disabled (hfirst : FirstSelected heads (fun k => decide ((s.head k).state = .disabled)) h) :
    s.selectionBar (heads.setWidth 12) = some (naming .state h) := by
  simp only [State.selectionBar, firstFailing_eq_none (fun e _ => e.gaps.isEmpty) hgaps,
    firstFailing_eq_some (fun e _ => decide (e.state = .disabled)) hfirst]

variable (hstates : SoundSelected heads fun k => decide ((s.head k).state = .disabled))
include hstates

theorem selectionBar_of_faulted (hfirst : FirstSelected heads (fun k => decide ((s.head k).state = .faulted)) h) :
    s.selectionBar (heads.setWidth 12) = some (naming .faulted h) := by
  simp only [State.selectionBar, firstFailing_eq_none (fun e _ => e.gaps.isEmpty) hgaps,
    firstFailing_eq_none (fun e _ => decide (e.state = .disabled)) hstates,
    firstFailing_eq_some (fun e _ => decide (e.state = .faulted)) hfirst]

variable (hfaults : SoundSelected heads fun k => decide ((s.head k).state = .faulted))
include hfaults

/-- With gaps and heads neither DISABLED nor FAULTED the sensors and the latched faults are left (R171). -/
theorem selectionBar_of_states : s.selectionBar (heads.setWidth 12) =
    match s.firstFailing (heads.setWidth 12) fun _ m => decide (m.sensor = .failed) with
    | some h => some (naming .faulted h)
    | none => (s.firstFailing (heads.setWidth 12) fun _ m => m.fault.isSome).map (naming .faulted) := by
  simp only [State.selectionBar, firstFailing_eq_none (fun e _ => e.gaps.isEmpty) hgaps,
    firstFailing_eq_none (fun e _ => decide (e.state = .disabled)) hstates,
    firstFailing_eq_none (fun e _ => decide (e.state = .faulted)) hfaults] <;> rfl

theorem selectionBar_of_failed (hfirst : FirstSelected heads (fun k => decide ((s.monitor k).sensor = .failed)) h) :
    s.selectionBar (heads.setWidth 12) = some (naming .faulted h) := by
  rw [selectionBar_of_states hgaps hstates hfaults, firstFailing_eq_some (fun _ m => decide (m.sensor = .failed)) hfirst]

variable (hsensors : SoundSelected heads fun k => decide ((s.monitor k).sensor = .failed))
include hsensors

theorem selectionBar_of_latched (hfirst : FirstSelected heads (fun k => (s.monitor k).fault.isSome) h) :
    s.selectionBar (heads.setWidth 12) = some (naming .faulted h) := by
  rw [selectionBar_of_states hgaps hstates hfaults, firstFailing_eq_none (fun _ m => decide (m.sensor = .failed)) hsensors,
    firstFailing_eq_some (fun _ m => m.fault.isSome) hfirst]
  rfl

theorem selectionBar_of_sound (hlatched : SoundSelected heads fun k => (s.monitor k).fault.isSome) :
    s.selectionBar (heads.setWidth 12) = none := by
  rw [selectionBar_of_states hgaps hstates hfaults, firstFailing_eq_none (fun _ m => decide (m.sensor = .failed)) hsensors,
    firstFailing_eq_none (fun _ m => m.fault.isSome) hlatched]
  rfl

end

/-! ### The requests -/

theorem shortTable_eq (s : State) : s.shortTable =
    if lastSteps s.planner.tableX < ceilDiv (s.nat .pitchX) 10 then some 254
    else if lastSteps s.planner.tableY < ceilDiv (s.nat .pitchY) 10 then some 255 else none := rfl

section
variable {s : State} (hs : s.ready) (tag : Byte) {st : Status} {p : List Byte}
include hs

theorem exec_repair_refused {heads : Half} (hform : s.SelectionFormed heads) (h : s.repairBar (heads.setWidth 12) = some ⟨st, p⟩) :
    exec (.repair tag heads) s = .next (replied 0x14 tag st p (hunt s)) :=
  exec_answered (a := ⟨st, p⟩) rfl hs rfl (by decide)
    (repairRequest_refused (s := hunt s) hform.1 ((selectionFormed_iff (s := hunt s) hform.1).mp hform) h)

theorem exec_backtrack_refused {n : Half} (hn : n ≠ 0) (h : s.backtrackBar = some ⟨st, p⟩) :
    exec (.backtrack tag n) s = .next (replied 0x13 tag st p (hunt s)) :=
  exec_answered (a := ⟨st, p⟩) rfl hs rfl (by decide) (backtrackRequest_refused (s := hunt s) hn h)

theorem exec_repairAbandon_refused (h : s.repairAbandonBar = some ⟨st, p⟩) :
    exec (.repairAbandon tag) s = .next (replied 0x15 tag st p (hunt s)) :=
  exec_answered (a := ⟨st, p⟩) rfl hs rfl (by decide) (repairAbandonRequest_refused (s := hunt s) h)

theorem exec_frameOut_refused {dx dy : Half} (hrange : OffsetInRange dx dy) (h : s.offsetBar = some ⟨st, p⟩) :
    exec (.frameOut tag dx dy) s = .next (replied 0x16 tag st p (hunt s)) :=
  exec_answered (a := ⟨st, p⟩) rfl hs rfl (by decide) (frameOutRequest_refused (s := hunt s) hrange h)

theorem exec_frameOut_outside {dx dy : Half}
    (h : dx.toInt < -32000 ∨ 32000 < dx.toInt ∨ dy.toInt < -32000 ∨ 32000 < dy.toInt) :
    exec (.frameOut tag dx dy) s = .next (replied 0x16 tag .form [] (hunt s)) :=
  exec_answered (a := plain .form) rfl hs rfl (by decide) (frameOutRequest_of_outside (s := hunt s) h)

theorem exec_frameReturn_refused (h : s.offsetBar = some ⟨st, p⟩) :
    exec (.frameReturn tag) s = .next (replied 0x17 tag st p (hunt s)) :=
  exec_answered (a := ⟨st, p⟩) rfl hs rfl (by decide) (frameReturnRequest_refused (s := hunt s) h)

theorem exec_home_refused (h : s.homeBar = some ⟨st, p⟩) :
    exec (.home tag none) s = .next (replied 0x18 tag st p (hunt s)) :=
  exec_answered (a := ⟨st, p⟩) rfl hs rfl (by decide) (homeRequest_refused (s := hunt s) h)

theorem exec_needleUp_refused (h : s.slotCheck atRest = some st) :
    exec (.needleUp tag) s = .next (replied 0x19 tag st [] (hunt s)) :=
  exec_needleUp hs tag (needleUpRequest_refused (s := hunt s) h)

end

/-- Settles O48: each request's checks in their order, by the first of them that fails. -/
theorem operationsShareTheirChecks : Obligations.OperationsShareTheirChecks := by
  refine ⟨fun s => shortTable_eq s, fun tag s hs => ⟨fun heads => ?_, ?_, ?_, ?_, ?_, ?_, ?_, ?_, ?_, ?_⟩⟩
  · intro sel good answered accepts stands first sound gapless disabled faulted failed latched
    have hin (h : s.run.state = .ready ∨ s.run.state = .halted) := mem_armedAtRest.mpr h
    have hcheck (h : accepts) : s.slotCheck armedAtRest = none := slotCheck_of_empty (hin h.2.1) h.2.2
    refine ⟨fun h => exec_answered (a := plain .form) rfl hs rfl (by decide) (repairRequest_of_malformed (s := hunt s) h),
      fun hgood hready hhalted => exec_repair_refused hs tag hgood ?_,
      fun hgood hstate hslot => exec_repair_refused hs tag hgood ?_,
      fun haccepts h => exec_repair_refused hs tag haccepts.1 ?_,
      fun hstands href => exec_repair_refused hs tag hstands.1.1 ?_, fun hstands href => ?_⟩
    · simp [State.repairBar, slotCheck_of_outside (mem_armedAtRest.not.mpr (not_or.mpr ⟨hready, hhalted⟩)), plain]
    · simp [State.repairBar, slotCheck_of_full (hin hstate) hslot, plain]
    · simp [State.repairBar, hcheck haccepts, rewindBar_of_state h, plain]
    · obtain ⟨haccepts, ha, hup, hoff⟩ := hstands
      simp [State.repairBar, hcheck haccepts, rewindBar_of_unref ha hup hoff href, plain]
    · obtain ⟨haccepts, ha, hup, hoff⟩ := hstands
      have hbar : s.repairBar (heads.setWidth 12) = (s.selectionBar (heads.setWidth 12)).or s.tablesBar := by
        simp [State.repairBar, hcheck haccepts, rewindBar_eq_none ha hup hoff href]
      have hnamed {st : Status} {h : Head} (hsel : s.selectionBar (heads.setWidth 12) = some (naming st h)) :
          answered st [BitVec.ofNat 8 (h.val + 1)] := by
        rw [← u8_eq]
        exact exec_repair_refused hs tag haccepts.1 (by rw [hbar, hsel]; rfl)
      exact ⟨fun h h1 => hnamed (selectionBar_of_gapless h1), fun h g1 h2 => hnamed (selectionBar_of_disabled g1 h2),
        fun h g1 g2 h3 => hnamed (selectionBar_of_faulted g1 g2 h3), fun h g1 g2 g3 h4 => hnamed (selectionBar_of_failed g1 g2 g3 h4),
        fun h g1 g2 g3 g4 h5 => hnamed (selectionBar_of_latched g1 g2 g3 g4 h5),
        fun i g1 g2 g3 g4 g5 hshort => exec_repair_refused hs tag haccepts.1
          (by rw [hbar, selectionBar_of_sound g1 g2 g3 g4 g5, tablesBar_of_short hshort]; rfl)⟩
  · intro i kind n hn hslot hmem hready hhalted answered wrong
    simp only [List.mem_cons, Prod.mk.injEq, List.not_mem_nil, or_false] at hmem
    rcases hmem with ⟨rfl, rfl⟩ | ⟨rfl, rfl⟩
    · have hbar : s.backtrackBar = (s.rewindBar.map plain).or s.tablesBar := by
        simp [State.backtrackBar, slotCheck_of_empty (mem_armedAtRest.mpr (hready rfl)) hslot]
      have hwrong : wrong ↔ s.run.repair.active = true := by simp [wrong]
      rw [hwrong, Bool.not_eq_true]
      exact ⟨fun h => exec_backtrack_refused hs tag hn (by rw [hbar, rewindBar_of_state h]; rfl),
        fun ha hup hoff href =>
          exec_backtrack_refused hs tag hn (by rw [hbar, rewindBar_of_unref ha hup hoff href]; rfl),
        fun k ha hup hoff href hshort => exec_backtrack_refused hs tag hn
          (by rw [hbar, rewindBar_eq_none ha hup hoff href, tablesBar_of_short hshort]; rfl)⟩
    · have hbar : s.repairAbandonBar = (s.abandonBar.map plain).or s.tablesBar := by
        simp [State.repairAbandonBar, slotCheck_of_empty (accepted := [.halted]) (by simp [hhalted rfl]) hslot]
      have hwrong : wrong ↔ s.run.repair.active = false := by simp [wrong]
      rw [hwrong, Bool.not_eq_false]
      exact ⟨fun h => exec_repairAbandon_refused hs tag (by rw [hbar, abandonBar_of_state h]; rfl),
        fun ha hup hoff href =>
          exec_repairAbandon_refused hs tag (by rw [hbar, abandonBar_of_unref ha hup hoff href]; rfl),
        fun k ha hup hoff href hshort => exec_repairAbandon_refused hs tag
          (by rw [hbar, abandonBar_eq_none ha hup hoff href, tablesBar_of_short hshort]; rfl)⟩
  · intro i kind dx dy hx hx' hy hy' hslot hstate hmem answered
    have hrefused {st : Status} {p : List Byte} (h : s.offsetMoveBar = some ⟨st, p⟩) : answered st p := by
      have hbar : s.offsetBar = some ⟨st, p⟩ := by
        rw [State.offsetBar, slotCheck_of_empty (mem_armedAtRest.mpr hstate) hslot, h]; rfl
      simp only [List.mem_cons, Prod.mk.injEq, List.not_mem_nil, or_false] at hmem
      rcases hmem with ⟨rfl, rfl⟩ | ⟨rfl, rfl⟩
      · exact exec_frameOut_refused hs tag ⟨hx, hx', hy, hy'⟩ hbar
      · exact exec_frameReturn_refused hs tag hbar
    exact ⟨fun h => hrefused (offsetMoveBar_of_down h),
      fun hup href => hrefused (offsetMoveBar_of_unref hup href),
      fun k hup href hshort => hrefused (offsetMoveBar_of_short hup href hshort)⟩
  · exact fun dx dy h => exec_frameOut_outside hs tag h
  · exact exec_answered (a := plain .form) rfl hs rfl (by decide) (backtrackRequest_of_zero (s := hunt s))
  · intro hslot hrun hlocked
    have hbar : s.homeBar = if s.restsUp then s.tablesBar else some (plain .state) := by
      rw [State.homeBar, slotCheck_of_empty (mem_atRest hrun hlocked) hslot]; rfl
    exact ⟨fun hup => exec_home_refused hs tag (by simp [hbar, hup, plain]),
      fun k hup hshort => exec_home_refused hs tag (by rw [hbar, if_pos hup, tablesBar_of_short hshort])⟩
  · intro i kind hmem
    have hrefused {st : Status} (h : s.slotCheck atRest = some st) : exec i s = .next (replied kind tag st [] (hunt s)) := by
      simp only [List.mem_cons, Prod.mk.injEq, List.not_mem_nil, or_false] at hmem
      rcases hmem with ⟨rfl, rfl⟩ | ⟨rfl, rfl⟩
      · exact exec_needleUp_refused hs tag h
      · exact exec_home_refused hs tag (by rw [State.homeBar, h]; rfl)
    exact ⟨fun h => hrefused (slotCheck_of_state h),
      fun hrun hlocked hslot => hrefused (slotCheck_of_full (mem_atRest hrun hlocked) hslot)⟩
  · intro i kind n dx dy hn hx hx' hy hy' hmem
    have hrefused {st : Status} (h : s.slotCheck armedAtRest = some st) : exec i s = .next (replied kind tag st [] (hunt s)) := by
      have hoffset : s.offsetBar = some (plain st) := by rw [State.offsetBar, h]; rfl
      simp only [List.mem_cons, Prod.mk.injEq, List.not_mem_nil, or_false] at hmem
      rcases hmem with ⟨rfl, rfl⟩ | ⟨rfl, rfl⟩ | ⟨rfl, rfl⟩
      · exact exec_frameOut_refused hs tag ⟨hx, hx', hy, hy'⟩ hoffset
      · exact exec_frameReturn_refused hs tag hoffset
      · exact exec_backtrack_refused hs tag hn (by rw [State.backtrackBar, h]; rfl)
    exact ⟨fun h => hrefused (slotCheck_of_outside (mem_armedAtRest.not.mpr (not_or.mpr h))),
      fun hstate hslot => hrefused (slotCheck_of_full (mem_armedAtRest.mpr hstate) hslot)⟩
  · intro h
    have hcheck : s.slotCheck [.halted] = some .state := slotCheck_of_outside (by simpa using h)
    exact exec_repairAbandon_refused hs tag (by rw [State.repairAbandonBar, hcheck]; rfl)
  · intro h hslot
    have hcheck : s.slotCheck [.halted] = some .busy := slotCheck_of_full (by simp [h]) hslot
    exact exec_repairAbandon_refused hs tag (by rw [State.repairAbandonBar, hcheck]; rfl)

end Sys2Proof.Machine
end

section
/-! PROOFS. A start's checks in their order (R86), and the run that it begins, up to its first preparatory step (R54, R87, R92, R127, R143,
R163, R176). -/

namespace Sys2Proof.Machine

/-! ### The checks of a start (R86) -/

/-- A fitted head is FAULTED (R86). -/
abbrev State.FaultedHead (s : State) (h : Head) : Prop := s.fitted h = true ∧ (s.head h).state = .faulted

/-- The sensor of a fitted ACTIVE head has failed (R86). -/
abbrev State.FailedHead (s : State) (h : Head) : Prop :=
  s.fitted h = true ∧ (s.head h).state = .active ∧ (s.monitor h).sensor = .failed

/-- The shaft stands with the needles up. -/
abbrev State.Stands (s : State) : Prop := s.shaft.motion = .stopped ∧ s.shaft.needleUp = true

/-- The design goes on past the cursor. -/
abbrev State.GoesOn (s : State) : Prop := ¬ (s.store.endLoaded = true ∧ s.store.cursor = s.store.fill)

/-- The checks of R86 before those on the heads. -/
abbrev State.MayStart (s : State) : Prop :=
  (s.run.state = .ready ∨ s.run.state = .halted) ∧ s.run.slot = none ∧ s.Stands ∧ s.GoesOn

theorem restsUp_iff (s : State) : s.restsUp = true ↔ s.Stands := by simp [State.restsUp]

theorem ended_iff (st : Store) : st.ended = true ↔ st.endLoaded = true ∧ st.cursor = st.fill := by simp [Store.ended]

section
variable {s : State}

theorem startCheck_of_state (h : ¬ (s.run.state = .ready ∨ s.run.state = .halted)) : s.startCheck = some (.state, none) := by
  unfold State.startCheck
  exact if_pos (not_or.mp h)

variable (hstate : s.run.state = .ready ∨ s.run.state = .halted)
include hstate

theorem startCheck_of_full (h : s.run.slot ≠ none) : s.startCheck = some (.busy, none) := by
  have hslot : ¬ s.slotEmpty = true := by simpa [State.slotEmpty] using h
  unfold State.startCheck
  rw [if_neg (not_and_or.mpr (by simpa using hstate)), if_pos hslot]

theorem startCheck_of_unready (hslot : s.run.slot = none) (h : ¬ s.Stands ∨ ¬ s.GoesOn) : s.startCheck = some (.state, none) := by
  have hempty : ¬ ¬ s.slotEmpty = true := by simp [State.slotEmpty, hslot]
  unfold State.startCheck
  rw [if_neg (not_and_or.mpr (by simpa using hstate)), if_neg hempty]
  by_cases hstands : s.Stands
  · have hended : s.store.ended = true := (ended_iff _).mpr (not_not.mp (h.resolve_left (not_not.mpr hstands)))
    rw [if_neg (not_not.mpr ((restsUp_iff s).mpr hstands)), if_pos hended]
  · rw [if_pos ((restsUp_iff s).not.mpr hstands)]

end

/-- The lowest FAULTED head, if there is one (R86). -/
def State.faultedHead? (s : State) : Option Head := allHeads.find? fun h => decide (s.FaultedHead h)

/-- The lowest ACTIVE head with a failed sensor, if there is one (R86). -/
def State.failedHead? (s : State) : Option Head := allHeads.find? fun h => decide (s.FailedHead h)

/-- Past the first checks the heads, the drive and the arm check decide (R86). -/
theorem startCheck_of_mayStart {s : State} (h : s.MayStart) : s.startCheck =
    (s.faultedHead?.map fun h => (.faulted, some (h.val + 1))).or ((s.failedHead?.map fun h => (.faulted, some (h.val + 1))).or
      (if s.pins.driveReady = true ∧ s.pins.driveFault = false then s.armCheck else some (.faulted, some 0))) := by
  obtain ⟨hstate, hslot, hstands, hgoes⟩ := h
  have hempty : ¬ ¬ s.slotEmpty = true := by simp [State.slotEmpty, hslot]
  have hfaulted : (allHeads.find? fun h => s.fitted h && decide ((s.head h).state = .faulted)) = s.faultedHead? :=
    congrArg (List.find? · allHeads) (funext fun h => by simp [State.FaultedHead])
  have hfailed : (allHeads.find? fun h => s.isActive h && decide ((s.monitor h).sensor = .failed)) = s.failedHead? :=
    congrArg (List.find? · allHeads) (funext fun h => by simp [State.FailedHead, State.isActive, Bool.and_assoc])
  have hdrive : s.driveIsReady = true ↔ s.pins.driveReady = true ∧ s.pins.driveFault = false := by simp [State.driveIsReady]
  unfold State.startCheck
  rw [if_neg (not_and_or.mpr (by simpa using hstate)), if_neg hempty, if_neg (not_not.mpr ((restsUp_iff s).mpr hstands)),
    if_neg ((ended_iff _).not.mpr hgoes), hfaulted, hfailed]
  cases s.faultedHead? with
  | some h => rfl
  | none =>
    cases s.failedHead? with
    | some h => rfl
    | none =>
      by_cases hd : s.driveIsReady = true
      · simp [hd, hdrive.mp hd]
      · simp [hd, hdrive.not.mp hd]

/-- A search over the heads finds none exactly when no head passes. -/
theorem find?_allHeads_eq_none {p : Head → Prop} [DecidablePred p] : (allHeads.find? fun h => decide (p h)) = none ↔ ∀ h, ¬ p h := by
  simp [List.find?_eq_none, mem_allHeads]

/-- It finds the lowest head that passes. -/
theorem find?_allHeads_eq_some {p : Head → Prop} [DecidablePred p] {h : Head} (hp : p h) (hlow : ∀ k : Head, k < h → ¬ p k) :
    (allHeads.find? fun h => decide (p h)) = some h :=
  find?_eq_some_of_lowest (by rw [allHeads_eq_finRange]; exact List.pairwise_lt_finRange 12) (mem_allHeads h) (decide_eq_true hp)
    fun k _ hk => decide_eq_false (hlow k hk)

section
variable {s : State} (hmay : s.MayStart)
include hmay

theorem startCheck_of_faulted {h : Head} (hh : s.FaultedHead h) (hlow : ∀ k : Head, k < h → ¬ s.FaultedHead k) :
    s.startCheck = some (.faulted, some (h.val + 1)) := by
  rw [startCheck_of_mayStart hmay, State.faultedHead?, find?_allHeads_eq_some hh hlow]
  rfl

variable (hfaulted : ∀ h, ¬ s.FaultedHead h)
include hfaulted

theorem startCheck_of_failed {h : Head} (hh : s.FailedHead h) (hlow : ∀ k : Head, k < h → ¬ s.FailedHead k) :
    s.startCheck = some (.faulted, some (h.val + 1)) := by
  rw [startCheck_of_mayStart hmay, State.faultedHead?, find?_allHeads_eq_none.mpr hfaulted, State.failedHead?,
    find?_allHeads_eq_some hh hlow]
  rfl

variable (hfailed : ∀ h, ¬ s.FailedHead h)
include hfailed

/-- With sound heads the drive and the arm check are left (R86). -/
theorem startCheck_of_sound : s.startCheck =
    if s.pins.driveReady = true ∧ s.pins.driveFault = false then s.armCheck else some (.faulted, some 0) := by
  rw [startCheck_of_mayStart hmay, State.faultedHead?, find?_allHeads_eq_none.mpr hfaulted, State.failedHead?,
    find?_allHeads_eq_none.mpr hfailed]
  rfl

end

/-- A start passes exactly when each check of R86 is passed. -/
theorem startCheck_eq_none_iff (s : State) : s.startCheck = none ↔
    s.MayStart ∧ (∀ h, ¬ s.FaultedHead h) ∧ (∀ h, ¬ s.FailedHead h) ∧
      (s.pins.driveReady = true ∧ s.pins.driveFault = false) ∧ s.armCheck = none := by
  constructor
  · intro h
    have hmay : s.MayStart := by
      by_contra hno
      by_cases hstate : s.run.state = .ready ∨ s.run.state = .halted
      · by_cases hslot : s.run.slot = none
        · have hunready : ¬ s.Stands ∨ ¬ s.GoesOn := not_and_or.mp fun hrest => hno ⟨hstate, hslot, hrest⟩
          rw [startCheck_of_unready hstate hslot hunready] at h
          cases h
        · rw [startCheck_of_full hstate hslot] at h
          cases h
      · rw [startCheck_of_state hstate] at h
        cases h
    rw [startCheck_of_mayStart hmay, Option.or_eq_none_iff, Option.or_eq_none_iff, Option.map_eq_none_iff, Option.map_eq_none_iff] at h
    obtain ⟨hfaulted, hfailed, hdrive⟩ := h
    split at hdrive
    · next hready => exact ⟨hmay, find?_allHeads_eq_none.mp hfaulted, find?_allHeads_eq_none.mp hfailed, hready, hdrive⟩
    · cases hdrive
  · rintro ⟨hmay, hfaulted, hfailed, hready, harm⟩
    rw [startCheck_of_sound hmay hfaulted hfailed, if_pos hready, harm]

/-! ### The run begun (R54, R87, R92, R127, R143, R163, R176) -/

/-- Opening gaps at a start changes no more of a head than its gaps (R176). -/
theorem openAtStart_eq (l : List Head) (s : State) :
    openAtStart l s = { s with table := { s.table with heads := (openAtStart l s).table.heads } } ∧
    ∀ h : Head, ((openAtStart l s).head h).state = (s.head h).state := by
  induction l generalizing s with
  | nil => exact ⟨rfl, fun _ => rfl⟩
  | cons x l ih =>
    let u := if s.wantsGap x then (openHeadGap x s.store.cursor s).getD s else s
    have hone : u = { s with table := { s.table with heads := u.table.heads } } ∧ ∀ h : Head, (u.head h).state = (s.head h).state := by
      simp only [u]
      split
      · unfold openHeadGap
        cases openGapAt (max s.store.cursor s.store.retire) (s.head x).gaps with
        | none => exact ⟨rfl, fun _ => rfl⟩
        | some gaps =>
          refine ⟨rfl, fun h => ?_⟩
          change ((s.modHead x fun e => { e with gaps := gaps }).head h).state = (s.head h).state
          rw [State.modHead_head]
          split
          · next hx => rw [hx]
          · rfl
      · exact ⟨rfl, fun _ => rfl⟩
    obtain ⟨heq, hstates⟩ := ih u
    obtain ⟨hu, hustates⟩ := hone
    refine ⟨?_, fun h => (hstates h).trans (hustates h)⟩
    change openAtStart l u = { s with table := { s.table with heads := (openAtStart l u).table.heads } }
    rw [heq, hu]

/-- The state in which a run has begun and its first preparatory step is looked for (R87). -/
def State.begunBy (who : Starter) (s : State) : State :=
  let s := clearStopPoint (clearResume s)
  let s := s.modMonitors fun _ m => { m with member := false }
  let s := s.modTable fun t => { t with sewSet := 0, sewTurn := none }
  let s := if s.run.repair.active then s else openAtStart allHeads s
  let s := s.modRun fun r => { r with report := .empty, kind := none, rested := none, work := none, starter := who }
  (setRunState .running s).modRun fun r => { r with phase := some .starting }

theorem startRun_eq (who : Starter) (s : State) : startRun who s = returnStep (s.begunBy who) := rfl

/-- Entering RUNNING changes the run state and the notices alone (R84). -/
theorem setRunState_running (s : State) : setRunState .running s =
    { s with run := { s.run with state := .running }, notices := (setRunState .running s).notices } := by
  unfold setRunState
  split
  · next h => rw [← h]
  · rfl

/-- A run begins with a change of the run, the plan, the monitors' members, the sew set, the gaps and the notices alone. -/
theorem begunBy_eq (who : Starter) (s : State) : s.begunBy who = { s with
    run := { s.run with
      state := .running, phase := some .starting, kind := none, report := .empty, resume := none, colourTimer := .stopped
      work := none, rested := none, starter := who }
    planner := (clearStopPoint (clearResume s)).planner
    thread := { s.thread with monitors := mapTwelve (fun _ m => { m with member := false }) s.thread.monitors }
    table := { s.table with heads := (s.begunBy who).table.heads, sewSet := 0, sewTurn := none }
    notices := (s.begunBy who).notices } ∧
    ∀ k : Head, ((s.begunBy who).head k).state = (s.head k).state := by
  let v := ((clearStopPoint (clearResume s)).modMonitors fun _ m => { m with member := false }).modTable
    fun t => { t with sewSet := 0, sewTurn := none }
  let w := if v.run.repair.active then v else openAtStart allHeads v
  have hopened : w = { v with table := { v.table with heads := w.table.heads } } ∧ ∀ k : Head, (w.head k).state = (v.head k).state := by
    simp only [w]
    split
    · exact ⟨rfl, fun _ => rfl⟩
    · exact openAtStart_eq allHeads v
  obtain ⟨hw, hstates⟩ := hopened
  let x := w.modRun fun r => { r with report := .empty, kind := none, rested := none, work := none, starter := who }
  have hbegun : s.begunBy who = (setRunState .running x).modRun fun r => { r with phase := some .starting } := rfl
  have htable : (s.begunBy who).table = w.table := by rw [hbegun, State.modRun_table, setRunState_table]; rfl
  refine ⟨?_, fun k => ?_⟩
  · have hx : x = { v with
        run := { v.run with report := .empty, kind := none, rested := none, work := none, starter := who }
        table := { v.table with heads := w.table.heads } } := by
      simp only [x]
      rw [hw]
      rfl
    rw [htable, hbegun, setRunState_running, hx]
    rfl
  · have hhead : (s.begunBy who).head k = w.head k := by simp only [State.head, htable]
    rw [hhead, hstates k]
    rfl

section
variable (who : Starter) {s : State}

/-- The run begun, as R54, R87, R92, R127, R143 and R163 have it. -/
theorem begun_begunBy (hslot : s.run.slot = none) : s.Begun who (s.begunBy who) := by
  obtain ⟨heq, -⟩ := begunBy_eq who s
  rw [heq]
  exact ⟨rfl, rfl, rfl, rfl, rfl, rfl, rfl, hslot, rfl, rfl, fun h => congrArg Monitor.member (mapTwelve_get _ _ h), rfl, rfl, rfl, rfl,
    rfl, rfl, rfl⟩

/-- What the beginning of a run leaves of the inputs, the frame, the needle bar and the test. -/
theorem begunBy_leaves : (s.begunBy who).pins = s.pins ∧ (s.begunBy who).frame = s.frame ∧ (s.begunBy who).needle = s.needle ∧
    (s.begunBy who).thread.test = s.thread.test ∧ (s.begunBy who).run.work = none := by
  obtain ⟨heq, -⟩ := begunBy_eq who s
  rw [heq]
  exact ⟨rfl, rfl, rfl, rfl, rfl⟩

theorem untested_congr {t : State} (hparams : t.params = s.params) (hstates : ∀ h : Head, (t.head h).state = (s.head h).state)
    (hsensors : ∀ h : Head, (t.monitor h).sensor = (s.monitor h).sensor) : t.untested = s.untested := by
  have hactive (h : Head) : t.isActive h = s.isActive h := by
    rw [State.isActive, State.isActive, hstates, State.fitted, State.nat, State.par, hparams]
    rfl
  have hwants : (fun h => t.isActive h && decide ((t.monitor h).sensor = .notTested)) =
      fun h => s.isActive h && decide ((s.monitor h).sensor = .notTested) :=
    funext fun h => by rw [hactive, hsensors]
  rw [State.untested, hwants]
  rfl

/-- The heads to be tested are those that wanted a test before (R87, R155). -/
theorem untested_begunBy : (s.begunBy who).untested = s.untested := by
  obtain ⟨heq, hstates⟩ := begunBy_eq who s
  have hthread : (s.begunBy who).thread =
      { s.thread with monitors := mapTwelve (fun _ m => { m with member := false }) s.thread.monitors } := by rw [heq]
  have hmonitor (h : Head) : (s.begunBy who).monitor h = { s.monitor h with member := false } := by
    rw [State.monitor, hthread]
    exact mapTwelve_get _ _ h
  exact untested_congr (by rw [heq]) hstates fun h => by rw [hmonitor]

/-! ### Its first preparatory step (R78, R87, R136, R155) -/

/-- A frame that is out and off the design point returns first (R78). -/
theorem startRun_returns (hoff : s.frame.offset ≠ .zero) (haway : s.settledFrame.coord ≠ s.designPoint) :
    ∃ m, startRun who s = { s.begunBy who with
        run := { (s.begunBy who).run with work := some .returnMove }, frame := s.settledFrame.lay m } ∧
      s.LaysChunk .returnMove s.settledFrame.coord s.designPoint m ∧ m.turn = none ∧ m.abort = none := by
  obtain ⟨heq, -⟩ := begunBy_eq who s
  have hout : (s.begunBy who).frame.offset ≠ .zero := by rw [heq]; exact hoff
  have hsettled : (s.begunBy who).settledFrame = s.settledFrame := by rw [heq]; rfl
  have hpoint : (s.begunBy who).designPoint = s.designPoint := by rw [heq]; rfl
  obtain ⟨m, hm, habort, hturn, hlays⟩ := beginChunked_lays (s := s.begunBy who) (p := .returnMove) (turn := none)
    (target := (s.begunBy who).designPoint) (by rw [hsettled, hpoint]; exact haway)
  refine ⟨m, ?_, ?_, hturn, habort⟩
  · rw [startRun_eq, returnStep, if_neg hout]
    simp only [hm, Bool.false_eq_true, if_false, hsettled]
    rfl
  · rw [hsettled, hpoint, heq] at hlays
    exact hlays

variable (hhome : s.frame.offset = .zero)
include hhome

/-- A frame that is not out goes on to the sensors (R87). -/
theorem startRun_home : startRun who s = sensorStep (s.begunBy who) := by
  obtain ⟨-, hframe, -⟩ := begunBy_leaves (s := s) who
  rw [startRun_eq, returnStep, if_pos (by rw [hframe]; exact hhome)]

theorem startRun_tests (h : s.untested ≠ 0) : startRun who s = { s.begunBy who with
    run := { (s.begunBy who).run with work := some .sensorTest }
    thread := { (s.begunBy who).thread with testLoad := s.untested, test := some ⟨s.untested, s.pins.tension, 50⟩ } } := by
  obtain ⟨hpins, -⟩ := begunBy_leaves (s := s) who
  have hlevels : (s.begunBy who).pins.tension = s.pins.tension := congrArg Pins.tension hpins
  rw [startRun_home who hhome, sensorStep_tests (by rw [untested_begunBy]; exact h), untested_begunBy, hlevels]

variable (htested : s.untested = 0)
include htested

theorem startRun_changes {n : Nat} (hplan : s.planNeedle = some n) (hsettled : s.needle.settled ≠ some n) (hup : s.restsUp = true) :
    startRun who s = { s.begunBy who with
      run := { (s.begunBy who).run with work := some .needle }
      needle := { s.needle with
        target := n, request := true, watch := none
        change := some ⟨.start, n, who, s.nat .needleTimeout, s.nat .needleTimeout, s.clock⟩ } } := by
  obtain ⟨heq, -⟩ := begunBy_eq who s
  have hchange := sensorStep_changes (s := s.begunBy who) ((untested_begunBy who).trans htested) (n := n)
    (by rw [heq]; exact hplan) (by rw [heq]; exact hsettled) (by rw [heq]; exact hup)
  rw [startRun_home who hhome, hchange, heq]
  rfl

theorem startRun_calls (hplan : ∀ n, s.planNeedle = some n → s.needle.settled = some n) :
    startRun who s = call .nothing (s.begunBy who) := by
  obtain ⟨heq, -⟩ := begunBy_eq who s
  rw [startRun_home who hhome]
  exact sensorStep_calls ((untested_begunBy who).trans htested) (by rw [heq]; exact hplan)

end

/-! ### START, AUTOMATIC_START and COLOUR_DELAY_EXPIRY (R86, R99 to R101) -/

theorem exec_start {tag : Byte} {tension : List (BitVec 10)} {s t : State} {st : Status} {p : List Byte} (hs : s.ready)
    (h : startRequest (hunt (setTension tension s)) = (t, ⟨st, p⟩)) :
    exec (.start tag tension) s = .next (replied 0x0F tag st p t) :=
  congrArg _ (ask_answered (i := .start tag tension) (s := setTension tension s) (a := ⟨st, p⟩) hs rfl (by decide) h)

theorem startRequest_passed {s : State} (h : s.startCheck = none) : startRequest s = (startRun .host s, plain .done) := by
  simp only [startRequest, h]

theorem startRequest_refused {s : State} {r : Status × Option Nat} (h : s.startCheck = some r) :
    startRequest s = (s, ⟨r.1, r.2.elim [] fun n => [BitVec.ofNat 8 n]⟩) := by
  obtain ⟨st, item⟩ := r
  simp only [startRequest, h, refusal]
  cases item <;> simp

theorem exec_automaticStart {tension : List (BitVec 10)} {s t : State} (hs : s.awake) (h : startItself (setTension tension s) = t) :
    exec (.automaticStart tension) s = .next (settle t) := by
  rw [← h]; exact congrArg _ (event_of_awake hs)

section
variable {s : State}

theorem startItself_not_due (h : s.startsItself = false) : startItself s = s := by simp [startItself, h]

variable (hdue : s.startsItself = true)
include hdue

theorem startItself_passed (h : s.startCheck = none) : startItself s = startRun .part s := by
  simp only [startItself, hdue, if_true, h]

/-- A refused automatic start leaves no wait, and raises STATE with the refusal (R100). -/
theorem startItself_refused {r : Status × Option Nat} (h : s.startCheck = some r) : startItself s =
    raiseNotice srcState s.store.cursor (stateDetail s.run.state s.run.state s.store.cursor (some (r.1, r.2.getD 0)))
      { s with run := { s.run with resume := none, colourTimer := .stopped } } := by
  simp only [startItself, hdue, if_true, h]
  rfl

end

/-- The colour delay timer of a wait that is still COLOUR starts the run as it expires (R97, R101). -/
theorem colourDelayExpires_starts {s : State} {ms : Nat} (htimer : s.run.colourTimer = .running ms) (hwait : s.run.resume = some .colour)
    (hslot : s.run.slot = none) :
    colourDelayExpires s = startItself { s with run := { s.run with colourTimer := .expired } } := by
  unfold colourDelayExpires
  rw [htimer]
  exact if_pos ⟨hwait, by simp [State.slotEmpty, hslot]⟩

/-- Settles O44: each clause by the request's or the event's own equation, and the run begun by its first step. -/
theorem startTakesItsFirstStep : Obligations.StartTakesItsFirstStep := by
  unfold Obligations.StartTakesItsFirstStep
  intro returns tests changes calls begins
  have hbegins (who : Starter) (tension : List (BitVec 10)) (l : Link) (s : State) (hcheck : s.startCheck = none)
      (h : returns s ∨ tests s ∨ changes s) : begins who tension s (startRun who { setTension tension s with link := l }) := by
    let u : State := { setTension tension s with link := l }
    obtain ⟨⟨-, hslot, hstands, -⟩, -⟩ := (startCheck_eq_none_iff s).mp hcheck
    have hbegun : u.Begun who (u.begunBy who) := begun_begunBy who hslot
    obtain ⟨hpins, hframe, hneedle, htest, -⟩ := begunBy_leaves (s := u) who
    rcases h with ⟨hoff, haway⟩ | ⟨hhome, huntested⟩ | ⟨hhome, htested, n, hplan, hsettled⟩
    · obtain ⟨m, ht, hlays, hturn, habort⟩ := startRun_returns who (s := u) hoff haway
      rw [ht]
      exact ⟨hbegun, hpins, fun _ => ⟨rfl, htest, hneedle, m, rfl, hlays, hturn, habort⟩, fun h => absurd h.1 hoff,
        fun h => absurd h.1 hoff, fun h => absurd h.1 hoff⟩
    · rw [startRun_tests who (s := u) hhome huntested]
      refine ⟨hbegun, hpins, fun h => absurd hhome h.1, fun _ => ⟨rfl, hframe, hneedle, rfl, ?_⟩, fun h => absurd h.2.1 huntested,
        fun h => absurd h.2.1 huntested⟩
      exact congrArg (fun p : Pins => some (SensorTest.mk s.untested p.tension 50)) hpins.symm
    · rw [startRun_changes who (s := u) hhome htested hplan hsettled ((restsUp_iff s).mpr hstands)]
      exact ⟨hbegun, hpins, fun h => absurd hhome h.1, fun h => absurd htested h.2, fun _ => ⟨rfl, hframe, htest, n, hplan, rfl⟩,
        fun h => absurd (h.2.2 n hplan) hsettled⟩
  have hcalls (who : Starter) (tension : List (BitVec 10)) (l : Link) (s : State) (hcheck : s.startCheck = none) (h : calls s) :
      begins who tension s (({ setTension tension s with link := l } : State).begunBy who) := by
    obtain ⟨⟨-, hslot, -, -⟩, -⟩ := (startCheck_eq_none_iff s).mp hcheck
    obtain ⟨hhome, htested, hplan⟩ := h
    let u : State := { setTension tension s with link := l }
    have hbegun : u.Begun who (u.begunBy who) := begun_begunBy who hslot
    obtain ⟨hpins, hframe, hneedle, htest, hwork⟩ := begunBy_leaves (s := u) who
    exact ⟨hbegun, hpins, fun h => absurd hhome h.1, fun h => absurd htested h.2,
      fun ⟨_, _, n, hn, hother⟩ => absurd (hplan n hn) hother, fun _ => ⟨hwork, hframe, hneedle, htest⟩⟩
  refine ⟨fun tag tension s hs => ⟨fun r hr => ?_, fun hcheck h => ?_, fun hcheck h => ?_⟩,
    fun tension s hs => ⟨fun hdue hcheck h => ?_, fun hdue hcheck h => ?_, fun r hdue hr => ?_, fun hdue => ?_⟩,
    fun s hs ms htimer hwait hslot => ?_, fun s => ?_⟩
  · exact exec_start hs (startRequest_refused (s := hunt (setTension tension s)) hr)
  · exact ⟨_, exec_start hs (startRequest_passed (s := hunt (setTension tension s)) hcheck), hbegins .host tension (hunt s).link s hcheck h⟩
  · obtain ⟨hhome, htested, hplan⟩ := h
    refine ⟨_, hcalls .host tension (hunt s).link s hcheck ⟨hhome, htested, hplan⟩, ?_⟩
    have hrun := startRun_calls .host (s := hunt (setTension tension s)) hhome htested hplan
    exact exec_start hs ((startRequest_passed (s := hunt (setTension tension s)) hcheck).trans (congrArg (·, plain .done) hrun))
  · exact ⟨_, exec_automaticStart hs (startItself_passed (s := setTension tension s) hdue hcheck),
      hbegins .part tension s.link s hcheck h⟩
  · obtain ⟨hhome, htested, hplan⟩ := h
    refine ⟨_, hcalls .part tension s.link s hcheck ⟨hhome, htested, hplan⟩, ?_⟩
    exact exec_automaticStart hs ((startItself_passed (s := setTension tension s) hdue hcheck).trans
      (startRun_calls .part (s := setTension tension s) hhome htested hplan))
  · exact exec_automaticStart hs (startItself_refused (s := setTension tension s) hdue hr)
  · exact exec_automaticStart hs (startItself_not_due (s := setTension tension s) hdue)
  · have hexpires : exec .colourDelayExpiry s = .next (settle (colourDelayExpires s)) := congrArg _ (event_of_awake hs)
    let u : State := { s with run := { s.run with colourTimer := .expired } }
    have hstarts : exec (.automaticStart []) u = .next (settle (startItself u)) :=
      exec_automaticStart (s := u) hs (congrArg startItself (setTension_nil u))
    rw [hexpires, colourDelayExpires_starts htimer hwait hslot]
    exact hstarts.symm
  · intro state stands goesOn faulted failed drive first
    exact ⟨startCheck_eq_none_iff s, startCheck_of_state, startCheck_of_full, startCheck_of_unready,
      fun h hfirst hh hlow => startCheck_of_faulted hfirst hh hlow,
      fun h hfirst hsound hh hlow => startCheck_of_failed hfirst hsound hh hlow,
      fun hfirst hsound hpassed hdrive => (startCheck_of_sound hfirst hsound hpassed).trans (if_neg hdrive),
      fun hfirst hsound hpassed hdrive => (startCheck_of_sound hfirst hsound hpassed).trans (if_pos hdrive)⟩

end Sys2Proof.Machine
end

section
/-! PROOFS. STOP in IDLE, READY and HALTED: the waits end, and the operation in the slot is aborted (R39, R74, R80, R97, R103, R124, R133,
R154). -/

namespace Sys2Proof.Machine

/-! ### An operation that ends ABORTED (R102, R103, R204) -/

/-- The operation in the slot has ended ABORTED with this detail. -/
def State.abortedWith (op : Op) (detail : List Byte) (s : State) : State :=
  raiseNotice srcOpDone s.store.cursor (u8 op.kind.value ++ u8 op.starter.value ++ [2] ++ detail)
    { s with run := { s.run with slot := none } }

theorem endOperation_aborted {s : State} {op : Op} (h : s.run.slot = some op) (detail : List Byte) :
    endOperation .aborted detail s = s.abortedWith op detail := by
  have hresult : u8 OpResult.aborted.value = [2] := by decide
  rw [endOperation_of_slot h, hresult]
  rfl

theorem clearResume_of_cleared {s : State} (hresume : s.run.resume = none) (htimer : s.run.colourTimer = .stopped) :
    clearResume s = s := by
  have hrun : { s.run with resume := none, colourTimer := .stopped } = s.run := by rw [← hresume, ← htimer]
  simp only [clearResume, State.modRun, hrun]

/-- The detail words of a change that a STOP ends (R133, R204). -/
theorem detailWordBytes_stopped : detailWordBytes (some .stopped) = [1, 1] := by decide

/-- What a change gives of its target, the settled needle and its time (R204). -/
def State.changeBytes (s : State) (c : NeedleChange) : List Byte :=
  u8 c.target ++ byteOrNone s.needle.settled ++ u32 (s.clock - c.stamp).toNat

section
variable {s : State} {op : Op} {c : NeedleChange} (hslot : s.run.slot = some op) (hchange : s.needle.change = some c)
include hslot hchange

/-- A NEEDLE SELECT ended by a STOP (R133, R135). -/
theorem endChange_select_stopped (hp : c.purpose = .select) : endChange .aborted (some .stopped) s =
    State.abortedWith op (u8 s.store.cursorColour ++ s.changeBytes c ++ [1, 1])
      { s with needle := { s.needle with request := false, change := none } } := by
  rw [endChange_of_some hchange]
  simp only [hp]
  rw [endOperation_aborted (s := releaseChange s) hslot, changeDetail, detailWordBytes_stopped]
  simp only [State.changeBytes, List.append_assoc]
  rfl

/-- A COLOUR change ended by a STOP that has ended the waits already (R97, R133, R134). -/
theorem endChange_colour_stopped (hp : c.purpose = .colour) (hwait : s.run.resume = none ∧ s.run.colourTimer = .stopped) :
    endChange .aborted (some .stopped) s =
    State.abortedWith op (u8 s.store.cursorColour ++ s.changeBytes c ++ [1, 1])
      { s with needle := { s.needle with request := false, change := none } } := by
  have hcleared (d : List Byte) :
      clearResume (State.abortedWith op d (releaseChange s)) = State.abortedWith op d (releaseChange s) :=
    clearResume_of_cleared hwait.1 hwait.2
  rw [endChange_of_some hchange]
  simp only [hp, endColourChange, reduceCtorEq, Option.some.injEq, false_and, if_false]
  rw [endOperation_aborted (s := releaseChange s) hslot, hcleared, changeDetail, detailWordBytes_stopped]
  simp only [State.changeBytes, List.append_assoc]
  rfl

/-- A stepwise operation whose LANDING change a STOP ends (R133, R137). -/
theorem endChange_landing_stopped (hp : c.purpose = .landing) : endChange .aborted (some .stopped) s =
    State.abortedWith op ([1] ++ s.changeBytes c ++ [1, 1])
      { s with needle := { s.needle with request := false, change := none } } := by
  have hflag : flagByte true = [1] := by decide
  rw [endChange_of_some hchange]
  simp only [hp]
  rw [endOperation_aborted (s := releaseChange s) hslot, landingDetail, detailWordBytes_stopped]
  simp only [State.changeBytes, Option.map_some, whenBytes, hflag, List.append_assoc]
  rfl

end

/-! ### The operations that end at once (R80, R124, R154) -/

section
variable {s : State} {op : Op} (hslot : s.run.slot = some op)
include hslot

/-- A stepwise operation that a STOP ends with no change and no move of its own (R80). -/
theorem endStepwise_stopped : endStepwise .aborted none s =
    State.abortedWith op [0, 0, 0, 0, 0, 0, 0, 0, 0] { s with frame := { s.frame with dwell := none } } := by
  have hdetail : landingDetail s none none = [0, 0, 0, 0, 0, 0, 0, 0, 0] := by
    have hword : detailWordBytes none = [0, 0] := by decide
    have hflag : flagByte false = [0] := by decide
    simp only [landingDetail, Option.map_none, whenBytes, hword, hflag]
    rfl
  rw [endStepwise, hdetail]
  exact endOperation_aborted (s := s.modFrame fun f => { f with dwell := none }) hslot _

/-- The detail of a SENSOR TEST that ends with the idle readings alone (R154, R204). -/
def idleBytes (x : SensorTest) : List Byte :=
  let listed := allHeads.filter fun h => inSet x.heads h
  u8 listed.length ++ listed.flatMap fun h : Head => [255] ++ u16 x.idle[h].toNat ++ [255, 255]

omit hslot in
theorem sensorDetail_unfinished (x : SensorTest) : sensorDetail s x false = idleBytes x := by
  have hverdict : byteOrNone none = [255] := by decide
  have hreading : halfOrNone none = [255, 255] := by decide
  simp only [sensorDetail, Bool.false_eq_true, if_false, hverdict, hreading]
  rfl

theorem abortSensorTest_stopped {x : SensorTest} (htest : s.thread.test = some x) : abortSensorTest s =
    State.abortedWith op (idleBytes x) { s with thread := { s.thread with testLoad := 0, test := none } } := by
  simp only [abortSensorTest, htest, sensorDetail_unfinished]
  exact endOperation_aborted (s := releaseSensorTest s) hslot _

theorem finishChannelTest_stopped {x : ChanTest} (htest : s.func.test = some x) : finishChannelTest .aborted s =
    State.abortedWith op (u8 x.chan.val ++ u16 x.heads.toNat ++ u32 (x.duration - x.left))
      { s with func := { s.func with
        test := none
        channels := s.func.channels.set x.chan { s.func.channels[x.chan] with pulse := none } } } := by
  have hended : endChannelTest s = (s.modChannel x.chan Channel.endPulse).modFunc fun u => { u with test := none } := by
    simp only [endChannelTest, htest]
  simp only [finishChannelTest, htest, reduceCtorEq, if_false, channelDetail]
  rw [hended]
  exact endOperation_aborted (s := (s.modChannel x.chan Channel.endPulse).modFunc fun u => { u with test := none }) hslot _

end

/-! ### STOP in IDLE, READY and HALTED (R97) -/

/-- A STOP that leaves t, which is the answer DONE (R97). -/
theorem exec_stop {s t : State} {tag : Byte} (hs : s.ready) (h : stopRequest (hunt s) = (t, plain .done)) :
    exec (.stop tag) s = .next (replied 0x10 tag .done [] t) :=
  exec_answered (a := plain .done) rfl hs rfl (by decide) h

theorem stopRequest_of_stopping {s : State} (h : s.run.state = .stopping ∨ s.run.state = .locked) : stopRequest s = (s, plain .done) := by
  rcases h with h | h <;> simp only [stopRequest, h]

theorem stopRequest_at_rest {s : State} (h : s.run.state = .idle ∨ s.run.state = .ready ∨ s.run.state = .halted) :
    stopRequest s = (stopAtRest s, plain .done) := by
  rcases h with h | h | h <;> simp only [stopRequest, h]

theorem stopRequest_of_running {s : State} (h : s.run.state = .running) :
    stopRequest s = (takeCause .operator s.store.cursor s, plain .done) := by
  simp only [stopRequest, h]

theorem stopAtRest_of_empty {s : State} (h : s.run.slot = none) : stopAtRest s = clearResume s := by
  have hempty : (clearResume s).run.slot = none := h
  have hquiet : (clearResume s).needleUpRuns = false := by simp [State.needleUpRuns, hempty]
  simp only [stopAtRest, hquiet, Bool.false_eq_true, if_false, abortOperation_of_empty hempty]

section
variable {s : State} {op : Op} (hslot : s.run.slot = some op)
include hslot

theorem stopAtRest_aborts (hkind : op.kind ≠ .needleUp) : stopAtRest s = abortOperation .stopped (clearResume s) := by
  have hfilled : (clearResume s).run.slot = some op := hslot
  have hquiet : (clearResume s).needleUpRuns = false := by simp [State.needleUpRuns, hfilled, hkind]
  simp only [stopAtRest, hquiet, Bool.false_eq_true, if_false]

/-- A NEEDLE UP on a turning shaft is marked, and the shaft brakes (R34, R37, R39). -/
theorem stopAtRest_needleUp (hkind : op.kind = .needleUp) (hmotion : s.shaft.motion = .turning)
    (hquiet : s.shaft.quiet < s.nat .stopQuiet) (hbrake : s.shaft.brake = false) :
    stopAtRest s = { s with
      run := { s.run with resume := none, colourTimer := .stopped, slot := some { op with aborted := true } }
      shaft := { s.shaft with line := 0, stall := none, brake := true, waiting := none, counting := true, overrun := 0 } } := by
  have hfilled : (clearResume s).run.slot = some op := hslot
  have hruns : (clearResume s).needleUpRuns = true := by simp [State.needleUpRuns, hfilled, hkind]
  have hbraked : s.shaft.braked =
      { s.shaft with line := 0, stall := none, brake := true, waiting := none, counting := true, overrun := 0 } := by
    simp [Shaft.braked, hbrake, hmotion]
  let marked : State := (clearResume s).modRun fun r => { r with slot := some { op with aborted := true } }
  have hbrakes : brakeOrder .atOnce marked = { marked with shaft := s.shaft.braked } :=
    brakeOrder_turns (s := marked) hmotion hquiet
  simp only [stopAtRest, hruns, if_true]
  rw [abortOperation_needleUp hfilled _ hkind, hbrakes, hbraked]
  rfl

/-- A stepwise operation at its change, at a move of its own, or between them (R80, R137). -/
theorem abortOperation_steps (w : DetailWord) (hkind : op.kind = .backtrack ∨ op.kind = .repair ∨ op.kind = .repairAbandon) :
    abortOperation w s = if s.needle.change.isSome then endChange .aborted (some w) s
      else if s.frame.ownMove.isSome then markAbort .stop s else endStepwise .aborted none s := by
  rcases hkind with h | h | h <;> simp only [abortOperation, hslot, h]

/-- A move of the operation ends it when it, or its chunk, is complete (R74, R80). -/
theorem abortOperation_marks {m : Move} (w : DetailWord) (hmove : s.frame.move = some m) (hturn : m.purpose ≠ .turnMove)
    (hkind : op.kind = .home ∨ op.kind = .frameOut ∨ op.kind = .frameReturn ∨
      ((op.kind = .backtrack ∨ op.kind = .repair ∨ op.kind = .repairAbandon) ∧ s.needle.change = none)) :
    abortOperation w s = { s with frame := { s.frame with move := some { m with abort := m.abort.or (some .stop) } } } := by
  have hown : s.frame.ownMove.isSome = true := by rw [Frame.ownMove_eq_some.mpr ⟨hmove, hturn⟩]; rfl
  have hmark : markAbort .stop s = { s with frame := { s.frame with move := some { m with abort := m.abort.or (some .stop) } } } := by
    simp only [markAbort, State.modFrame, hmove, Option.map_some]
  rw [← hmark]
  rcases hkind with h | h | h | ⟨h, hnone⟩
  case inr.inr.inr =>
    rw [abortOperation_steps hslot w h, hnone]
    exact if_pos hown
  all_goals simp only [abortOperation, hslot, h, hown, if_true]

end

end Sys2Proof.Machine
end

section
/-! PROOFS. STOP in a run (R53, R55, R88, R93, R96, R97), INJECT (R104), and O46. -/

namespace Sys2Proof.Machine

/-! ### The cause taken in RUNNING (R93, R97) -/

/-- A run whose primary cause has been recorded is STOPPING, and STATE is raised (R84, R93). -/
theorem recordPrimary_of_running {s : State} (h : s.run.state = .running) (c : Cause) (i : Nat) : recordPrimary c i s =
    raiseNotice srcState s.store.cursor (stateDetail .running .stopping s.store.cursor none) { s with run := { s.run with
      state := .stopping, kind := some c.kind, report := { s.run.report with primary := some ⟨c, i, s.clock⟩ } } } := by
  let u : State := s.modRun fun r => { r with kind := some c.kind, report := { r.report with primary := some ⟨c, i, s.clock⟩ } }
  have hstate : u.run.state = .running := h
  have hset : recordPrimary c i s = setRunState .stopping u := rfl
  rw [hset, setRunState, hstate]
  rfl

/-- What the cause OPERATOR then acts on. -/
theorem takeCause_operator {s : State} (h : s.run.state = .running) (i : Nat) :
    takeCause .operator i s = actOnRun .operator true (recordPrimary .operator i s) := by
  have hquiet : Cause.isEmergency .operator = false := rfl
  simp only [takeCause, h, hquiet, Bool.false_eq_true, if_false]

/-! ### The stop point that it asks for in SEWING (R53, R55) -/

theorem ceilDiv_eq {a r p : Nat} (hr : 0 < r) (hle : a ≤ p * r) (hlt : 0 < p → (p - 1) * r < a) : ceilDiv a r = p := by
  refine Nat.div_eq_of_lt_le ?_ (by rw [Nat.succ_mul]; omega)
  cases p with
  | zero => omega
  | succ n =>
    have hn : n * r < a := hlt (Nat.succ_pos n)
    rw [Nat.succ_mul]
    omega

/-- The last turn that a stop-point request gives (R53, R55). -/
def State.stopLast (s : State) : Option Nat :=
  let p := ceilDiv (s.planner.demand - s.nat .speedStopEntry) (s.nat .rampDown)
  if s.planner.freshAt = some s.clock then s.table.sewTurn
  else
    match s.planner.lookahead[p]? with
    | some e => some e.index
    | none =>
      match s.planner.lookahead.getLast? with
      | some e => some e.index
      | none => s.table.sewTurn

theorem requestStopPoint_stopPoint (c : Cause) (s : State) : (requestStopPoint c s).planner.stopPoint =
    if (match s.planner.stopPoint with | none => false | some sp => !lastBelow s.stopLast sp.last) then s.planner.stopPoint
    else some ⟨c, s.stopLast⟩ := by
  have hkept (keep : Bool) (x : Option StopPoint) :
      (rebuild (s.modPlanner fun p => if keep then p else { p with stopPoint := x })).planner.stopPoint =
        if keep then s.planner.stopPoint else x := by
    cases keep <;> rfl
  exact hkept _ _

section
variable {s : State}

theorem stopLast_of_empty (h : s.planner.freshAt = some s.clock ∨ s.planner.lookahead = []) : s.stopLast = s.table.sewTurn := by
  unfold State.stopLast
  by_cases hfresh : s.planner.freshAt = some s.clock
  · exact if_pos hfresh
  · simp [hfresh, h.resolve_left hfresh]

/-- The turn at position p of the list, or its last one (R53). -/
theorem stopLast_of_slowing {p : Nat} {l : Entry} (hfresh : s.planner.freshAt ≠ some s.clock) (hramp : 0 < s.nat .rampDown)
    (hle : s.planner.demand ≤ s.nat .speedStopEntry + p * s.nat .rampDown)
    (hlt : 0 < p → s.nat .speedStopEntry + (p - 1) * s.nat .rampDown < s.planner.demand)
    (hlast : s.planner.lookahead.getLast? = some l) : s.stopLast = some ((s.planner.lookahead[p]?).getD l).index := by
  have hp : ceilDiv (s.planner.demand - s.nat .speedStopEntry) (s.nat .rampDown) = p :=
    ceilDiv_eq hramp (by omega) fun hpos => by have := hlt hpos; omega
  unfold State.stopLast
  simp only [if_neg hfresh, hp, hlast]
  cases s.planner.lookahead[p]? <;> rfl

theorem requestStopPoint_of_none (c : Cause) (h : s.planner.stopPoint = none) :
    (requestStopPoint c s).planner.stopPoint = some ⟨c, s.stopLast⟩ := by
  rw [requestStopPoint_stopPoint, h]
  rfl

/-- A standing stop point stays unless the new one is nearer (R53). -/
theorem requestStopPoint_of_some (c : Cause) {old : StopPoint} {j k : Nat} (h : s.planner.stopPoint = some old)
    (hold : old.last = some k) (hnew : s.stopLast = some j) :
    (requestStopPoint c s).planner.stopPoint = some (if j < k then ⟨c, some j⟩ else old) := by
  rw [requestStopPoint_stopPoint, h]
  simp only [hold, hnew, lastBelow]
  by_cases hjk : j < k <;> simp [hjk]

end

/-! ### The start that it ends (R88, R96) -/

section
variable {s : State}

/-- The start's work as the end of the start leaves it: a return move to end with its chunk, a needle change ended (R78, R88, R133). -/
def State.startCeased (s : State) : State :=
  match s.run.work with
  | some .returnMove => markAbort .stop s
  | some .needle => endChange .aborted (some .stopped) s
  | _ => s

theorem endStart_eq (s : State) : endStart s = brakeOrder .atOnce (zeroDemand s).startCeased := rfl

/-- The stopped report of a shaft at rest taken in STOPPING, with the pulses ended (R31, R34, R121). -/
def State.restTaken (s : State) : State :=
  (cancelPulses { s with shaft := s.shaft.braked }).modRun fun x =>
    { x with rested := some ⟨s.angle, s.verdictAt s.angle, s.shaft.needleUp, 0⟩ }

theorem brakeOrder_in_stopping (hmotion : s.shaft.motion = .stopped) (hstate : s.run.state = .stopping) :
    brakeOrder .atOnce s = tryEndStop s.restTaken := by
  rw [brakeOrder_of_stopped hmotion]
  exact if_pos hstate

/-- A stop in STARTING waits for the work in progress (R88, R96). -/
theorem tryEndStop_waits {w : Work} (hphase : s.run.phase = some .starting) (hwork : s.run.work = some w) : tryEndStop s = s := by
  unfold tryEndStop
  split
  · simp [hphase, hwork]
  · rfl

/-- With the stop ended the planner holds no demand (R52). -/
theorem stopReportedIn_held (l : RunState) (x : StoppedReport) (s : State) : (s.stopReportedIn l x).planner.held = false := by
  have hrest (u : State) : (blocksAtRest u).planner.held = false := rfl
  simp only [State.stopReportedIn, raiseNotice_planner, setRunState_planner, hrest]

end

/-- The stop of the OPERATOR ends HALTED, with no wait (R96, R99, R101). -/
theorem endStop_of_operator {s : State} (x : StoppedReport) (hstate : s.run.state = .stopping)
    (hkind : s.run.kind = some .controlled) (hcause : s.run.report.primary.map Recorded.cause = some .operator) :
    ∃ u, s.ReportsStop .halted x u ∧ u.planner.held = false ∧ endStop x s = { u with run := { u.run with resume := none } } := by
  have hreports := reportsStop_stopReportedIn (.inl rfl) x hstate
  refine ⟨_, hreports, stopReportedIn_held .halted x s, ?_⟩
  have hsame : (s.stopReportedIn .halted x).run.report.primary.map Recorded.cause = some .operator := by
    rw [hreports.run_eq]
    exact hcause
  have hcolour : (s.stopReportedIn .halted x).run.report.primary.map Recorded.cause ≠ some .colour := by rw [hsame]; decide
  have hwait : (s.stopReportedIn .halted x).waitAfterStop = none := by simp [waitAfterStop_of_other hcolour, hsame]
  rw [endStop_eq, if_neg (by rw [hkind]; decide), afterHalt_of_other hcolour, hwait]
  rfl

/-! ### STOP in RUNNING (R97) -/

/-- The run with the cause OPERATOR as its primary cause (R93, R97). -/
def State.operatorRun (s : State) : Run := { s.run with
  state := .stopping, kind := some .controlled
  report := { s.run.report with primary := some ⟨.operator, s.store.cursor, s.clock⟩ } }

/-- The state with that run, the change of run state raised (R84). -/
def State.operatorTaken (s : State) : State :=
  raiseNotice srcState s.store.cursor (stateDetail .running .stopping s.store.cursor none) { s with run := s.operatorRun }

/-- The start that it ends, its work ceased (R88). -/
def State.operatorCeased (s : State) : State := (zeroDemand s.operatorTaken).startCeased

/-- The frame whose return move is to end with its chunk; any other work leaves the frame as it is (R78, R88). -/
def Frame.returnCeased (w : Work) (f : Frame) : Frame :=
  if w = .returnMove then { f with move := f.move.map fun m => { m with abort := m.abort.or (some .stop) } } else f

/-- The needle change of the start ended (R88, R133). -/
def State.operatorReleased (s : State) : State :=
  (releaseChange (zeroDemand s.operatorTaken)).modRun fun x => { x with work := none }

section
variable {s : State} (hstate : s.run.state = .running)
include hstate

theorem takeCause_operator_eq : takeCause .operator s.store.cursor s = actOnRun .operator true s.operatorTaken := by
  rw [takeCause_operator hstate, recordPrimary_of_running hstate]
  rfl

theorem takeCause_operator_sewing (hphase : s.run.phase = some .sewing) :
    takeCause .operator s.store.cursor s = requestStopPoint .operator s.operatorTaken := by
  rw [takeCause_operator_eq hstate]
  exact actOnRun_of_family (c := .operator) rfl (s := s.operatorTaken) hphase true

variable (hphase : s.run.phase = some .starting)
include hphase

theorem takeCause_operator_starting : takeCause .operator s.store.cursor s = brakeOrder .atOnce s.operatorCeased := by
  have hstarting : s.operatorTaken.run.phase = some .starting := hphase
  rw [takeCause_operator_eq hstate, actOnRun, hstarting]
  exact endStart_eq _

variable (hmotion : s.shaft.motion = .stopped)
include hmotion

/-- Work other than a needle change goes on, a return move to the end of its chunk (R78, R88). -/
theorem takeCause_operator_waits {w : Work} (hwork : s.run.work = some w) (hw : w ≠ .needle) :
    takeCause .operator s.store.cursor s = State.restTaken { zeroDemand s.operatorTaken with frame := s.frame.returnCeased w } := by
  have hceased : s.operatorCeased = { zeroDemand s.operatorTaken with frame := s.frame.returnCeased w } := by
    have hsome : (zeroDemand s.operatorTaken).run.work = some w := hwork
    simp only [State.operatorCeased, State.startCeased, hsome]
    cases w with
    | needle => exact absurd rfl hw
    | _ => rfl
  rw [takeCause_operator_starting hstate hphase, hceased, brakeOrder_in_stopping (by exact hmotion) rfl]
  exact tryEndStop_waits (by exact hphase) (by exact hwork)

/-- A needle change ends at once, and the stop with it (R88, R96, R133). -/
theorem takeCause_operator_ends (hwork : s.run.work = some .needle) {c : NeedleChange} (hchange : s.needle.change = some c)
    (hpurpose : c.purpose = .start) : takeCause .operator s.store.cursor s =
      endStop ⟨s.angle, s.verdictAt s.angle, s.shaft.needleUp, 0⟩ s.operatorReleased.restTaken := by
  have hceased : s.operatorCeased = s.operatorReleased := by
    have hsome : (zeroDemand s.operatorTaken).run.work = some .needle := hwork
    have hends := endChange_of_some (s := zeroDemand s.operatorTaken) hchange (r := .aborted) (w := some .stopped)
    simp only [State.operatorCeased, State.startCeased, hsome]
    rw [hends, hpurpose]
    rfl
  rw [takeCause_operator_starting hstate hphase, hceased, brakeOrder_in_stopping (by exact hmotion) rfl]
  exact tryEndStop_ends rfl rfl rfl

end

/-! ### What the stop of a start at its needle change leaves (R88, R92, R96) -/

theorem restTaken_channel (s : State) (k : Chan) : s.restTaken.func.channels[k] = { s.func.channels[k] with pulse := none } :=
  cancelPulses_channel _ k

/-- The stop of a start that is at its needle change: its machine's side and its run. -/
theorem endStop_operatorReleased (s : State) : ∃ t,
    endStop ⟨s.angle, s.verdictAt s.angle, s.shaft.needleUp, 0⟩ s.operatorReleased.restTaken = t ∧
    (t.shaft = s.shaft.braked ∧ t.planner.demand = 0 ∧ t.planner.held = false ∧
      (∀ k : Chan, t.func.channels[k] = { s.func.channels[k] with pulse := none }) ∧ t.params = s.params ∧
      t.store.cursor = s.store.cursor) ∧
    t.run = { s.operatorRun with
      state := .halted, phase := none, work := none, outstanding := none, rested := none, inject := none, resume := none
      report := { s.operatorRun.report with
        kind := some .controlled, angle := s.angle, verdict := some (s.verdictAt s.angle), overrun := 0
        incomplete := s.run.outstanding.map Turn.index, discarded := s.run.inject.or s.run.report.discarded } } ∧
    t.notices.sources[srcStop].pending = true ∧ t.frame = s.frame ∧
    t.needle = { s.needle with request := false, change := none, watch := none } := by
  let x : State := s.operatorReleased.restTaken
  obtain ⟨u, hreports, hheld, hend⟩ :=
    endStop_of_operator (s := x) ⟨s.angle, s.verdictAt s.angle, s.shaft.needleUp, 0⟩ rfl rfl rfl
  obtain ⟨hparams, -, hshaft, hframe, hfunc, -⟩ := machineSide_eq_iff.mp hreports.side
  have hcursor : u.store.cursor = s.store.cursor := congrArg (fun l : LowSide => l.store.cursor) hreports.rests.lowSide
  have hpulses (k : Chan) : u.func.channels[k] = { s.func.channels[k] with pulse := none } :=
    (congrArg (fun f : FuncUnit => f.channels[k]) hfunc).trans (restTaken_channel _ k)
  exact ⟨{ u with run := { u.run with resume := none } }, hend, ⟨hshaft, hreports.rests.demand, hheld, hpulses, hparams, hcursor⟩,
    congrArg (fun r : Run => { r with resume := none }) hreports.run_eq, hreports.pending, hframe, hreports.needle⟩

/-! ### INJECT (R104) -/

section
variable {s : State} {code : Byte}

theorem injectRequest_of_form (h : 63 < code.toNat) : injectRequest code s = (s, plain .form) := by
  have hnone : codeOf code = none := dif_neg (by omega)
  simp only [injectRequest, hnone]

theorem injectRequest_of_code {c : Code} (h : c.val = code.toNat) : injectRequest code s =
    if s.run.state ≠ .running then (s, plain .state)
    else if s.run.inject.isSome then (s, plain .busy)
    else (s.modRun fun r => { r with inject := some c }, plain .done) := by
  have hsome : codeOf code = some c := by
    have hlt : code.toNat < 64 := h ▸ c.isLt
    exact (dif_pos hlt).trans (congrArg some (Fin.ext h.symm))
  simp only [injectRequest, hsome]

end

theorem exec_inject {s t : State} {tag code : Byte} {a : Answer} (hs : s.ready) (h : injectRequest code (hunt s) = (t, a)) :
    exec (.inject tag code) s = .next (replied 0x12 tag a.status a.payload t) :=
  exec_answered rfl hs rfl (by decide) h

/-! ### STOP by the run state (R97) -/

section
variable {tag : Byte} {s : State} (hs : s.ready)
include hs

/-- A STOP in RUNNING leaves what the cause OPERATOR leaves. -/
theorem exec_stop_running {t : State} (hstate : s.run.state = .running)
    (h : takeCause .operator (hunt s).store.cursor (hunt s) = t) : exec (.stop tag) s = .next (replied 0x10 tag .done [] t) :=
  exec_stop hs ((stopRequest_of_running (s := hunt s) hstate).trans (by rw [h]))

variable (hrest : s.run.state = .idle ∨ s.run.state = .ready ∨ s.run.state = .halted)
include hrest

theorem exec_stop_at_rest {t : State} (h : stopAtRest (hunt s) = t) : exec (.stop tag) s = .next (replied 0x10 tag .done [] t) :=
  exec_stop hs ((stopRequest_at_rest (s := hunt s) hrest).trans (by rw [h]))

/-- It ends the operation in the slot as its kind has it (R103). -/
theorem exec_stop_aborts {op : Op} {t : State} (hslot : s.run.slot = some op) (hkind : op.kind ≠ .needleUp)
    (h : abortOperation .stopped (clearResume (hunt s)) = t) : exec (.stop tag) s = .next (replied 0x10 tag .done [] t) :=
  exec_stop_at_rest hs hrest ((stopAtRest_aborts (s := hunt s) hslot hkind).trans h)

end

/-- Settles O46, by the run state, the kind of the operation in the slot, and the phase of the run. -/
theorem stopAndInjectActByRunState : Obligations.StopAndInjectActByRunState := by
  unfold Obligations.StopAndInjectActByRunState
  refine ⟨fun tag s hs => ⟨fun hstate => exec_stop hs (stopRequest_of_stopping (s := hunt s) hstate),
    fun hrest hslot => exec_stop_at_rest hs hrest (stopAtRest_of_empty (s := hunt s) hslot), fun op hrest hslot => ?_,
    fun hstate hphase => ?_, fun hstate hphase hmotion => ?_⟩, fun tag code s hs => ⟨?_, ?_⟩⟩
  · intro q done ended stepwise
    have hsteps (h : stepwise) : op.kind ≠ .needleUp := by rcases h with h | h | h <;> simp [h]
    have haborts {t : State} (hkind : op.kind ≠ .needleUp) (h : abortOperation .stopped q = t) : done t :=
      exec_stop_aborts hs hrest hslot hkind h
    refine ⟨fun hkind hmotion hquiet hbrake =>
        exec_stop_at_rest hs hrest (stopAtRest_needleUp (s := hunt s) hslot hkind hmotion hquiet hbrake),
      fun m hkind hmove hturn => haborts ?_ (abortOperation_marks (s := q) hslot _ hmove hturn hkind),
      fun hkind hnone hown => haborts (hsteps hkind) ?_,
      fun c hchange => ⟨fun hkind => haborts ?_ ?_, fun hkind hpurpose => haborts (hsteps hkind) ?_⟩,
      fun x hkind htest => haborts (by rw [hkind]; decide)
        ((abortOperation_sensorTest (s := q) hslot _ hkind).trans (abortSensorTest_stopped (s := q) hslot htest)),
      fun x hkind htest => haborts (by rw [hkind]; decide)
        ((abortOperation_channelTest (s := q) hslot _ hkind).trans (finishChannelTest_stopped (s := q) hslot htest))⟩
    · rcases hkind with h | h | h | ⟨h | h | h, -⟩ <;> simp [h]
    · rw [abortOperation_steps (s := q) hslot _ hkind]
      have hnone' : q.needle.change = none := hnone
      have hown' : q.frame.ownMove = none := hown
      rw [hnone', hown']
      exact endStepwise_stopped (s := q) hslot
    · rcases hkind with ⟨h, -⟩ | ⟨h, -⟩ <;> rw [h] <;> decide
    · rw [abortOperation_change (s := q) hslot _ (hkind.imp And.left And.left)]
      rcases hkind with ⟨-, hpurpose⟩ | ⟨-, hpurpose⟩
      · exact endChange_select_stopped (s := q) hslot hchange hpurpose
      · exact endChange_colour_stopped (s := q) hslot hchange hpurpose ⟨rfl, rfl⟩
    · have hchange' : q.needle.change = some c := hchange
      rw [abortOperation_steps (s := q) hslot _ hkind, hchange']
      exact endChange_landing_stopped (s := q) hslot hchange hpurpose
  · let v : State := (hunt s).operatorTaken
    exact ⟨requestStopPoint .operator v, exec_stop_running hs hstate (takeCause_operator_sewing (s := hunt s) hstate hphase), rfl,
      ⟨v.stopLast, stopLast_of_empty (s := v), fun hfresh p l hramp => stopLast_of_slowing (s := v) hfresh hramp,
        requestStopPoint_of_none (s := v) .operator, fun old j k => requestStopPoint_of_some (s := v) .operator⟩,
      (asksStop_requestStopPoint .operator v).demand, rfl, rfl, rfl, rfl, rfl, rfl, rfl, rfl, rfl⟩
  · intro braked taken stands
    have hbraked : s.shaft.braked = braked := by simp [Shaft.braked, braked, hmotion]
    refine ⟨fun w hwork hw => ⟨_, exec_stop_running hs hstate
        (takeCause_operator_waits (s := hunt s) hstate hphase hmotion hwork hw),
        ⟨hbraked, rfl, rfl, restTaken_channel _, rfl, rfl⟩, rfl, rfl, rfl, rfl, rfl, rfl⟩,
      fun hwork c hchange hpurpose => ?_⟩
    obtain ⟨t, hend, ⟨hshaft, hstands⟩, hrun, hpending, hframe, hneedle⟩ := endStop_operatorReleased (hunt s)
    refine ⟨t, exec_stop_running hs hstate
        ((takeCause_operator_ends (s := hunt s) hstate hphase hmotion hwork hchange hpurpose).trans hend),
      ⟨hshaft.trans hbraked, hstands⟩, ?_⟩
    rw [hrun]
    exact ⟨rfl, rfl, rfl, rfl, rfl, rfl, rfl, rfl, rfl, rfl, rfl, hpending, hframe, hneedle⟩
  · exact fun hform => exec_inject (a := plain .form) hs (injectRequest_of_form (s := hunt s) hform)
  · refine fun c hc => ⟨fun hstate => ?_, fun hstate hbusy => ?_, fun hstate hnone => ?_⟩
    · exact exec_inject (a := plain .state) hs ((injectRequest_of_code (s := hunt s) hc).trans (if_pos hstate))
    · have hsome : s.run.inject.isSome = true := Option.isSome_iff_ne_none.mpr hbusy
      exact exec_inject (a := plain .busy) hs
        ((injectRequest_of_code (s := hunt s) hc).trans ((if_neg (not_not.mpr hstate)).trans (if_pos hsome)))
    · have hempty : ¬ s.run.inject.isSome = true := by rw [hnone]; decide
      exact exec_inject (a := plain .done) hs
        ((injectRequest_of_code (s := hunt s) hc).trans ((if_neg (not_not.mpr hstate)).trans (if_neg hempty)))

end Sys2Proof.Machine
end
